-- ==== Sys2Proof/Word.lean ====
section
/-! DEFINITION. The byte of the station line and of a log slot, and its plainest arithmetic. -/

namespace Sys2Proof

/-- One byte of a frame's payload (R185) or of a log slot (R150). -/
abbrev Byte := BitVec 8

/-- The byte a number is sent as, modulo 256. -/
def byteOf (n : Nat) : Byte := BitVec.ofNat 8 n

end Sys2Proof
end

