-- ==== Sys2Proof/Syntax.lean ====
section
/-! DEFINITION. The commands the block takes: one constructor for each row of spec/opcode_table.json, in its order,
and the data their operands carry. -/

namespace Sys2Proof

/-- The straps read at hardware reset (00_scope.md, Configuration). -/
structure Straps where
  stn : Nat
  endFitted : Bool
  pullFitted : Bool
  panelFitted : Bool
  deriving DecidableEq, Repr

/-- The levels of the sense inputs at a command's event (00_scope.md, Machine ports; log entry 3). -/
structure Pins where
  wirePresent : Bool
  frameContact : Bool
  stripIn : Bool
  stripOut : Bool
  magPresent : Bool
  slotSense : Bool
  deriving DecidableEq, Repr

/-- Sender and target of a received frame (R185): sender 1..7, target 0 for all stations or 1..7. -/
structure Hdr where
  sender : Nat
  target : Nat
  deriving DecidableEq, Repr

/-- The axes of the axis port: table X and Y, Z, elevator E, pusher P, belt B, hook H. -/
inductive Axis where
  | x | y | z | e | p | b | h
  deriving DecidableEq, Repr

/-- The sixteen keys of a panel (chapter 11). -/
inductive Key where
  | digit (d : Fin 10)
  | up | down | enter | back | menu | hold
  deriving DecidableEq, Repr

/-- What one scan of the key matrix yields (R176). -/
inductive Scan where
  | noKey
  | one (k : Key)
  | many
  deriving DecidableEq, Repr

/-- The record port's answer to a slot read of the start-up scan (R161). -/
inductive StoreAnswer where
  | slot (bytes : List Byte)
  | noStore
  deriving DecidableEq, Repr

/-- The commands. Every one carries the levels of the sense inputs at its event; a frame carries its header and the
fields of its payload (R186), an answer of the axis port the axis it is for. -/
inductive Instr where
  | hardwareReset (straps : Straps) (p : Pins)
  | listenEnd (p : Pins)
  | restart (h : Hdr) (p : Pins)
  | beacon (h : Hdr) (payload : List Byte) (p : Pins)
  | offer (h : Hdr) (serial : Nat) (p : Pins)
  | take (h : Hdr) (serial : Nat) (p : Pins)
  | decline (h : Hdr) (serial reason : Nat) (p : Pins)
  | stripRecord (h : Hdr) (payload : List Byte) (p : Pins)
  | alarm (h : Hdr) (seq kind serial unit wire : Nat) (p : Pins)
  | settled (h : Hdr) (seq kind choice responder : Nat) (p : Pins)
  | retry (h : Hdr) (station seq : Nat) (p : Pins)
  | skipUnit (h : Hdr) (station seq : Nat) (p : Pins)
  | passStrip (h : Hdr) (station seq : Nat) (p : Pins)
  | resume (h : Hdr) (station seq : Nat) (p : Pins)
  | continue_ (h : Hdr) (station seq : Nat) (p : Pins)
  | forward (h : Hdr) (station seq : Nat) (p : Pins)
  | grade (h : Hdr) (station ref mode : Nat) (p : Pins)
  | hold (h : Hdr) (station : Nat) (p : Pins)
  | release (h : Hdr) (station : Nat) (p : Pins)
  | bypass (h : Hdr) (station : Nat) (p : Pins)
  | resumeBonding (h : Hdr) (station : Nat) (p : Pins)
  | recipeSegment (h : Hdr) (payload : List Byte) (p : Pins)
  | recipeActivate (h : Hdr) (gen run : Nat) (p : Pins)
  | tallySnapshot (h : Hdr) (mode : Nat) (p : Pins)
  | tallyRead (h : Hdr) (p : Pins)
  | pullRead (h : Hdr) (first count : Nat) (p : Pins)
  | collected (h : Hdr) (first last : Nat) (p : Pins)
  | skipSlots (h : Hdr) (first last : Nat) (p : Pins)
  | magazineRead (h : Hdr) (p : Pins)
  | errorDetail (h : Hdr) (p : Pins)
  | discardedFrame (h : Hdr) (p : Pins)
  | badFrame (p : Pins)
  | quietGapExpiry (p : Pins)
  | readbackMismatch (p : Pins)
  | frameSent (p : Pins)
  | presenceTimeout (station : Nat) (p : Pins)
  | beaconTimerExpiry (p : Pins)
  | homingMoveDone (a : Axis) (p : Pins)
  | positioningMoveDone (a : Axis) (p : Pins)
  | contact (position : Nat) (p : Pins)
  | searchLimitReached (p : Pins)
  | ballDownDone (p : Pins)
  | loopingMoveDone (a : Axis) (p : Pins)
  | stitchDownDone (p : Pins)
  | tailMoveDone (p : Pins)
  | wireClampDone (p : Pins)
  | stripClampDone (p : Pins)
  | conditioningMoveDone (a : Axis) (p : Pins)
  | driveFault (a : Axis) (p : Pins)
  | transducerSample (v i : Nat) (p : Pins)
  | lock (p : Pins)
  | unlock (p : Pins)
  | sparkOk (p : Pins)
  | sparkOpen (p : Pins)
  | wirePresentFalls (p : Pins)
  | stripInRises (p : Pins)
  | stripOutClears (p : Pins)
  | offerTimerExpiry (p : Pins)
  | arrivalTimerExpiry (p : Pins)
  | exitTimerExpiry (p : Pins)
  | beltDone (p : Pins)
  | beltFault (p : Pins)
  | inputMagInserted (p : Pins)
  | inputMagRemoved (p : Pins)
  | outputMagInserted (p : Pins)
  | outputMagRemoved (p : Pins)
  | elevatorDone (p : Pins)
  | elevatorFault (p : Pins)
  | pusherDone (p : Pins)
  | pusherFault (p : Pins)
  | feedTimerExpiry (p : Pins)
  | slotSenseRises (p : Pins)
  | unloadTimerExpiry (p : Pins)
  | pullPositioningDone (a : Axis) (p : Pins)
  | forceSample (f : Nat) (p : Pins)
  | hookRiseDone (p : Pins)
  | hookReturnDone (p : Pins)
  | entryWriteDone (p : Pins)
  | headerWriteDone (p : Pins)
  | eraseDone (p : Pins)
  | pullReadSlotDone (bytes : List Byte) (p : Pins)
  | scanReadDone (answer : StoreAnswer) (p : Pins)
  | storeAnswerTimeout (p : Pins)
  | keyScan (pattern : Scan) (p : Pins)
  | keyRelease (p : Pins)
  | holdKey (p : Pins)
  | menuKey (p : Pins)
  | backKey (p : Pins)
  | upKey (p : Pins)
  | downKey (p : Pins)
  | digitKey (d : Fin 10) (p : Pins)
  | enterKey (p : Pins)
  | sendTimerExpiry (station seq : Nat) (p : Pins)
  | deferralTimerExpiry (p : Pins)
  | standby (p : Pins)
  deriving DecidableEq, Repr

end Sys2Proof
end

