-- ==== Sys2Proof/Config.lean ====
section
/-! DEFINITION. The fixed figures of the spec, and the one value it leaves open. -/

namespace Sys2Proof.Config

/-- Places of the transmit queue (R191). -/
def txPlaces : Nat := 8
/-- REFUSED frames that may wait for room (R193). -/
def refusedPlaces : Nat := 4
/-- Entries of the partial list (R9). -/
def partialPlaces : Nat := 4
/-- Entries of the pending-grade list (R145). -/
def pendingPlaces : Nat := 16
/-- Entries of the log's write queue (R154). -/
def writePlaces : Nat := 4
/-- Entries of a panel alarm list (R175). -/
def panelPlaces : Nat := 16
/-- Screens of the stack (R175). -/
def stackPlaces : Nat := 6
/-- Slots of a magazine (R117, R127). -/
def slots : Nat := 20
/-- Ranges of skipped slots (R117). -/
def rangePlaces : Nat := 4
/-- Blocks of the record store (R150). -/
def blocks : Nat := 64
/-- Slots of a block, its header's included (R150). -/
def blockSlots : Nat := 128

/-- Timers, in ms: beacon (R191), offer, arrival, exit (R90), feed (R117), unload (R127), panel send and deferral (R175), presence (R190). -/
def beaconMs : Nat := 50
def offerMs : Nat := 100
def arrivalMs : Nat := 2000
def exitMs : Nat := 2000
def feedMs : Nat := 1000
def unloadMs : Nat := 2000
def sendMs : Nat := 1000
def deferMs : Nat := 30000
def presenceMs : Nat := 250
/-- One key scan every 8 ms (R176). -/
def scanMs : Nat := 8

/-- The largest value of a 32-bit count (R196) and of a record number (R153). -/
def max32 : Nat := 4294967295
/-- The largest value of a 16-bit count (R196). -/
def max16 : Nat := 65535

/-- FREE VALUE (DESIGN CHOICE, safe, log entry 12): the last scroll position of a screen, by the screen's number.
R177 lets UP and DOWN scroll LINE, TALLY and MAGAZINE and does not say how far. -/
opaque scrollLimit : Nat → Nat

end Sys2Proof.Config
end

