-- ==== Sys2Proof/Machine/State.lean ====
section
/-! DEFINITION. Everything the spec gives the part, as plain data, and its value right after hardware reset. -/

namespace Sys2Proof.Machine

/-- Faults of a step. NO MEANING RAISES ONE: no rule leaves a command without an effect (log entry 9); safe. -/
inductive Fault where
  /-- Raised by nothing: the part stays in a State under every fault the spec describes (R61, R189). Safe. -/
  | unreachable
  deriving DecidableEq, Repr

/-- Refusals of a step. NO MEANING RAISES ONE. -/
inductive Refusal where
  /-- The command has no meaning in this model; raised only by an arm of `exec` that is not modelled yet. Safe. -/
  | notModelled (mnemonic : String)
  deriving DecidableEq, Repr

/-- A timer: stopped, or running with the period in ms it was last started with (log entry 1). -/
abbrev Timer := Option Nat

/-! ### Strips (chapter 1) -/

/-- The six states of a unit (R3); codes 0..5 in this order (R13). -/
inductive UnitState where
  | opened | partialDone | done | reject | pulled | unknown
  deriving DecidableEq, Repr

/-- A unit's entry: its state, and the station that made it DONE or REJECT, 0 for none (R2). -/
structure UnitEntry where
  state : UnitState
  bonder : Nat
  deriving DecidableEq, Repr

/-- A strip record (1.1). The unit count is the length of `units`; unit 1 stands first. -/
structure StripRecord where
  serial : Nat
  generation : Nat
  run : Nat
  units : List UnitEntry
  /-- (unit, next wire), ascending by unit (R9). -/
  partials : List (Nat × Nat)
  selected : Bool
  taken : Bool
  skipped : Bool
  deriving DecidableEq, Repr

/-- The five counts of R11. -/
structure Summary where
  done : Nat
  reject : Nat
  pulled : Nat
  opened : Nat
  unknown : Nat
  deriving DecidableEq, Repr

/-! ### Recipes (chapter 2) -/

/-- One entry of the wire table (2.1): sites in µm from the unit origin. -/
structure WireEntry where
  padX : Int
  padY : Int
  leadX : Int
  leadY : Int
  profile : Nat
  firstSet : Nat
  secondSet : Nat
  deriving DecidableEq, Repr

/-- A bond parameter set (2.1). `energyMode`: termination ENERGY, else TIME. -/
structure BondSet where
  impact : Nat
  power : Nat
  energyMode : Bool
  time : Nat
  eTarget : Nat
  eLo : Nat
  eHi : Nat
  band : Nat
  dMin : Nat
  iFloor : Nat
  deriving DecidableEq, Repr

/-- A loop profile (2.1). -/
structure LoopProfile where
  height : Nat
  reverse : Nat
  kink : Nat
  deriving DecidableEq, Repr

/-- The content of a recipe (2.1). -/
structure Recipe where
  generation : Nat
  product : Nat
  units : Nat
  wires : Nat
  columns : Nat
  pitchX : Nat
  pitchY : Nat
  originX : Nat
  originY : Nat
  approach : Nat
  searchLimit : Nat
  tail : Nat
  sparkCurrent : Nat
  sparkTime : Nat
  interval : Nat
  pullInterval : Nat
  pullWires : List Nat
  specMin : Nat
  armForce : Nat
  travel : Nat
  hookSpeed : Nat
  idleTime : Nat
  profiles : List LoopProfile
  sets : List BondSet
  wireTable : List WireEntry
  deriving DecidableEq, Repr

/-- Where a pending set stands (R21); NONE is generation 0. -/
inductive PendingStatus where
  | loading
  | invalid (item : Nat)
  | ready (r : Recipe)
  deriving DecidableEq, Repr

/-- The pending set (R18, R21): NONE when `generation` is 0. `segments` holds (index, data), ascending. -/
structure PendingSet where
  generation : Nat
  count : Option Nat
  segments : List (Nat × List Byte)
  status : PendingStatus
  /-- The run of a due activation (R25). -/
  due : Option Nat
  deriving DecidableEq, Repr

/-- An active or prior set with its run (R18). -/
structure HeldSet where
  recipe : Recipe
  run : Nat
  deriving DecidableEq, Repr

/-- The recipe store (R18). -/
structure RecipeStore where
  pending : PendingSet
  active : Option HeldSet
  prior : Option HeldSet
  deriving DecidableEq, Repr

/-! ### Window (chapter 6) -/

/-- R90; codes 0..4 in this order (R191). -/
inductive WindowState where
  | empty | inbound | clamped | offered | outbound
  deriving DecidableEq, Repr

/-- The window controller's data (R90). -/
structure Window where
  state : WindowState
  record : Option StripRecord
  inbound : Option StripRecord
  inboundSerial : Option Nat
  doneHere : Nat
  forward : Bool
  freshWait : Bool
  recordQueued : Bool
  offerTimer : Timer
  arrivalTimer : Timer
  exitTimer : Timer
  deriving DecidableEq, Repr

/-! ### Head (chapters 3 and 5) -/

/-- R34. -/
inductive HeadState where
  | parked | homing | searching | ballDown | firstBond | looping | stitchDown | secondBond | tail | sparking
  | conditioning | pulling | held
  deriving DecidableEq, Repr

/-- The request whose answer a head state waits for (R37, R40 to R45, R55, R83). -/
inductive Stage where
  | idle
  | homingClamp | homingZ | homingTable
  | posZ | posTable | posApproach
  | search
  | lower
  | bond
  | loopClamp | loopKink | loopReverse | loopHeight | loopLead
  | stitch
  | tailPay | tailClamp | tailTear
  | clearClamp | clearTear
  | fire
  | condZ | condTable | condClamp | condFire
  deriving DecidableEq, Repr

/-- The steps of a wire, the rows of the table of 3.4 (log entry 14). -/
inductive WireStep where
  | positioning | touchLearn | ballDown | firstBond | looping | stitchDown | secondBond | tail | sparking
  deriving DecidableEq, Repr

/-- The three occasions of a conditioning cycle (5.3). -/
inductive Occasion where
  | boundary | forced | pullIn
  deriving DecidableEq, Repr

/-- What the head starts when it leaves HELD, or when a homing ends (R35, R49, R56). -/
inductive NextWork where
  | none
  | park
  /-- the step a WIRE OUT or NO BALL stopped before or in -/
  | step (w : WireStep)
  /-- the FIRE that a SPARK OPEN answered, again (R59) -/
  | refire
  /-- the current wire, through R39 -/
  | wire
  /-- the current wire, stopped by a drive fault: through R39, its surface height discarded by RETRY -/
  | stoppedWire
  /-- the unit boundary from this step (R53) -/
  | boundary (step : Nat)
  /-- a conditioning cycle from its first step -/
  | cycle (o : Occasion)
  /-- the way out of a credited cycle (R84) -/
  | cycleEnd (o : Occasion)
  /-- the tests before the plan wire reached (R137) -/
  | pullTests
  /-- a sample stopped by a drive fault (R144) -/
  | pullResume
  deriving DecidableEq, Repr

/-- What holds a head that is HELD (R50, R51, R54, R61). -/
inductive HeldFor where
  | nothing
  | alarm
  | lineHold
  | boundary
  | duplicate
  deriving DecidableEq, Repr

/-- R55. -/
inductive Intent where
  | none | wireRestart | boundary | park
  deriving DecidableEq, Repr

/-- The head controller's data (R35, R81, R83). -/
structure Head where
  state : HeadState
  stage : Stage
  homed : Bool
  unit : Option Nat
  wire : Nat
  /-- The wire at which the unit in progress was started here (R10): wires below the current one and not below
  this one completed here. -/
  firstWire : Nat
  surface : Option Nat
  next : NextWork
  heldFor : HeldFor
  intent : Intent
  wireOut : Bool
  locked : Bool
  untrackedRun : Nat
  /-- The bond in progress is untracked (R48). -/
  untrackedBond : Bool
  debt : Int
  wireCount : Nat
  occasion : Occasion
  sparks : Nat
  /-- Spark current and time taken at the cycle's start (R83). -/
  cycleSpark : Nat × Nat
  /-- The step of the unit boundary in progress, 0 for none (R53). -/
  boundaryStep : Nat
  /-- The unit the boundary was reached by, none after SKIP UNIT (R53). -/
  doneUnit : Option Nat
  /-- The transducer is enabled. -/
  enabled : Bool
  /-- The work in flight ends as under BYPASS (R52). -/
  winding : Bool
  /-- The homing in progress is a warm restart's (R133: the feed conditions are tested at its end). -/
  restartHoming : Bool
  /-- The homing is the one that a choice on DRIVE FAULT under BYPASS begins: it ends in PARKED even if a drive fault
  stops it (R58; log entry 49). -/
  homingParks : Bool
  deriving DecidableEq, Repr

/-! ### Energy monitor (chapter 4) -/

/-- R62. -/
inductive BondStatus where
  | closed | openFirst | openSecond
  deriving DecidableEq, Repr

/-- The parameters of the open bond (R62). -/
structure OpenParams where
  set : Nat
  generation : Nat
  params : BondSet
  deriving DecidableEq, Repr

/-- A drift ring (R74): its tag and its energies, oldest first. -/
structure Ring where
  tag : Nat
  energies : List Nat
  deriving DecidableEq, Repr

/-- The energies of one unit: first and second energy of each wire, wire 1 first (R62). -/
structure EnergyRow where
  unit : Nat
  wires : List (Option Nat × Option Nat)
  deriving DecidableEq, Repr

/-- The energy monitor's state (R62). -/
structure Energy where
  status : BondStatus
  params : Option OpenParams
  sum : Nat
  count : Nat
  refSum : Nat
  tail : List Nat
  tailSum : Nat
  rings : List Ring
  working : Option EnergyRow
  table : Option EnergyRow
  deriving DecidableEq, Repr

/-! ### Magazines (chapter 7) -/

/-- R117; codes 0..4 in this order (R187). -/
inductive InSlot where
  | unknown | loaded | empty | fed | skip
  deriving DecidableEq, Repr

/-- R117. -/
inductive FeedState where
  | idle | searching | pushing | retracting | jammed
  deriving DecidableEq, Repr

/-- The choices of a response (10.1): codes 1..6 in this order, and CLEARED 7 and RESTART 8 (R186). -/
inductive Choice where
  | retry | skipUnit | passStrip | resume | cont | forward | cleared | restart
  deriving DecidableEq, Repr

/-- The input magazine controller (R117). `current`: the map standing is CURRENT. -/
structure InMag where
  slots : List InSlot
  current : Bool
  ranges : List (Nat × Nat)
  inserted : Nat
  fed : Nat
  serialCounter : Nat
  feed : FeedState
  feedSlot : Option Nat
  insertedSinceJam : Bool
  feedTimer : Timer
  /-- A FEED JAM choice waiting for the retract's answer or, RETRY, for the hold set to empty (R123). -/
  waiting : Option Choice
  /-- RETRY's elevator move is in progress (R123). -/
  retrying : Bool
  /-- The FEED JAM was raised by a fault on the retract after an arrival (R120). -/
  retractJam : Bool
  /-- INPUT EMPTY was closed by CONTINUE and its condition has not cleared since (R124). -/
  emptyAnswered : Bool
  deriving DecidableEq, Repr

/-- R127; codes 0..3 in this order (R187). -/
inductive OutSlot where
  | unknown | empty
  | filled (serial : Nat) (summary : Summary)
  | sensedFull
  deriving DecidableEq, Repr

/-- R127. -/
inductive Unloader where
  | absent | scanning | ready | unloading
  deriving DecidableEq, Repr

/-- The output magazine controller (R127). -/
structure OutMag where
  slots : List OutSlot
  current : Bool
  inserted : Nat
  filled : Nat
  unloader : Unloader
  target : Option Nat
  leftWindow : Bool
  unloadTimer : Timer
  /-- An insertion made while the unloader was UNLOADING under a jam (R131). -/
  lateInsertion : Bool
  /-- OUTPUT FULL was closed by CONTINUE and the magazine has not been able to accept since (R129). -/
  fullAnswered : Bool
  deriving DecidableEq, Repr

/-! ### Pull testing and the log (chapters 8 and 9) -/

/-- R135. `none` stands between wires. -/
inductive WirePhase where
  | none | placing | positioning | rising | returning
  deriving DecidableEq, Repr

/-- The pull plan copied at the sample's start (R135). -/
structure Plan where
  wires : List Nat
  specMin : Nat
  armForce : Nat
  travel : Nat
  speed : Nat
  deriving DecidableEq, Repr

/-- The sample in progress (R135). `index` counts plan wires from 0. -/
structure Sample where
  unit : Nat
  plan : Plan
  index : Nat
  stressed : Nat
  /-- An entry was already closed to make this plan wire's place (R137). -/
  placeMade : Bool
  /-- A drive fault stopped the plan wire after its rise began (R144). -/
  stoppedStressed : Bool
  deriving DecidableEq, Repr

/-- R141; codes 1..3 in this order (R150). -/
inductive Verdict where
  | pass | low | noBreak
  deriving DecidableEq, Repr

/-- R141: absent, 1..6, UNGRADED. -/
inductive BreakMode where
  | absent
  | graded (mode : Nat)
  | ungraded
  deriving DecidableEq, Repr

/-- A pull record (R141). -/
structure PullRecord where
  ref : Nat
  run : Nat
  generation : Nat
  station : Nat
  serial : Nat
  unit : Nat
  wire : Nat
  peak : Nat
  specMin : Nat
  height : Nat
  verdict : Verdict
  mode : BreakMode
  first : Option Nat
  second : Option Nat
  deriving DecidableEq, Repr

/-- An entry of the pending-grade list (R145). -/
structure PendingEntry where
  record : PullRecord
  closed : Bool
  deriving DecidableEq, Repr

/-- The pull controller's state (R135). -/
structure Pull where
  capable : Bool
  sample : Option Sample
  phase : WirePhase
  ring : List Nat
  k : Nat
  peak : Nat
  armed : Bool
  list : List PendingEntry
  refCounter : Nat
  deriving DecidableEq, Repr

/-- An entry of the write queue (R152). -/
inductive LogEntry where
  | record (r : PullRecord)
  | mark (spanEnd : Nat)
  deriving DecidableEq, Repr

/-- The write position (R152, R154, R156): not known yet, the next entry's slot, a block entered whose header is to
be written, or a block needed next that is not entered yet. -/
inductive WritePos where
  | unset
  | slot (block slot : Nat)
  | entering (block : Nat)
  | need (block : Nat)
  deriving DecidableEq, Repr

/-- The record port operation in progress (R152). -/
inductive PortOp where
  | none
  | entryWrite (e : LogEntry)
  | headerWrite (block : Nat)
  | erase (block : Nat)
  | read (block slot : Nat)
  deriving DecidableEq, Repr

/-- The span a read in service was judged on (R159), and how far its slot reads have got (R160). -/
structure ReadSpan where
  oldest : Nat
  newest : Nat
  below : Nat
  above : Nat
  /-- The next number to return and the last one. -/
  next : Nat
  last : Nat
  /-- The block and slot the next slot read takes. -/
  block : Nat
  slot : Nat
  /-- Numbers returned: the entry's bytes 0..29, or none for DAMAGED. -/
  got : List (Nat × Option (List Byte))
  deriving DecidableEq, Repr

/-- The read in service (R159): waiting for its turn, reading, or waiting for its frames to be placed. -/
inductive ReadPhase where
  | waiting
  | reading (r : ReadSpan)
  | answering
  deriving DecidableEq, Repr

/-- The read in service (R152, R159). -/
structure ReadService where
  first : Nat
  count : Nat
  phase : ReadPhase
  deriving DecidableEq, Repr

/-- The start-up scan (R161, R162): reading headers, the write block upward, or entries downward for a SPAN MARK. -/
inductive ScanStep where
  | idle
  | header (block : Nat)
  | upward (slot : Nat)
  | downward (block slot : Nat)
  deriving DecidableEq, Repr

/-- The log controller's state (R152). `headers` is the store geometry: for each block 0..63 the sequence number and
first record number of a written block's header; the write block, the oldest block, their numbers are read from it. -/
structure Log where
  present : Bool
  headers : List (Option (Nat × Nat))
  pos : WritePos
  newest : Nat
  spanEnd : Nat
  ahead : List Nat
  queue : List LogEntry
  full : Bool
  op : PortOp
  service : Option ReadService
  damaged : Nat
  scan : ScanStep
  deriving DecidableEq, Repr

/-! ### Alarms (chapter 10) -/

/-- The sixteen kinds (10.1), codes 1..16 in this order. -/
inductive AlarmKind where
  | nonStickPad | nonStickLead | noBall | wireOut | contactNotFound | driveFault | conditioningFault
  | energyDrift | generatorUnlock | transferJam | recordLost | staleGeneration | feedJam | inputEmpty
  | outputFull | logFull
  deriving DecidableEq, Repr

/-- The context of an alarm: serial, unit and wire, 0 for none (R164). -/
structure Context where
  serial : Nat
  unit : Nat
  wire : Nat
  deriving DecidableEq, Repr

/-- An open alarm of this station (R164). -/
structure AlarmEntry where
  seq : Nat
  kind : AlarmKind
  context : Context
  deriving DecidableEq, Repr

/-- The alarm controller's state (R164, R169, R170). The own hold is the own number in `hold` (R171). -/
structure Alarms where
  queue : List AlarmEntry
  counter : Nat
  bypass : Bool
  hold : List Nat
  deriving DecidableEq, Repr

/-! ### Panel (chapter 11) -/

/-- R177. -/
inductive Screen where
  | home | line | menu | tally | magazine | recipe | grade
  deriving DecidableEq, Repr

/-- R175. -/
inductive EntryState where
  | opened | sent | deferred
  deriving DecidableEq, Repr

/-- An entry of the panel alarm list (R175). -/
structure PanelEntry where
  station : Nat
  seq : Nat
  kind : AlarmKind
  context : Option Context
  state : EntryState
  seen : Bool
  sendTimer : Timer
  deriving DecidableEq, Repr

/-- The operator's pending selection (R175). -/
inductive EntryBuffer where
  | empty
  | choice (station seq : Nat) (c : Choice)
  | mode (station ref mode : Nat)
  | bypassTarget (target : Option Nat)
  | resumeTarget (target : Option Nat)
  | shiftEnd
  deriving DecidableEq, Repr

/-- The panel controller's state (R175). The outgoing frame stands in the line's waiting list. -/
structure Panel where
  pattern : Scan
  runLength : Nat
  accepted : Option Key
  lockout : Bool
  stack : List Screen
  list : List PanelEntry
  shown : Option (Nat × Nat)
  deferTimer : Timer
  buffer : EntryBuffer
  /-- Time since the last accepted key, in ms (log entry 11). -/
  idleMs : Nat
  standby : Bool
  /-- Scroll position of the top screen, and the station of the selected GRADE line (R177, R182). -/
  scroll : Nat
  gradeLine : Option Nat
  deriving DecidableEq, Repr

/-! ### Station line (chapter 12) -/

/-- The frame kinds (R186), codes 1..29 in this order. -/
inductive FrameKind where
  | beacon | offer | take | decline | stripRecord | alarm | response | settled | grade | hold | release | bypass
  | resumeBonding | recipeSegment | recipeActivate | tallySnapshot | tallyRead | pullRead | collected | skipSlots
  | magazineRead | errorDetail | restart | refused | pullData | tallyData | magazineData | detail | skipData
  deriving DecidableEq, Repr

/-- A frame this station makes (R185); its sender is this station. -/
structure Frame where
  target : Nat
  kind : FrameKind
  payload : List Byte
  deriving DecidableEq, Repr

/-- A queued frame with its abort count (R188). -/
structure TxFrame where
  frame : Frame
  aborts : Nat
  deriving DecidableEq, Repr

/-- Whose frame a waiting frame is: what its placing does, and what withdraws it. -/
inductive Owner where
  | offer
  /-- the window entered INBOUND from EMPTY for this TAKE (R99) -/
  | take (fromEmpty : Bool)
  | decline
  | stripRecord
  | alarm (seq : Nat)
  | settled
  | hold
  | panel
  | refused
  /-- a data reply to this request kind; `last` marks the last frame of its set -/
  | reply (request : FrameKind) (last : Bool)
  deriving DecidableEq, Repr

/-- What waits for room in the transmit queue, in the order it began to wait (R191): the beacon-due mark or a frame. -/
inductive Waiting where
  | beaconDue
  | frame (owner : Owner) (f : Frame)
  deriving DecidableEq, Repr

/-- The content of a beacon (R191). Alarms are (sequence, kind code). -/
structure BeaconView where
  station : Nat
  window : Nat
  holding : Bool
  capable : Bool
  endStrap : Bool
  serial : Nat
  oNow : Nat
  doneHere : Nat
  debt : Int
  active : Nat
  prior : Nat
  alarms : List (Nat × Nat)
  pendingCount : Nat
  oldRef : Nat
  oldWire : Nat
  oldPeak : Nat
  deriving DecidableEq, Repr

/-- What is known of one station (R190, R92). -/
structure Peer where
  present : Bool
  beacon : Option BeaconView
  deriving DecidableEq, Repr

/-- A send in progress (R188): the frame as its send began, and whether it is the queue's head (a warm restart
empties the queue under it, R195). -/
structure Sending where
  frame : Frame
  queued : Bool
  deriving DecidableEq, Repr

/-- The last refusal (R194). -/
structure LastRefusal where
  kind : FrameKind
  code : Nat
  detail : Nat
  deriving DecidableEq, Repr

/-- The line interface's state (R188, R190, R191, R194, R196). `peers` holds stations 1..7, station 1 first. -/
structure Line where
  txQueue : List TxFrame
  waiting : List Waiting
  sending : Option Sending
  last : Option Nat
  peers : List Peer
  lastRefusal : Option LastRefusal
  lineFaults : Nat
  badRecords : Nat
  withdrawn : Nat
  beaconTimer : Timer
  deriving DecidableEq, Repr

/-! ### Tallies (R196, R197) -/

/-- The nineteen counters, numbered 1..19 in this order (R187, R196). -/
inductive Tally where
  | wiresCompleted
  | firstAttempted | firstGood | firstFlagged | firstNonStick | firstAborted
  | secondAttempted | secondGood | secondFlagged | secondNonStick
  | unitsDone | unitsRejected | stripsReceived | stripsPassed | conditioningCycles
  | pullsMade | pullsLow | untrackedBonds | lineBadFrames
  deriving DecidableEq, Repr

/-- A counter with its overflow flag (R196). -/
structure Counter where
  value : Nat
  overflow : Bool
  deriving DecidableEq, Repr

/-- The running counters and the snapshot set (R196, R197). -/
structure Tallies where
  counters : List Counter
  snapCounters : List Counter
  snapGen : Nat
  snapPrevGen : Nat
  snapNumber : Nat
  deriving DecidableEq, Repr

/-! ### Machine ports -/

/-- A port that answers requests one by one. -/
inductive Port where
  | axis (a : Axis)
  | wireClamp
  | stripClamp
  | spark
  deriving DecidableEq, Repr

/-- What a request was made for. -/
inductive Use where
  | homing | positioning | search | lower | looping | stitch | tail | clearing | conditioning | fire
  | pullMove | rise | hookReturn
  | feedSearch | feedRetry | outScan | unloadMove | push | retract | belt | clampStrip
  deriving DecidableEq, Repr

/-- A request whose answer is still due (log entry 4). `live` is no once its answer is to be ignored (R49, R60). -/
structure Due where
  port : Port
  use : Use
  live : Bool
  deriving DecidableEq, Repr

/-- What a move carries beside its target: a force limit in mN (R42) or a speed in µm/s (R138). -/
inductive MoveArg where
  | plain
  | force (mN : Nat)
  | speed (umPerS : Nat)
  deriving DecidableEq, Repr

/-- The requests of the part to its ports (00_scope.md, Machine ports). -/
inductive Request where
  | move (a : Axis) (target : Int) (arg : MoveArg)
  | zSearch (start limit step : Nat)
  | pusherPush
  | elevatorSlot (slot : Nat)
  | beltOut
  | enable (mW : Nat)
  | disable
  | fire (mA us : Nat)
  | wireClamp (close : Bool)
  | stripClamp (close : Bool)
  | slotRead (block slot : Nat)
  | slotWrite (block slot : Nat) (bytes : List Byte)
  | blockErase (block : Nat)
  | lineSend (afterGapUs : Nat) (bytes : List Byte)
  | lineStop
  | buzz (long : Bool)
  deriving DecidableEq, Repr

/-! ### The whole part -/

/-- Where start-up stands (R61, R192). `running` is start-up finished. -/
inductive Phase where
  | strapFault | listening | homing | scanning | running
  deriving DecidableEq, Repr

/-- Tests that an event has made due inside one command (the model's own, log entry 6): an application point (R26),
R38 with R87, the waiting strip (R96), the feed conditions (R119), a place freed in the pending-grade list (R137),
FULL newly set (R137), the record port's arbiter (R153), and a beacon (R191). -/
structure Agenda where
  point : Bool
  head : Bool
  strip : Bool
  feed : Bool
  place : Bool
  full : Bool
  port : Bool
  beacon : Bool
  deriving DecidableEq, Repr

/-- The state of one D620, with the queue of commands that wait. -/
structure State where
  straps : Straps
  phase : Phase
  dup : Bool
  pins : Pins
  line : Line
  recipes : RecipeStore
  window : Window
  head : Head
  energy : Energy
  inMag : InMag
  outMag : OutMag
  pull : Pull
  log : Log
  alarms : Alarms
  panel : Panel
  tally : Tallies
  due : List Due
  out : List Request
  agenda : Agenda
  pending : List Instr
  deriving DecidableEq, Repr

/-! ### Reset values -/

/-- An empty agenda. -/
def Agenda.none : Agenda := ⟨false, false, false, false, false, false, false, false⟩

/-- R33. -/
def RecipeStore.reset : RecipeStore := ⟨⟨0, .none, [], .loading, .none⟩, .none, .none⟩

/-- R90. -/
def Window.reset : Window := ⟨.empty, .none, .none, .none, 0, false, false, false, .none, .none, .none⟩

/-- R35, R81. DESIGN CHOICE (log entry 48) for the fields those tables do not list: the model's own stages and marks,
and the occasion, sparks and spark settings of a cycle (R83). -/
def Head.reset : Head where
  state := .parked
  stage := .idle
  homed := false
  unit := .none
  wire := 0
  firstWire := 0
  surface := .none
  next := .none
  heldFor := .nothing
  intent := .none
  wireOut := false
  locked := true
  untrackedRun := 0
  untrackedBond := false
  debt := 0
  wireCount := 0
  occasion := .pullIn
  sparks := 0
  cycleSpark := (0, 0)
  boundaryStep := 0
  doneUnit := .none
  enabled := false
  winding := false
  restartHoming := false
  homingParks := false

/-- R62. -/
def Energy.reset : Energy where
  status := .closed
  params := .none
  sum := 0
  count := 0
  refSum := 0
  tail := []
  tailSum := 0
  rings := List.replicate 8 ⟨0, []⟩
  working := .none
  table := .none

/-- R117. -/
def InMag.reset : InMag where
  slots := List.replicate Config.slots .unknown
  current := false
  ranges := []
  inserted := 0
  fed := 0
  serialCounter := 1
  feed := .idle
  feedSlot := .none
  insertedSinceJam := false
  feedTimer := .none
  waiting := .none
  retrying := false
  retractJam := false
  emptyAnswered := false

/-- R127. -/
def OutMag.reset : OutMag where
  slots := List.replicate Config.slots .unknown
  current := false
  inserted := 0
  filled := 0
  unloader := .absent
  target := .none
  leftWindow := false
  unloadTimer := .none
  lateInsertion := false
  fullAnswered := false

/-- R135. -/
def Pull.reset : Pull := ⟨false, .none, .none, [], 0, 0, false, [], 1⟩

/-- R152: what the scan finds, FULL among it, is not known yet (DESIGN CHOICE, log entry 22). -/
def Log.reset : Log where
  present := false
  headers := List.replicate Config.blocks .none
  pos := .unset
  newest := 0
  spanEnd := 0
  ahead := []
  queue := []
  full := false
  op := .none
  service := .none
  damaged := 0
  scan := .idle

/-- R174. -/
def Alarms.reset : Alarms := ⟨[], 1, false, []⟩

/-- R175. -/
def Panel.reset : Panel where
  pattern := .noKey
  runLength := 0
  accepted := .none
  lockout := false
  stack := [.home]
  list := []
  shown := .none
  deferTimer := .none
  buffer := .empty
  idleMs := 0
  standby := false
  scroll := 0
  gradeLine := .none

/-- R190, R194, R196. -/
def Line.reset : Line where
  txQueue := []
  waiting := []
  sending := .none
  last := .none
  peers := List.replicate 7 ⟨false, .none⟩
  lastRefusal := .none
  lineFaults := 0
  badRecords := 0
  withdrawn := 0
  beaconTimer := .none

/-- R196, R197. -/
def Tallies.reset : Tallies := ⟨List.replicate 19 ⟨0, false⟩, List.replicate 19 ⟨0, false⟩, 0, 0, 0⟩

/-- The state after a hardware reset with these straps and levels (R192): STN 0 and 7 are strap faults. -/
def State.afterReset (straps : Straps) (p : Pins) (pending : List Instr) : State where
  straps := straps
  phase := if 1 ≤ straps.stn ∧ straps.stn ≤ 6 then .listening else .strapFault
  dup := false
  pins := p
  line := Line.reset
  recipes := RecipeStore.reset
  window := Window.reset
  head := Head.reset
  energy := Energy.reset
  inMag := InMag.reset
  outMag := OutMag.reset
  pull := Pull.reset
  log := Log.reset
  alarms := Alarms.reset
  panel := Panel.reset
  tally := Tallies.reset
  due := []
  out := []
  agenda := Agenda.none
  pending := pending

/-- The part right after hardware reset. DESIGN CHOICE (unsafe, log entries 3 and 8): STN 1, END not fitted, PULL and
PANEL fitted; WIRE PRESENT high, every other level low. -/
def State.reset : State :=
  State.afterReset ⟨1, false, true, true⟩ ⟨true, false, false, false, false, false⟩ []

end Sys2Proof.Machine
end

