-- ==== Sys2Proof/Machine/Operands.lean ====
section
/-! DEFINITION. Codes and layouts of what crosses the station line and the record port: CRC, frames, strip records,
recipe images, beacons and log slots. -/

namespace Sys2Proof.Machine

/-! ### Bytes -/

/-- The number a list of bytes holds, most significant byte first (00_scope.md, Layouts). -/
def beNat (bs : List Byte) : Nat := bs.foldl (fun a b => a * 256 + b.toNat) 0

/-- `n` in `k` bytes, most significant byte first. -/
def beBytes : Nat → Nat → List Byte
  | 0, _ => []
  | k + 1, n => byteOf (n / 256 ^ k) :: beBytes k n

/-- The `k` bytes at offset `o`, as a number. -/
def field (bs : List Byte) (o k : Nat) : Nat := beNat ((bs.drop o).take k)

/-- A 16-bit field in two's complement (R23). -/
def signed16 (n : Nat) : Int := if n < 32768 then (n : Int) else (n : Int) - 65536

/-- The 16-bit field at offset `o`, in two's complement. -/
def sfield (bs : List Byte) (o : Nat) : Int := signed16 (field bs o 2)

/-- One bit of a byte, bit 0 the least significant (R13). -/
def bit (b i : Nat) : Bool := b / 2 ^ i % 2 == 1

/-- Flags as a number, bit 0 first. -/
def bitsNat : List Bool → Nat
  | [] => 0
  | b :: bs => (if b then 1 else 0) + 2 * bitsNat bs

/-- One step of the CRC's shift register: generator 1021h, most significant bit first (R151). -/
def crcShift (c : BitVec 16) : BitVec 16 :=
  if c.msb then (c <<< 1) ^^^ 0x1021#16 else c <<< 1

/-- The CRC after one more byte (R151). -/
def crcByte (c : BitVec 16) (b : Byte) : BitVec 16 :=
  let c0 := c ^^^ ((b.setWidth 16) <<< 8)
  crcShift (crcShift (crcShift (crcShift (crcShift (crcShift (crcShift (crcShift c0)))))))

/-- CRC-16 with generator 1021h and initial value FFFFh, no final inversion (R151, R185). -/
def crc16 (bs : List Byte) : BitVec 16 := bs.foldl crcByte 0xFFFF#16

/-- Bytes with their CRC behind them, high byte first. -/
def withCrc (bs : List Byte) : List Byte := bs ++ beBytes 2 (crc16 bs).toNat

/-! ### Codes -/

/-- The kind's code (10.1). -/
def AlarmKind.code : AlarmKind → Nat
  | .nonStickPad => 1 | .nonStickLead => 2 | .noBall => 3 | .wireOut => 4 | .contactNotFound => 5
  | .driveFault => 6 | .conditioningFault => 7 | .energyDrift => 8 | .generatorUnlock => 9
  | .transferJam => 10 | .recordLost => 11 | .staleGeneration => 12 | .feedJam => 13 | .inputEmpty => 14
  | .outputFull => 15 | .logFull => 16

/-- The sixteen kinds in code order (10.1). -/
def AlarmKind.all : List AlarmKind :=
  [.nonStickPad, .nonStickLead, .noBall, .wireOut, .contactNotFound, .driveFault, .conditioningFault, .energyDrift,
   .generatorUnlock, .transferJam, .recordLost, .staleGeneration, .feedJam, .inputEmpty, .outputFull, .logFull]

/-- The kind of a code, none outside 1..16. -/
def AlarmKind.ofCode (n : Nat) : Option AlarmKind := AlarmKind.all.find? (fun k => k.code == n)

/-- The choice's code (10.1, R186). -/
def Choice.code : Choice → Nat
  | .retry => 1 | .skipUnit => 2 | .passStrip => 3 | .resume => 4 | .cont => 5 | .forward => 6
  | .cleared => 7 | .restart => 8

/-- The choice a digit 1..6 names (R181). -/
def Choice.ofDigit (n : Nat) : Option Choice :=
  [Choice.retry, .skipUnit, .passStrip, .resume, .cont, .forward].find? (fun c => c.code == n)

/-- The choices a kind accepts (10.1). -/
def AlarmKind.choices : AlarmKind → List Choice
  | .nonStickPad | .nonStickLead | .contactNotFound => [.retry, .skipUnit, .passStrip]
  | .noBall | .wireOut => [.resume, .passStrip]
  | .driveFault => [.retry, .passStrip]
  | .conditioningFault => [.retry, .cont]
  | .energyDrift | .generatorUnlock => [.cont, .passStrip]
  | .transferJam => [.resume]
  | .recordLost | .staleGeneration => [.forward]
  | .feedJam => [.retry, .cont]
  | .inputEmpty | .outputFull | .logFull => [.cont]

/-- The alarms that hold the head (R50). -/
def AlarmKind.holdsHead : AlarmKind → Bool
  | .nonStickPad | .nonStickLead | .noBall | .wireOut | .contactNotFound | .driveFault | .conditioningFault => true
  | _ => false

/-- The boundary-hold alarms (R54). -/
def AlarmKind.holdsBoundary : AlarmKind → Bool
  | .energyDrift | .generatorUnlock => true
  | _ => false

/-- The alarms that hold the window (R38, R93, R97). -/
def AlarmKind.holdsWindow : AlarmKind → Bool
  | .transferJam | .recordLost | .staleGeneration => true
  | _ => false

/-- A frame kind's code (R186). -/
def FrameKind.code : FrameKind → Nat
  | .beacon => 1 | .offer => 2 | .take => 3 | .decline => 4 | .stripRecord => 5 | .alarm => 6 | .response => 7
  | .settled => 8 | .grade => 9 | .hold => 10 | .release => 11 | .bypass => 12 | .resumeBonding => 13
  | .recipeSegment => 14 | .recipeActivate => 15 | .tallySnapshot => 16 | .tallyRead => 17 | .pullRead => 18
  | .collected => 19 | .skipSlots => 20 | .magazineRead => 21 | .errorDetail => 22 | .restart => 23
  | .refused => 24 | .pullData => 25 | .tallyData => 26 | .magazineData => 27 | .detail => 28 | .skipData => 29

/-- A unit state's code (R13). -/
def UnitState.code : UnitState → Nat
  | .opened => 0 | .partialDone => 1 | .done => 2 | .reject => 3 | .pulled => 4 | .unknown => 5

/-- The unit state of a code, none for 6 and above (R13). -/
def UnitState.ofCode : Nat → Option UnitState
  | 0 => some .opened | 1 => some .partialDone | 2 => some .done | 3 => some .reject | 4 => some .pulled
  | 5 => some .unknown | _ => none

/-- A window state's code (R191). -/
def WindowState.code : WindowState → Nat
  | .empty => 0 | .inbound => 1 | .clamped => 2 | .offered => 3 | .outbound => 4

/-- An input slot's code (R187). -/
def InSlot.code : InSlot → Nat
  | .unknown => 0 | .loaded => 1 | .empty => 2 | .fed => 3 | .skip => 4

/-- An output slot's code (R187). -/
def OutSlot.code : OutSlot → Nat
  | .unknown => 0 | .empty => 1 | .filled _ _ => 2 | .sensedFull => 3

/-- A verdict's code (R150). -/
def Verdict.code : Verdict → Nat
  | .pass => 1 | .low => 2 | .noBreak => 3

/-- A break mode's code (R150). -/
def BreakMode.code : BreakMode → Nat
  | .absent => 0 | .graded m => m | .ungraded => 7

/-- The counter's place, 0 for counter 1 (R187, R196). -/
def Tally.index : Tally → Nat
  | .wiresCompleted => 0 | .firstAttempted => 1 | .firstGood => 2 | .firstFlagged => 3 | .firstNonStick => 4
  | .firstAborted => 5 | .secondAttempted => 6 | .secondGood => 7 | .secondFlagged => 8 | .secondNonStick => 9
  | .unitsDone => 10 | .unitsRejected => 11 | .stripsReceived => 12 | .stripsPassed => 13
  | .conditioningCycles => 14 | .pullsMade => 15 | .pullsLow => 16 | .untrackedBonds => 17 | .lineBadFrames => 18

/-! ### Frames (R185) -/

/-- The bytes of a frame on the line: header, payload and CRC (R185). -/
def frameBytes (sender : Nat) (f : Frame) : List Byte :=
  withCrc ([byteOf sender, byteOf f.target, byteOf f.kind.code, byteOf f.payload.length] ++ f.payload)

/-- The payload lengths that fit a kind's code (R186), by the sums of its field sizes. -/
def lengthFits (code len : Nat) : Bool :=
  match code with
  | 1 => len == 26
  | 2 => len == 4
  | 3 => len == 4
  | 4 => len == 5
  | 5 => 4 ≤ len && len ≤ 64
  | 6 => len == 8
  | 7 => len == 3
  | 8 => len == 4
  | 9 => len == 3
  | 10 => len == 1
  | 11 => len == 1
  | 12 => len == 1
  | 13 => len == 1
  | 14 => len ≤ 64
  | 15 => len == 3
  | 16 => len == 1
  | 17 => len == 0
  | 18 => len == 5
  | 19 => len == 8
  | 20 => len == 2
  | 21 => len == 0
  | 22 => len == 0
  | 23 => len == 0
  | _ => false

/-- The command that a run of bytes received on the line is (R185, R186, R189), with the levels at its event. A run
longer than its header says is a bad frame too (R189 names only a shorter one; DEDUCED, log entry 59). -/
def frameCommand (bs : List Byte) (p : Pins) : Instr :=
  let sender := field bs 0 1
  let len := field bs 3 1
  let h : Hdr := ⟨sender, field bs 1 1⟩
  let code := field bs 2 1
  let pl := (bs.drop 4).take len
  let q := fun o k => field pl o k
  if bs.length < 6 ∨ len > 64 ∨ bs.length ≠ len + 6 ∨ sender < 1 ∨ 7 < sender
      ∨ field bs (4 + len) 2 ≠ (crc16 (bs.take (4 + len))).toNat then .badFrame p
  else if !lengthFits code len then .discardedFrame h p
  else if 14 ≤ code ∧ sender ≠ 7 then .discardedFrame h p
  else match code with
    | 1 => .beacon h pl p
    | 2 => .offer h (q 0 4) p
    | 3 => .take h (q 0 4) p
    | 4 => .decline h (q 0 4) (q 4 1) p
    | 5 => .stripRecord h pl p
    | 6 => .alarm h (q 0 1) (q 1 1) (q 2 4) (q 6 1) (q 7 1) p
    | 7 => match q 2 1 with
      | 1 => .retry h (q 0 1) (q 1 1) p
      | 2 => .skipUnit h (q 0 1) (q 1 1) p
      | 3 => .passStrip h (q 0 1) (q 1 1) p
      | 4 => .resume h (q 0 1) (q 1 1) p
      | 5 => .continue_ h (q 0 1) (q 1 1) p
      | 6 => .forward h (q 0 1) (q 1 1) p
      | _ => .discardedFrame h p
    | 8 => .settled h (q 0 1) (q 1 1) (q 2 1) (q 3 1) p
    | 9 => .grade h (q 0 1) (q 1 1) (q 2 1) p
    | 10 => .hold h (q 0 1) p
    | 11 => .release h (q 0 1) p
    | 12 => .bypass h (q 0 1) p
    | 13 => .resumeBonding h (q 0 1) p
    | 14 => .recipeSegment h pl p
    | 15 => .recipeActivate h (q 0 1) (q 1 2) p
    | 16 => .tallySnapshot h (q 0 1) p
    | 17 => .tallyRead h p
    | 18 => .pullRead h (q 0 4) (q 4 1) p
    | 19 => .collected h (q 0 4) (q 4 4) p
    | 20 => .skipSlots h (q 0 1) (q 1 1) p
    | 21 => .magazineRead h p
    | 22 => .errorDetail h p
    | 23 => .restart h p
    | _ => .discardedFrame h p

/-! ### Strip records (R13 to R15) -/

/-- The number of units in a state. -/
def StripRecord.countState (r : StripRecord) (u : UnitState) : Nat := r.units.countP (fun e => e.state == u)

/-- A unit's entry, units numbered from 1. -/
def StripRecord.entry (r : StripRecord) (n : Nat) : Option UnitEntry :=
  if n = 0 then none else r.units[n - 1]?

/-- A unit's 6-bit code: state above bonder (R13). -/
def UnitEntry.code (e : UnitEntry) : Nat := e.state.code * 8 + e.bonder

/-- The codes of units `n` to `n + 3` as three bytes (R13). -/
def groupBytes (r : StripRecord) (g : Nat) : List Byte :=
  let c := fun i => match r.units[4 * g + i]? with | some e => e.code | none => 0
  beBytes 3 (((c 0 * 64 + c 1) * 64 + c 2) * 64 + c 3)

/-- The partial field: entries first, then zero places (R14). -/
def partialBytes (ps : List (Nat × Nat)) : List Byte :=
  ((ps ++ List.replicate 4 (0, 0)).take 4).flatMap (fun (p : Nat × Nat) => [byteOf p.1, byteOf p.2])

/-- The 53-byte payload of a STRIP RECORD (R13, R14). -/
def encodeRecord (r : StripRecord) : List Byte :=
  beBytes 4 r.serial ++ beBytes 1 r.generation ++ beBytes 2 r.run ++ beBytes 1 r.units.length
    ++ [byteOf (bitsNat [r.selected, r.taken, r.skipped])]
    ++ partialBytes r.partials
    ++ (List.range 12).flatMap (groupBytes r)

/-- The 6-bit code of unit `n` (from 0) in a payload (R13). -/
def unitCode (bs : List Byte) (n : Nat) : Nat :=
  field bs (17 + 3 * (n / 4)) 3 / 64 ^ (3 - n % 4) % 64

/-- The four places of the partial field. -/
def partialPlacesOf (bs : List Byte) : List (Nat × Nat) :=
  (List.range 4).map (fun i => (field bs (9 + 2 * i) 1, field bs (10 + 2 * i) 1))

/-- Entries read up to the first unused place (R14). -/
def usedPartials : List (Nat × Nat) → List (Nat × Nat)
  | [] => []
  | p :: ps => if p.1 = 0 then [] else p :: usedPartials ps

/-- The record a payload spells, without the record check; none where a code is 6 or 7 (R15). -/
def readRecord (bs : List Byte) : Option StripRecord :=
  match (List.range (field bs 7 1)).mapM (fun n =>
      (UnitState.ofCode (unitCode bs n / 8)).map (fun st => (⟨st, unitCode bs n % 8⟩ : UnitEntry))) with
  | none => none
  | some us => some {
      serial := field bs 0 4
      generation := field bs 4 1
      run := field bs 5 2
      units := us
      partials := usedPartials (partialPlacesOf bs)
      selected := bit (field bs 8 1) 0
      taken := bit (field bs 8 1) 1
      skipped := bit (field bs 8 1) 2 }

/-- Units strictly ascending. -/
def ascending : List (Nat × Nat) → Bool
  | [] => true
  | [_] => true
  | a :: b :: rest => a.1 < b.1 && ascending (b :: rest)

/-- R15, bonders: DONE, REJECT and PULLED units name one, the others none. -/
def bonderFits (e : UnitEntry) : Bool :=
  e.bonder ≤ 6 &&
  match e.state with
  | .done | .reject | .pulled => e.bonder != 0
  | _ => e.bonder == 0

/-- R15, UNKNOWN units stand alone, in a record whose other fields are 0; no other record has serial or generation 0. -/
def unknownFits (r : StripRecord) : Bool :=
  if r.countState .unknown = 0 then r.serial != 0 && r.generation != 0
  else r.countState .unknown == r.units.length && r.serial == 0 && r.generation == 0 && r.run == 0
    && !r.selected && !r.taken && !r.skipped && r.partials.isEmpty

/-- R15 and R9, the partial list and the PARTIAL units name each other. -/
def partialsFit (r : StripRecord) : Bool :=
  ascending r.partials
    && r.partials.all (fun p => (match r.entry p.1 with | some e => e.state == .partialDone | none => false)
        && 2 ≤ p.2 && p.2 ≤ 48)
    && r.partials.length == r.countState .partialDone
    && r.partials.length ≤ Config.partialPlaces

/-- R15 and R7, R12: the sample flags and the PULLED unit. -/
def sampleFits (r : StripRecord) : Bool :=
  r.countState .pulled == (if r.taken then 1 else 0)
    && !(r.taken && r.skipped) && (r.selected || !(r.taken || r.skipped))

/-- The laws of the strip record (R3, R7, R9, R12) with the ranges of R15. -/
def StripRecord.lawful (r : StripRecord) : Bool :=
  1 ≤ r.units.length && r.units.length ≤ 48 && r.units.all bonderFits && unknownFits r && partialsFit r && sampleFits r

/-- The record check (R15): the record a payload holds, or none where any of its items fails. -/
def checkRecord (bs : List Byte) : Option StripRecord :=
  if bs.length ≠ 53 then none
  else match readRecord bs with
    | none => none
    | some r =>
      if r.lawful && (partialPlacesOf bs).drop r.partials.length == List.replicate (4 - r.partials.length) (0, 0)
      then some r else none

/-! ### Recipe images (R23, R24) -/

/-- The loop profile at an offset (R23). -/
def readProfile (bs : List Byte) (o : Nat) : LoopProfile := ⟨field bs o 2, field bs (o + 2) 2, field bs (o + 4) 2⟩

/-- The bond parameter set at an offset (R23). -/
def readSet (bs : List Byte) (o : Nat) : BondSet where
  impact := field bs o 2
  power := field bs (o + 2) 2
  energyMode := field bs (o + 4) 1 == 1
  time := field bs (o + 5) 1
  eTarget := field bs (o + 6) 2
  eLo := field bs (o + 8) 2
  eHi := field bs (o + 10) 2
  band := field bs (o + 12) 1
  dMin := field bs (o + 13) 1
  iFloor := field bs (o + 14) 2

/-- The wire entry at an offset (R23). -/
def readWire (bs : List Byte) (o : Nat) : WireEntry where
  padX := sfield bs o
  padY := sfield bs (o + 2)
  leadX := sfield bs (o + 4)
  leadY := sfield bs (o + 6)
  profile := field bs (o + 8) 1
  firstSet := field bs (o + 9) 1
  secondSet := field bs (o + 10) 1

/-- The recipe an image spells (R23). -/
def readImage (bs : List Byte) : Recipe where
  generation := field bs 0 1
  product := field bs 1 2
  units := field bs 3 1
  wires := field bs 4 1
  columns := field bs 5 1
  pitchX := field bs 6 2
  pitchY := field bs 8 2
  originX := field bs 10 4
  originY := field bs 14 4
  approach := field bs 18 2
  searchLimit := field bs 20 2
  tail := field bs 22 2
  sparkCurrent := field bs 24 1
  sparkTime := field bs 25 2
  interval := field bs 27 2
  pullInterval := field bs 29 2
  pullWires := (List.range (field bs 31 1)).map (fun i => field bs (32 + i) 1)
  specMin := field bs 40 2
  armForce := field bs 42 2
  travel := field bs 44 2
  hookSpeed := field bs 46 2
  idleTime := field bs 48 1
  profiles := (List.range 4).map (fun i => readProfile bs (49 + 6 * i))
  sets := (List.range 8).map (fun i => readSet bs (73 + 16 * i))
  wireTable := (List.range (field bs 4 1)).map (fun i => readWire bs (201 + 11 * i))

/-- The origin of unit `n` (R19). -/
def Recipe.unitOrigin (r : Recipe) (n : Nat) : Int × Int :=
  (r.originX + ((n - 1) % r.columns : Nat) * r.pitchX, r.originY + ((n - 1) / r.columns : Nat) * r.pitchY)

/-- The pad target of a wire entry on unit `n` (R19). -/
def Recipe.padTarget (r : Recipe) (n : Nat) (w : WireEntry) : Int × Int :=
  ((r.unitOrigin n).1 + w.padX, (r.unitOrigin n).2 + w.padY)

/-- The lead target of a wire entry on unit `n` (R19). -/
def Recipe.leadTarget (r : Recipe) (n : Nat) (w : WireEntry) : Int × Int :=
  ((r.unitOrigin n).1 + w.leadX, (r.unitOrigin n).2 + w.leadY)

/-- The loop midpoint, each coordinate rounded toward zero (R19). -/
def Recipe.midTarget (r : Recipe) (n : Nat) (w : WireEntry) : Int × Int :=
  ((((r.padTarget n w).1 + (r.leadTarget n w).1).tdiv 2), (((r.padTarget n w).2 + (r.leadTarget n w).2).tdiv 2))

/-- The loop profile a wire entry names. -/
def Recipe.profileOf (r : Recipe) (w : WireEntry) : LoopProfile := r.profiles.getD w.profile ⟨0, 0, 0⟩

/-- The x target of the loop's reverse move (R43). -/
def Recipe.reverseX (r : Recipe) (n : Nat) (w : WireEntry) : Int :=
  if (r.padTarget n w).1 ≤ (r.leadTarget n w).1 then (r.padTarget n w).1 - (r.profileOf w).reverse
  else (r.padTarget n w).1 + (r.profileOf w).reverse

/-- `a ≤ n ≤ b`. -/
def within (n a b : Nat) : Bool := a ≤ n && n ≤ b

/-- `a ≤ n ≤ b` over the integers. -/
def withinInt (n a b : Int) : Bool := a ≤ n && n ≤ b

/-- A target within the table's travel (R24 item 5). -/
def onTable (t : Int × Int) : Bool := withinInt t.1 0 120000 && withinInt t.2 0 60000

/-- Item 4 for one entry. -/
def WireEntry.fits (w : WireEntry) : Bool :=
  w.profile ≤ 3 && w.firstSet ≤ 7 && w.secondSet ≤ 7
    && withinInt w.padX (-10000) 10000 && withinInt w.padY (-10000) 10000
    && withinInt w.leadX (-10000) 10000 && withinInt w.leadY (-10000) 10000

/-- Item 6 for one set; `mode` is the termination mode's code. -/
def BondSet.fits (b : BondSet) (mode : Nat) : Bool :=
  within b.impact 50 2000 && within b.power 1 2000 && mode ≤ 1 && within b.time 3 100 && within b.eTarget 1 65535
    && within b.band 1 50 && b.iFloor ≤ 16383

/-- The items of the validity check, in order (R24), of an image sent as generation `gen`. -/
def recipeItems (gen : Nat) (bs : List Byte) : List Bool :=
  let r := readImage bs
  let units := (List.range r.units).map (· + 1)
  [ bs.length == 201 + 11 * r.wires && r.generation == gen && 5 ≤ bs.length,
    within r.units 1 48 && within r.wires 1 48,
    within r.columns 1 r.units && within r.pitchX 1 20000 && within r.pitchY 1 20000 && r.originX ≤ 120000
      && r.originY ≤ 60000,
    r.wireTable.all WireEntry.fits,
    units.all (fun n => r.wireTable.all (fun w =>
      onTable (r.padTarget n w) && onTable (r.leadTarget n w) && withinInt (r.reverseX n w) 0 120000)),
    (List.range 8).all (fun i => (readSet bs (73 + 16 * i)).fits (field bs (77 + 16 * i) 1)),
    r.sets.all (fun b => b.eLo ≤ b.eHi),
    r.profiles.all (fun p => p.height ≤ 5000 && p.reverse ≤ 5000 && p.kink ≤ 5000 && p.kink ≤ p.height),
    r.approach < r.searchLimit && r.searchLimit ≤ 20000,
    within r.tail 50 2000 && within r.sparkCurrent 5 100 && within r.sparkTime 50 5000,
    within r.interval 10 5000,
    r.pullInterval ≤ 1000 && r.pullWires.length ≤ 8 && (r.pullInterval == 0 || !r.pullWires.isEmpty),
    r.pullWires.all (fun w => within w 1 r.wires) && decide r.pullWires.Nodup,
    within r.armForce 1 65535 && within r.travel 1 5000 && within r.hookSpeed 10 5000 && r.idleTime ≤ 255 ]

/-- The number of the first item that fails, counted from 1 (R23). -/
def firstFailure : Nat → List Bool → Option Nat
  | _, [] => none
  | n, true :: rest => firstFailure (n + 1) rest
  | n, false :: _ => some n

/-- A check of a complete set's image (R23, R24). -/
def checkImage (gen : Nat) (bs : List Byte) : PendingStatus :=
  match firstFailure 1 (recipeItems gen bs) with
  | some n => .invalid n
  | none => .ready (readImage bs)

/-! ### Beacons (R191) -/

/-- A signed byte (R191). -/
def signed8 (n : Nat) : Int := if n < 128 then (n : Int) else (n : Int) - 256

/-- The two's complement of a signed number in one byte. -/
def byteOfInt (z : Int) : Byte := BitVec.ofInt 8 z

/-- The beacon's 26 bytes (R191). -/
def encodeBeacon (b : BeaconView) : List Byte :=
  [byteOf b.station, byteOf b.window, byteOf (bitsNat [b.holding, b.capable, b.endStrap])]
    ++ beBytes 4 b.serial ++ [byteOf b.oNow, byteOf b.doneHere, byteOfInt b.debt, byteOf b.active, byteOf b.prior,
      byteOf b.alarms.length]
    ++ ((b.alarms ++ List.replicate 4 (0, 0)).take 4).flatMap (fun (a : Nat × Nat) => [byteOf a.1, byteOf a.2])
    ++ [byteOf b.pendingCount, byteOf b.oldRef, byteOf b.oldWire] ++ beBytes 2 b.oldPeak

/-- The content of a beacon's payload (R191). An alarm count above 4 reads the four alarms there are places for (DESIGN
CHOICE, log entry 71). -/
def readBeacon (bs : List Byte) : BeaconView where
  station := field bs 0 1
  window := field bs 1 1
  holding := bit (field bs 2 1) 0
  capable := bit (field bs 2 1) 1
  endStrap := bit (field bs 2 1) 2
  serial := field bs 3 4
  oNow := field bs 7 1
  doneHere := field bs 8 1
  debt := signed8 (field bs 9 1)
  active := field bs 10 1
  prior := field bs 11 1
  alarms := (List.range (min (field bs 12 1) 4)).map (fun i => (field bs (13 + 2 * i) 1, field bs (14 + 2 * i) 1))
  pendingCount := field bs 21 1
  oldRef := field bs 22 1
  oldWire := field bs 23 1
  oldPeak := field bs 24 2

/-! ### Log slots (R150, R151) -/

/-- The number check: 255 less the sum of the bytes modulo 256 (R151). -/
def numberCheck (bs : List Byte) : Nat := 255 - (bs.foldl (fun a b => a + b.toNat) 0) % 256

/-- Bytes 0..29 of a PULL entry numbered `n` (R150). -/
def pullEntryBytes (n : Nat) (r : PullRecord) : List Byte :=
  let head := byteOf 1 :: beBytes 4 n
  head ++ [byteOf (numberCheck head), byteOf r.ref, byteOf r.station, byteOf r.generation] ++ beBytes 2 r.run
    ++ beBytes 4 r.serial ++ [byteOf r.unit, byteOf r.wire] ++ beBytes 2 r.peak ++ beBytes 2 r.specMin
    ++ beBytes 2 r.height ++ [byteOf r.verdict.code, byteOf r.mode.code] ++ beBytes 2 (r.first.getD 0)
    ++ beBytes 2 (r.second.getD 0) ++ [byteOf (bitsNat [r.first.isSome, r.second.isSome])]

/-- Bytes 0..29 of a SPAN MARK (R150). -/
def spanMarkBytes (spanEnd : Nat) : List Byte :=
  let head := byteOf 2 :: beBytes 4 spanEnd
  head ++ [byteOf (numberCheck head)] ++ List.replicate 24 0

/-- Bytes 0..29 of a block header (R150). -/
def headerBytes (seq first : Nat) : List Byte :=
  let head := byteOf 3 :: beBytes 4 seq ++ beBytes 4 first
  head ++ [byteOf (numberCheck head)] ++ List.replicate 20 0

/-- How a slot read is judged (R151). -/
inductive SlotKind where
  | erased
  | good (kind number : Nat)
  | readable (kind number : Nat)
  | unreadable
  deriving DecidableEq, Repr

/-- R151: erased, good, damaged with its number readable, or damaged. A header's number here is bytes 1..4. -/
def judgeSlot (bs : List Byte) : SlotKind :=
  let kind := field bs 0 1
  let sumOk := if kind = 3 then field bs 9 1 == numberCheck (bs.take 9) else field bs 5 1 == numberCheck (bs.take 5)
  let crcOk := field bs 30 2 == (crc16 (bs.take 30)).toNat
  if bs == List.replicate 32 255#8 then .erased
  else if bs.length == 32 && 1 ≤ kind && kind ≤ 3 && sumOk && crcOk then .good kind (field bs 1 4)
  else if bs.length == 32 && (kind == 1 || kind == 2) && sumOk then .readable kind (field bs 1 4)
  else .unreadable

/-- The sequence number and first record number of a good header (R150), none of any other slot. -/
def readHeader (bs : List Byte) : Option (Nat × Nat) :=
  match judgeSlot bs with
  | .good 3 seq => some (seq, field bs 5 4)
  | _ => none

end Sys2Proof.Machine
end

