-- ==== Sys2Proof/Machine/Flags.lean ====
section
/-! DEFINITION. What is computed from the state and never stored: roles, the station state, the beacon's content,
the counts of the strip record, bondability, the energy verdict, the pad check, the drift test and the quiet gap. -/

namespace Sys2Proof.Machine

/-! ### Roles and whole-station flags -/

/-- This station's number. -/
def State.stn (s : State) : Nat := s.straps.stn

/-- This station drives the output elevator; an END strap on station 1 is taken as not fitted (R116). -/
def State.isEnd (s : State) : Bool := s.straps.endFitted && s.straps.stn != 1

/-- This station drives the input elevator (R116). -/
def State.isFirst (s : State) : Bool := s.straps.stn == 1

/-- The part acts: no strap fault and no duplicate-station fault (R61, R189). -/
def State.operating (s : State) : Bool := s.phase != .strapFault && !s.dup

/-- Start-up is finished (R192). -/
def State.running (s : State) : Bool := s.phase == .running

/-- An alarm of this kind is open (R164). -/
def State.alarmOpen (s : State) (k : AlarmKind) : Bool := s.alarms.queue.any (fun e => e.kind == k)

/-- An alarm that holds the window is open (R38, R97). -/
def State.windowAlarm (s : State) : Bool := s.alarms.queue.any (fun e => e.kind.holdsWindow)

/-- A boundary-hold alarm is open (R54). -/
def State.boundaryAlarm (s : State) : Bool := s.alarms.queue.any (fun e => e.kind.holdsBoundary)

/-- The hold set is not empty: line hold. -/
def State.holding (s : State) : Bool := !s.alarms.hold.isEmpty

/-- The own hold (R171). -/
def State.ownHold (s : State) : Bool := s.alarms.hold.contains s.straps.stn

/-- A peer of the presence table, stations 1..7 (R190). -/
def State.peer (s : State) (n : Nat) : Peer := if n = 0 then ⟨false, none⟩ else s.line.peers.getD (n - 1) ⟨false, none⟩

/-- A station 1..7 is present (R190). -/
def State.isPresent (s : State) (n : Nat) : Bool := (s.peer n).present

/-- The latest beacon content of a present station (R92). -/
def State.beaconOf (s : State) (n : Nat) : Option BeaconView := if s.isPresent n then (s.peer n).beacon else none

/-- The line has no room and no listen holds it back (R191, R192). -/
def State.lineHasRoom (s : State) : Bool :=
  s.line.txQueue.length < Config.txPlaces && s.phase != .listening && s.operating

/-! ### The strip record's counts (R11) -/

/-- O_now of a record. -/
def StripRecord.oNow (r : StripRecord) : Nat := r.units.countP (fun e => e.state == .opened || e.state == .partialDone)

/-- The unit summary. -/
def StripRecord.summary (r : StripRecord) : Summary :=
  ⟨r.countState .done, r.countState .reject, r.countState .pulled, r.oNow, r.countState .unknown⟩

/-- O_now of the window, 0 without a record. -/
def State.oNow (s : State) : Nat := match s.window.record with | some r => r.oNow | none => 0

/-- The window's serial, 0 without a record. -/
def State.windowSerial (s : State) : Nat := match s.window.record with | some r => r.serial | none => 0

/-- The lowest unit that is OPEN or PARTIAL, counting from `n` (R10). -/
def lowestOpen : Nat → List UnitEntry → Option Nat
  | _, [] => none
  | n, e :: es => if e.state == .opened || e.state == .partialDone then some n else lowestOpen (n + 1) es

/-- The wire at which a unit is started: its partial entry's next wire, else 1 (R10). -/
def StripRecord.startWire (r : StripRecord) (u : Nat) : Nat :=
  match r.partials.find? (fun p => p.1 == u) with
  | some p => p.2
  | none => 1

/-! ### Recipes -/

/-- The active generation, 0 for none (R18). -/
def State.activeGen (s : State) : Nat := match s.recipes.active with | some h => h.recipe.generation | none => 0

/-- The prior generation, 0 for none (R18). -/
def State.priorGen (s : State) : Nat := match s.recipes.prior with | some h => h.recipe.generation | none => 0

/-- The held set of a generation other than 0 (R18). -/
def State.setOf (s : State) (g : Nat) : Option Recipe :=
  if g = 0 then none
  else if s.activeGen = g then s.recipes.active.map (·.recipe)
  else if s.priorGen = g then s.recipes.prior.map (·.recipe)
  else none

/-- The set of the window record's generation: strip-bound parameters (R18). -/
def State.stripSet (s : State) : Option Recipe :=
  match s.window.record with | some r => s.setOf r.generation | none => none

/-- The active set: station-bound parameters (R18). -/
def State.activeSet (s : State) : Option Recipe := s.recipes.active.map (·.recipe)

/-- The panel idle time in ms, 0 for never (R18, R183). -/
def State.idleLimitMs (s : State) : Nat := match s.activeSet with | some r => r.idleTime * 10000 | none => 0

/-- R30. -/
def State.bondable (s : State) (r : StripRecord) : Bool :=
  match s.setOf r.generation with
  | some rec => r.units.length == rec.units && r.partials.all (fun p => p.2 ≤ rec.wires)
  | none => false

/-- A due activation is deferred (R27). -/
def State.deferred (s : State) : Bool :=
  match s.window.record with
  | some r => r.generation != 0 && r.generation == s.priorGen
  | none => false

/-- The wire table entry of the head's current wire, in the strip's set. -/
def State.wireEntry (s : State) : Option WireEntry :=
  match s.stripSet with | some r => if s.head.wire = 0 then none else r.wireTable[s.head.wire - 1]? | none => none

/-! ### Station state and beacon -/

/-- The station state's code in a beacon (R36, R191): 0 STARTING, 1 NO RECIPE, 2 IDLE, 3 BONDING, 4 HELD, 5 BYPASS,
6 FAULT. -/
def State.stationCode (s : State) : Nat :=
  if s.dup then 6
  else if !s.running then 0
  else if s.alarms.bypass then 5
  else if s.recipes.active.isNone then 1
  else if s.head.state == .held then 4
  else if s.head.state != .parked then 3
  else 2

/-- The OPEN entries of the pending-grade list, oldest first (R145). -/
def State.openGrades (s : State) : List PullRecord := (s.pull.list.filter (fun e => !e.closed)).map (·.record)

/-- The content of a beacon sent now (R191). With no OPEN entry the reference is 0 (R145), and so are its wire and peak
(DESIGN CHOICE, log entry 57). -/
def State.beaconView (s : State) : BeaconView where
  station := s.stationCode
  window := s.window.state.code
  holding := s.ownHold
  capable := s.pull.capable
  endStrap := s.isEnd
  serial := s.windowSerial
  oNow := s.oNow
  doneHere := s.window.doneHere
  debt := s.head.debt
  active := s.activeGen
  prior := s.priorGen
  alarms := (s.alarms.queue.take 4).map (fun e => (e.seq, e.kind.code))
  pendingCount := s.openGrades.length
  oldRef := match s.openGrades with | r :: _ => r.ref | [] => 0
  oldWire := match s.openGrades with | r :: _ => r.wire | [] => 0
  oldPeak := match s.openGrades with | r :: _ => r.peak | [] => 0

/-- A BEACON frame with the station's state now. -/
def State.beaconFrame (s : State) : Frame := ⟨0, .beacon, encodeBeacon s.beaconView⟩

/-! ### Access to the line -/

/-- The quiet gap in µs after which station `n` may start its next frame (R188). -/
def quietGap (last : Option Nat) (n : Nat) : Nat :=
  match last with
  | some l => 8 + 3 * ((n + 14 - l - 1) % 7)
  | none => 8 + 3 * (6 + n)

/-! ### Bond energy (chapter 4) -/

/-- A clamped sample value (R64). -/
def clampSample (n : Nat) : Nat := if 16383 < n then 16383 else n

/-- The end of a bond: by time or energy, with its SHORT flag (R66, R67); none while the bond goes on. -/
def endTest (b : BondSet) (sum count : Nat) : Option Bool :=
  if b.energyMode then
    if 300 ≤ count ∧ 2000000 * b.eTarget ≤ sum + 1000000 then some false
    else if b.time * 100 ≤ count then some true
    else none
  else if b.time * 100 ≤ count then some false
  else none

/-- The energy in µJ with its SAT flag (R69). -/
def bondEnergy (sum : Nat) : Nat × Bool :=
  if 65535 < (sum + 1000000) / 2000000 then (65535, true) else ((sum + 1000000) / 2000000, false)

/-- The energy verdict (R70). -/
inductive EnergyVerdict where
  | low | inside | high
  deriving DecidableEq, Repr

/-- R70. -/
def energyVerdict (e lo hi : Nat) : EnergyVerdict :=
  if e < lo then .low else if hi < e then .high else .inside

/-- A bond is FLAGGED (R70). -/
def flagged (v : EnergyVerdict) (short sat : Bool) : Bool := v != .inside || short || sat

/-- The pad verdict (R71). -/
inductive PadVerdict where
  | stuck | notStuck | noLoad
  deriving DecidableEq, Repr

/-- D of the pad check (R71 step 5). -/
def padDrop (iRef iFin : Nat) : Nat :=
  if iFin < iRef then min 255 ((iRef - iFin) * 256 / iRef) else 0

/-- The pad check (R71). -/
def padCheck (dMin iFloor refSum tailSum count : Nat) : PadVerdict :=
  if dMin = 0 then .stuck
  else if refSum / 200 < iFloor then .noLoad
  else if dMin ≤ padDrop (refSum / 200) (tailSum / (count / 4)) then .stuck
  else .notStuck

/-- The drift test of a full ring (R75). -/
def driftExists (energies : List Nat) (b : BondSet) : Bool :=
  let a := energies.sum / 8
  let n := (b.eLo + b.eHi) / 2
  b.band * n < (if a < n then n - a else a - n) * 100

/-! ### Line balancing (chapter 6) -/

/-- A station counts towards B_down by its beacon (R93). -/
def countsDown (b : BeaconView) : Bool :=
  within b.station 2 4 && b.alarms.all (fun a => a.2 != 10 && a.2 != 11 && a.2 != 12)

/-- Examines stations `n`, `n + 1`, … (`fuel` of them at most) for B_down (R93). -/
def State.bDownFrom (s : State) : Nat → Nat → Nat
  | 0, _ => 0
  | fuel + 1, n =>
    if 6 < n ∨ s.isPresent n = false then 0
    else match s.beaconOf n with
      | none => s.bDownFrom fuel (n + 1)
      | some b => (if countsDown b then 1 else 0) + (if b.endStrap then 0 else s.bDownFrom fuel (n + 1))

/-- B_down (R93). -/
def State.bDown (s : State) : Nat := if s.isEnd then 0 else s.bDownFrom 6 (s.stn + 1)

/-- ceil(a / b) for b at least 1. -/
def ceilDiv (a b : Nat) : Nat := (a + b - 1) / b

/-- R94. -/
def State.passReady (s : State) : Bool :=
  s.oNow == 0 || s.alarms.bypass || s.window.forward
    || (1 ≤ s.bDown && ceilDiv (s.window.doneHere + s.oNow) (s.bDown + 1) ≤ s.window.doneHere)

/-- The downstream beacon shows an EMPTY window in a station state that takes strips (R97). -/
def takesStrips (b : BeaconView) : Bool := b.window == 0 && (within b.station 2 4 || b.station == 5)

/-- R97, at a station other than END. -/
def State.offerable (s : State) : Bool :=
  !s.isEnd && s.window.state == .clamped && !s.windowAlarm && !s.window.freshWait && !s.holding && s.stn < 6
    && match s.beaconOf (s.stn + 1) with | some b => takesStrips b | none => false

/-- A strip waits (R96; log entry 19). -/
def State.stripWaits (s : State) : Bool :=
  s.window.state == .clamped && s.head.unit.isNone && s.head.boundaryStep == 0

/-- The output magazine can accept (R129). -/
def State.outputAccepts (s : State) : Bool := s.outMag.unloader == .ready && s.outMag.slots.contains .empty

/-! ### Starting work (R38, R87, R119) -/

/-- The conditions of R38 on everything but the head's own state and the hold set. -/
def State.unitStartable (s : State) : Bool :=
  s.running && !s.dup && s.head.homed && !s.alarms.bypass && s.window.state == .clamped && !s.window.forward
    && !s.windowAlarm && match s.window.record with
      | some r => s.bondable r && (lowestOpen 1 r.units).isSome
      | none => false

/-- The conditions of R87 on everything but the head's own state. -/
def State.pullInAllowed (s : State) : Bool :=
  -8 < s.head.debt && !s.holding && !s.alarms.bypass && s.running && s.head.homed && !s.dup
    && s.recipes.active.isSome

/-- The feed conditions of R119 but the last; after a warm restart none holds before its homing has ended and the head
has parked (R133). -/
def State.feedAllowed (s : State) : Bool :=
  s.isFirst && s.inMag.feed == .idle && s.running && !s.head.restartHoming && !s.dup && s.window.state == .empty && s.recipes.active.isSome
    && !s.holding && !s.alarmOpen .feedJam

/-- The number of a magazine slot as an index, slots numbered from 1. -/
def slotIndex (n : Nat) : Nat := n - 1

/-- The lowest slot from `n` on that a feed may try (R119). -/
def feedCandidate : Nat → List InSlot → Option Nat
  | _, [] => none
  | n, x :: xs => if x == .unknown || x == .loaded then some n else feedCandidate (n + 1) xs

/-- The lowest slot from `n` on that is EMPTY (R130). -/
def emptySlot : Nat → List OutSlot → Option Nat
  | _, [] => none
  | n, x :: xs => if x == .empty then some n else emptySlot (n + 1) xs

/-- The lowest slot from `n` on that is UNKNOWN (R133). -/
def unscannedSlot : Nat → List OutSlot → Option Nat
  | _, [] => none
  | n, x :: xs => if x == .unknown then some n else unscannedSlot (n + 1) xs

/-! ### The log (chapter 9) -/

/-- The blocks written, as (block, sequence, first record number). -/
def writtenBlocks : Nat → List (Option (Nat × Nat)) → List (Nat × Nat × Nat)
  | _, [] => []
  | n, none :: hs => writtenBlocks (n + 1) hs
  | n, some h :: hs => (n, h.1, h.2) :: writtenBlocks (n + 1) hs

/-- The written blocks of a log. -/
def Log.written (l : Log) : List (Nat × Nat × Nat) := writtenBlocks 0 l.headers

/-- The entry with the highest sequence number; the first of equals. -/
def newestOf : List (Nat × Nat × Nat) → Option (Nat × Nat × Nat)
  | [] => none
  | b :: bs => match newestOf bs with
    | none => some b
    | some c => if c.2.1 ≤ b.2.1 then some b else some c

/-- The entry with the lowest sequence number; the first of equals. -/
def oldestOf : List (Nat × Nat × Nat) → Option (Nat × Nat × Nat)
  | [] => none
  | b :: bs => match oldestOf bs with
    | none => some b
    | some c => if b.2.1 ≤ c.2.1 then some b else some c

/-- The write block: the written block with the highest sequence number (R150). -/
def Log.writeBlock (l : Log) : Option Nat := (newestOf l.written).map (·.1)

/-- The write block sequence, 0 for none (R152, R161). -/
def Log.writeSeq (l : Log) : Nat := match newestOf l.written with | some b => b.2.1 | none => 0

/-- The oldest block (R150). -/
def Log.oldestBlock (l : Log) : Option Nat := (oldestOf l.written).map (·.1)

/-- The oldest record number: the oldest block's first record number, 1 for an empty store (R152, R161). -/
def Log.oldestRecord (l : Log) : Nat := match oldestOf l.written with | some b => b.2.2 | none => 1

/-- The written block that follows a sequence number (R155). -/
def Log.nextWritten (l : Log) (seq : Nat) : Option (Nat × Nat × Nat) :=
  oldestOf (l.written.filter (fun b => seq < b.2.1))

/-- A block's last record number: one less than the next written block's first (R155), the newest for the last. -/
def Log.lastRecord (l : Log) (seq : Nat) : Nat :=
  match l.nextWritten seq with | some b => b.2.2 - 1 | none => l.newest

/-- A block is erasable (R155). -/
def Log.erasable (l : Log) (b : Nat) : Bool :=
  l.writeBlock != some b &&
  match l.headers.getD b none with
  | none => true
  | some h => l.lastRecord h.1 ≤ l.spanEnd

/-- The block that follows in the ring (R150). -/
def nextBlock (b : Nat) : Nat := (b + 1) % Config.blocks

/-- The block the next erase-ahead takes, the nearer one first (R155). -/
def Log.aheadDue (l : Log) : Option Nat :=
  match l.writeBlock with
  | none => none
  | some w => [nextBlock w, nextBlock (nextBlock w)].find? (fun b => !l.ahead.contains b && l.erasable b)

/-- The write queue has room for a closed pull record (R154; none without a store, R161). -/
def Log.hasRoom (l : Log) : Bool :=
  l.present && (if l.full then l.queue.length + 1 < Config.writePlaces else l.queue.length < Config.writePlaces)

/-- The block of record number `n`, with its last record number (R160). -/
def Log.blockOf (l : Log) (n : Nat) : Option (Nat × Nat) :=
  match l.written.find? (fun b => b.2.2 ≤ n && n ≤ l.lastRecord b.2.1) with
  | some b => some (b.1, l.lastRecord b.2.1)
  | none => none

/-! ### Panel -/

/-- The station drives a panel. -/
def State.hasPanel (s : State) : Bool := s.straps.panelFitted

/-- The oldest OPEN entry of the panel alarm list (R181). -/
def Panel.oldestOpen (p : Panel) : Option PanelEntry := p.list.find? (fun e => e.state == .opened)

/-- The overlay is displayed (R181). -/
def Panel.overlay (p : Panel) : Bool := p.list.any (fun e => e.state == .opened)

/-- A screen's number, for its last scroll position. -/
def Screen.index : Screen → Nat
  | .home => 0 | .line => 1 | .menu => 2 | .tally => 3 | .magazine => 4 | .recipe => 5 | .grade => 6

/-- The screen on top of the stack (R177). -/
def Panel.top (p : Panel) : Screen := p.stack.getLastD .home

/-- A line of the GRADE screen: station, oldest reference, its wire and peak, and the pending-grade count (R182). -/
structure GradeLine where
  station : Nat
  ref : Nat
  wire : Nat
  peak : Nat
  count : Nat
  deriving DecidableEq, Repr

/-- The GRADE line of a beacon's content (R182). -/
def gradeLineOf (n : Nat) (b : BeaconView) : Option GradeLine :=
  if b.capable && b.oldRef != 0 then some ⟨n, b.oldRef, b.oldWire, b.oldPeak, b.pendingCount⟩ else none

/-- The lines of the GRADE screen in station order; the own station's from its own pull controller (R182). -/
def State.gradeLines (s : State) : List GradeLine :=
  [1, 2, 3, 4, 5, 6].filterMap (fun n =>
    if n = s.stn then gradeLineOf n s.beaconView
    else match s.beaconOf n with | some b => gradeLineOf n b | none => none)

/-- The selected GRADE line: the one kept, or the first (R182), also where there was none before (DEDUCED, log entry
61). -/
def State.selectedLine (s : State) : Option GradeLine :=
  match s.gradeLines.find? (fun l => s.panel.gradeLine == some l.station) with
  | some l => some l
  | none => s.gradeLines.head?

end Sys2Proof.Machine
end

