-- ==== Sys2Proof/Machine/Ops.lean ====
section
/-! DEFINITION. The operations every block shares: requests and their answers, tallies, and the tests an event makes
due. -/

namespace Sys2Proof.Machine

/-! ### The event -/

/-- The start of a command: the levels at its event are taken, and the record of requests and the agenda are empty
(log entries 3, 5 and 6). -/
def State.begin_ (s : State) (p : Pins) : State := { s with pins := p, out := [], agenda := Agenda.none }

/-- Only a part that operates acts (R61, R189). -/
def State.whenOperating (s : State) (f : State → State) : State := if s.operating then f s else s

/-- Only a part whose start-up is finished acts. -/
def State.whenRunning (s : State) (f : State → State) : State := if s.operating && s.running then f s else s

/-- An application point has come (R26). -/
def State.askPoint (s : State) : State := { s with agenda.point := true }
/-- R38, and after it R87, is to be tested. -/
def State.askHead (s : State) : State := { s with agenda.head := true }
/-- The waiting strip is to be evaluated (R96). -/
def State.askStrip (s : State) : State := { s with agenda.strip := true }
/-- The feed conditions are to be tested (R119). -/
def State.askFeed (s : State) : State := { s with agenda.feed := true }
/-- A place has come free in the pending-grade list (R137). -/
def State.askPlace (s : State) : State := { s with agenda.place := true }
/-- FULL has been set (R137). -/
def State.askFull (s : State) : State := { s with agenda.full := true }
/-- The record port's arbiter is to look (R153). -/
def State.askPort (s : State) : State := { s with agenda.port := true }
/-- A beacon is due at the end of the event too (R191). -/
def State.askBeacon (s : State) : State := { s with agenda.beacon := true }

/-! ### Requests and answers -/

/-- Requests made at a port, in order. -/
def State.issue (s : State) (r : Request) : State := { s with out := s.out ++ [r] }

/-- A request whose answer is then due. -/
def State.request (s : State) (r : Request) (pt : Port) (u : Use) : State :=
  { s with out := s.out ++ [r], due := s.due ++ [⟨pt, u, true⟩] }

/-- MOVE(a, target) made for a use. -/
def State.move (s : State) (a : Axis) (target : Int) (u : Use) (arg : MoveArg := .plain) : State :=
  s.request (.move a target arg) (.axis a) u

/-- A Z target above Z home is taken as 0 (R35). -/
def zTarget (base back : Nat) : Int := ((base - back : Nat) : Int)

/-- Wire clamp OPEN or CLOSE. -/
def State.wireClampReq (s : State) (close : Bool) (u : Use) : State := s.request (.wireClamp close) .wireClamp u

/-- Strip clamp OPEN or CLOSE (R91). -/
def State.stripClampReq (s : State) (close : Bool) : State := s.request (.stripClamp close) .stripClamp .clampStrip

/-- MOVE(B, OUT) (R91). -/
def State.beltOut (s : State) : State := s.request .beltOut (.axis .b) .belt

/-- The requests of the head (R49, R60). -/
def Use.ofHead : Use → Bool
  | .homing | .positioning | .search | .lower | .looping | .stitch | .tail | .clearing | .conditioning | .fire
  | .pullMove | .rise | .hookReturn => true
  | _ => false

/-- The oldest due answer of a port that fits, with the rest; older entries of that port are answered with it, as a
port answers in order (log entry 4). -/
def takeAnswer (pt : Port) (ok : Use → Bool) : List Due → Option (Due × List Due)
  | [] => none
  | d :: ds =>
    if d.port = pt then (if ok d.use then some (d, ds) else takeAnswer pt ok ds)
    else (takeAnswer pt ok ds).map (fun r => (r.1, d :: r.2))

/-- A port's DONE: it answers the oldest fitting request; nothing answers nothing, and the answer to a request made
before a fault or restart is ignored (R49, R60). -/
def State.onAnswer (s : State) (pt : Port) (ok : Use → Bool) (f : Use → State → State) : State :=
  match takeAnswer pt ok s.due with
  | none => s
  | some (d, rest) => if d.live then f d.use { s with due := rest } else { s with due := rest }

/-- Answers still due to these requests will be ignored. -/
def State.ignoreDue (s : State) (which : Due → Bool) : State :=
  { s with due := s.due.map (fun d => if which d then { d with live := false } else d) }

/-- A live request of this use is still unanswered. -/
def State.awaiting (s : State) (u : Use) : Bool := s.due.any (fun d => d.use == u && d.live)

/-! ### Tallies (R196) -/

/-- One count, held at 4,294,967,295 with the overflow flag (R196). -/
def Counter.bump (c : Counter) : Counter :=
  if c.value < Config.max32 then { c with value := c.value + 1 } else { c with overflow := true }

/-- Count a completed event (R196). -/
def State.count (s : State) (t : Tally) : State :=
  { s with tally.counters := s.tally.counters.modify t.index Counter.bump }

/-- Count if a condition holds. -/
def State.countIf (s : State) (c : Bool) (t : Tally) : State := if c then s.count t else s

/-- The value of a running counter. -/
def State.tallyOf (s : State) (t : Tally) : Nat := (s.tally.counters.getD t.index ⟨0, false⟩).value

/-- A line counter, held at 65,535 (R196). -/
def bump16 (n : Nat) : Nat := if n < Config.max16 then n + 1 else n

/-- A count that continues at 0 after 65,535 (R117, R127, R197). -/
def wrap16 (n : Nat) : Nat := if n < Config.max16 then n + 1 else 0

/-- A snapshot (R197). -/
def State.snapshot (s : State) (resetMode : Bool) : State :=
  { s with
    tally.snapPrevGen := s.tally.snapGen
    tally.snapGen := s.activeGen
    tally.snapCounters := s.tally.counters
    tally.snapNumber := wrap16 s.tally.snapNumber
    tally.counters := if resetMode then List.replicate 19 ⟨0, false⟩ else s.tally.counters }

end Sys2Proof.Machine
end

