-- ==== Sys2Proof/Machine/PanelList.lean ====
section
/-! DEFINITION. The panel alarm list and standby: what the panel learns from alarms, settlings and beacons
(R180, R181, R183). -/

namespace Sys2Proof.Machine

/-- The entry of an id. -/
def PanelEntry.isId (e : PanelEntry) (station seq : Nat) : Bool := e.station == station && e.seq == seq

/-- The deferral timer runs while entries are DEFERRED (R175). -/
def Panel.keepDeferral (p : Panel) : Panel :=
  if p.list.any (fun e => e.state == .deferred) then p else { p with deferTimer := none }

/-- The shown entry follows the list; a change of it clears the entry buffer (R181). -/
def Panel.showOpen (p : Panel) : Panel :=
  if p.list.any (fun e => e.state == .opened && p.shown == some (e.station, e.seq)) then p
  else if p.shown = p.oldestOpen.map (fun e => (e.station, e.seq)) then p
  else { p with shown := p.oldestOpen.map (fun e => (e.station, e.seq)), buffer := .empty }

/-- What follows a change of the list: the shown entry, and the deferral timer (R175, R181). -/
def Panel.refresh (p : Panel) : Panel := p.keepDeferral.showOpen

/-- Standby begins when the idle time is reached and no entry is OPEN (R183); under the duplicate-station fault, whose
display R184 fixes, it does not (log entry 34). -/
def State.standbyTest (s : State) : State :=
  if s.hasPanel && !s.dup && s.idleLimitMs != 0 && s.idleLimitMs ≤ s.panel.idleMs && !s.panel.overlay then
    { s with panel.standby := true }
  else s

/-- A change of the list: the shown entry follows, and standby is tested when the last OPEN entry leaves OPEN
(R181, R183). -/
def State.panelChange (s : State) (p : Panel) : State :=
  if s.panel.overlay && !p.refresh.overlay then ({ s with panel := p.refresh } : State).standbyTest
  else { s with panel := p.refresh }

/-- The panel wakes (R183; log entry 11). -/
def Panel.wake (p : Panel) : Panel := { p with standby := false, idleMs := 0 }

/-- An entry is appended while the list has room: long buzz, and the panel wakes (R180). -/
def State.panelAppend (s : State) (e : PanelEntry) : State :=
  if s.panel.list.length < Config.panelPlaces then
    (s.panelChange { s.panel.wake with list := s.panel.list ++ [e] }).issue (.buzz true)
  else s

/-- ALARM received (R180). -/
def State.panelAlarm (s : State) (station seq : Nat) (kind : AlarmKind) (c : Context) : State :=
  if !s.hasPanel then s
  else if s.panel.list.any (fun e => e.isId station seq) then
    { s with panel.list := s.panel.list.map (fun e => if e.isId station seq then { e with context := some c } else e) }
  else s.panelAppend ⟨station, seq, kind, some c, .opened, false, none⟩

/-- SETTLED received (R180). -/
def State.panelSettled (s : State) (station seq : Nat) : State :=
  if s.hasPanel then s.panelChange { s.panel with list := s.panel.list.filter (fun e => !e.isId station seq) } else s

/-- A station has become absent (R180). -/
def State.panelAbsent (s : State) (station : Nat) : State :=
  if s.hasPanel then s.panelChange { s.panel with list := s.panel.list.filter (fun e => e.station != station) } else s

/-- A carried alarm that is not listed is appended; a listed one receives the seen mark (R180). The entry that the beacon
itself appends holds the mark at once (DEDUCED, log entry 69). -/
def State.panelCarried (station : Nat) (s : State) (a : Nat × Nat) : State :=
  if s.panel.list.any (fun e => e.isId station a.1) then
    { s with panel.list := s.panel.list.map (fun e => if e.isId station a.1 then { e with seen := true } else e) }
  else match AlarmKind.ofCode a.2 with
    | some k => s.panelAppend ⟨station, a.1, k, none, .opened, true, none⟩
    | none => s

/-- Beacon of a station (R180): new alarms are appended, then entries no longer carried are removed if the beacon is
not full or they were seen in one before this beacon. So a place that a removal frees takes no alarm of the same beacon
(DEDUCED, log entry 62). -/
def State.panelBeacon (s : State) (station : Nat) (carried : List (Nat × Nat)) : State :=
  if !s.hasPanel then s
  else
    let s1 := carried.foldl (State.panelCarried station) s
    s1.panelChange { s1.panel with list := s1.panel.list.filter (fun e =>
      e.station != station || carried.any (fun a => a.1 == e.seq) || !(carried.length < 4 || e.seen)) }

end Sys2Proof.Machine
end

