-- ==== Sys2Proof/Machine/LineQueue.lean ====
section
/-! DEFINITION. The transmit queue, what waits for room in it, the beacon and the replies (R191, R193, R194). -/

namespace Sys2Proof.Machine

/-- What a frame's placing does beside joining the queue: a placed STRIP RECORD starts the strip moving (R100), also where
a TRANSFER JAM has been raised while it waited, but not once the window has left OUTBOUND (R107; DESIGN CHOICE, log entry
55); the last PULL DATA frame ends the read in service (R159). -/
def State.onPlaced (s : State) (o : Owner) : State :=
  match o with
  | .stripRecord =>
    if s.window.state = .outbound ∧ s.window.recordQueued = false then
      (({ s with window.recordQueued := true } : State).stripClampReq false).beltOut
    else s
  | .reply .pullRead true => { s with log.service := none }
  | _ => s

/-- A waiting item takes a place of the queue (R191). -/
def State.placeItem (s : State) (w : Waiting) : State :=
  match w with
  | .beaconDue =>
    ({ s with line.txQueue := s.line.txQueue ++ [⟨s.beaconFrame, 0⟩], line.beaconTimer := some Config.beaconMs }
      : State).panelBeacon s.stn s.beaconView.alarms
  | .frame o f => ({ s with line.txQueue := s.line.txQueue ++ [⟨f, 0⟩] } : State).onPlaced o

/-- Waiting items take places in the order they began to wait, while there is room (R191). -/
def State.drain : List Waiting → State → State
  | [], s => { s with line.waiting := [] }
  | w :: ws, s => if s.lineHasRoom then State.drain ws (s.placeItem w) else { s with line.waiting := w :: ws }

/-- Waiting items take what room there is. -/
def State.fill (s : State) : State := State.drain s.line.waiting s

/-- A frame for the transmit queue: placed, or waiting with its content fixed (R191). -/
def State.submit (s : State) (o : Owner) (f : Frame) : State :=
  if s.operating then ({ s with line.waiting := s.line.waiting ++ [.frame o f] } : State).fill else s

/-- A BEACON is queued. -/
def Line.hasBeacon (l : Line) : Bool := l.txQueue.any (fun t => t.frame.kind == .beacon)

/-- A beacon is due (R191): the queued BEACON's payload is replaced in place, or a BEACON is placed, or the due mark
waits. -/
def State.placeBeacon (s : State) : State :=
  if !s.operating then s
  else if s.line.hasBeacon then
    { s with line.txQueue := s.line.txQueue.map (fun t =>
        if t.frame.kind == .beacon then { t with frame := s.beaconFrame } else t) }
  else if s.line.waiting.contains .beaconDue then s
  else ({ s with line.waiting := s.line.waiting ++ [.beaconDue] } : State).fill

/-- A rule queues a beacon: now, and with the state at the end of the event (R191). -/
def State.queueBeacon (s : State) : State := s.placeBeacon.askBeacon

/-- Waiting frames of these owners are withdrawn. -/
def State.withdraw (s : State) (which : Owner → Bool) : State :=
  { s with line.waiting := s.line.waiting.filter (fun w => match w with | .beaconDue => true | .frame o _ => !which o) }

/-- Frames of this owner that wait. -/
def State.waitingOf (s : State) (which : Owner → Bool) : Nat :=
  s.line.waiting.countP (fun w => match w with | .beaconDue => false | .frame o _ => which o)

/-- Is a REFUSED frame. -/
def Owner.isRefused : Owner → Bool
  | .refused => true
  | _ => false

/-- The oldest waiting REFUSED is dropped (R193). -/
def dropRefused : List Waiting → List Waiting
  | [] => []
  | .beaconDue :: ws => .beaconDue :: dropRefused ws
  | .frame o f :: ws => if o.isRefused then ws else .frame o f :: dropRefused ws

/-- A REFUSED frame's payload (R187). -/
def refusedBytes (kind : FrameKind) (code detail : Nat) : List Byte :=
  [byteOf kind.code, byteOf code] ++ beBytes 4 detail

/-- A refusal (R193, R194): kept as the last refusal; sent as REFUSED unless the request was broadcast. -/
def State.refuse (s : State) (h : Hdr) (kind : FrameKind) (code detail : Nat) : State :=
  let s1 := { s with line.lastRefusal := some ⟨kind, code, detail⟩ }
  if h.target = 0 then s1
  else
    let s2 := if s1.waitingOf Owner.isRefused < Config.refusedPlaces then s1
      else { s1 with line.waiting := dropRefused s1.line.waiting }
    s2.submit .refused ⟨h.sender, .refused, refusedBytes kind code detail⟩

/-- A waiting data reply to this request kind (R193). -/
def Owner.isReplyTo (o : Owner) (k : FrameKind) : Bool :=
  match o with
  | .reply k' _ => k' == k
  | _ => false

/-- The frames of a reply, the last one marked. -/
def State.submitReplies (k : FrameKind) (s : State) : List Frame → State
  | [] => s
  | [f] => s.submit (.reply k true) f
  | f :: fs => State.submitReplies k (s.submit (.reply k false) f) fs

/-- A data reply: frames of an earlier reply of this kind that still wait are dropped (R193). -/
def State.reply (s : State) (k : FrameKind) (frames : List Frame) : State :=
  State.submitReplies k (s.withdraw (fun o => o.isReplyTo k)) frames

end Sys2Proof.Machine
end

