-- ==== Sys2Proof/Machine/AlarmOps.lean ====
section
/-! DEFINITION. Raising and settling alarms (R164 to R168). -/

namespace Sys2Proof.Machine

/-- One past a sequence number, from 255 to 1 (R164). -/
def nextSeq (n : Nat) : Nat := if 255 ≤ n then 1 else n + 1

/-- The first sequence from `n` on that no open alarm has (R164). At most 16 are open, so 17 tries find one. -/
def freeSeq (queue : List AlarmEntry) : Nat → Nat → Nat
  | 0, n => n
  | fuel + 1, n => if queue.any (fun e => e.seq == n) then freeSeq queue fuel (nextSeq n) else n

/-- The context of an alarm raised now (R164). -/
def State.context (s : State) : Context :=
  ⟨s.windowSerial, s.head.unit.getD 0, if s.head.unit.isSome then s.head.wire else 0⟩

/-- The ALARM frame of an entry (R186). -/
def alarmFrame (e : AlarmEntry) : Frame :=
  ⟨0, .alarm, [byteOf e.seq, byteOf e.kind.code] ++ beBytes 4 e.context.serial
    ++ [byteOf e.context.unit, byteOf e.context.wire]⟩

/-- The SETTLED frame of an entry (R186). -/
def settledFrame (e : AlarmEntry) (c : Choice) (responder : Nat) : Frame :=
  ⟨0, .settled, [byteOf e.seq, byteOf e.kind.code, byteOf c.code, byteOf responder]⟩

/-- A new entry joins the queue; ALARM and a beacon are queued, and the own panel learns of it (R164, R180). -/
def State.addAlarm (s : State) (e : AlarmEntry) : State :=
  ((({ s with alarms.queue := s.alarms.queue ++ [e], alarms.counter := nextSeq e.seq } : State).submit
    (.alarm e.seq) (alarmFrame e)).panelAlarm s.stn e.seq e.kind e.context).queueBeacon

/-- A block asks for an alarm (R164): without effect while one of the kind is open, and under the duplicate-station fault,
where the alarm controller raises nothing (R174). -/
def State.raise (s : State) (k : AlarmKind) : State :=
  if !s.operating || s.alarmOpen k then s
  else s.addAlarm ⟨freeSeq s.alarms.queue 17 s.alarms.counter, k, s.context⟩

/-- Is the waiting ALARM frame of this sequence. -/
def Owner.isAlarm (o : Owner) (seq : Nat) : Bool :=
  match o with
  | .alarm q => q == seq
  | _ => false

/-- The tests that the settling of a kind makes due: a settled window alarm R38 and the waiting strip, a settled FEED
JAM the feed conditions (R38, R96, R119). -/
def State.askSettled (s : State) (k : AlarmKind) : State :=
  if k.holdsWindow then s.askHead.askStrip
  else if k == .feedJam then s.askFeed
  else s

/-- An entry is removed: its waiting ALARM is withdrawn, SETTLED and a beacon are queued, the own panel drops it
(R164, R167, R168). -/
def State.removeAlarm (s : State) (e : AlarmEntry) (c : Choice) (responder : Nat) : State :=
  (((((({ s with alarms.queue := s.alarms.queue.filter (fun x => x.seq != e.seq) } : State).withdraw
    (fun o => o.isAlarm e.seq)).submit .settled (settledFrame e c responder)).panelSettled s.stn e.seq).queueBeacon
    ).askSettled e.kind)

/-- The open entry of a kind. -/
def State.openAlarm (s : State) (k : AlarmKind) : Option AlarmEntry := s.alarms.queue.find? (fun e => e.kind == k)

/-- A condition settles the alarm of a kind, if one is open (R168); under the duplicate-station fault the queue is kept
(R174). -/
def State.clearAlarm (s : State) (k : AlarmKind) : State :=
  match s.openAlarm k with
  | some e => if s.operating then s.removeAlarm e .cleared 0 else s
  | none => s

end Sys2Proof.Machine
end

