-- ==== Sys2Proof/Machine/RecordOps.lean ====
section
/-! DEFINITION. Changes of the strip record (chapter 1) and the coming and going of the window record (R1). -/

namespace Sys2Proof.Machine

/-! ### A record's units and partial list -/

/-- A unit's entry is replaced. -/
def StripRecord.setEntry (r : StripRecord) (n : Nat) (e : UnitEntry) : StripRecord :=
  { r with units := r.units.set (n - 1) e }

/-- The entry (unit, next wire) at the place its unit number requires (R9). -/
def insertPartial (u w : Nat) : List (Nat × Nat) → List (Nat × Nat)
  | [] => [(u, w)]
  | p :: ps => if u < p.1 then (u, w) :: p :: ps else p :: insertPartial u w ps

/-- A unit's entry is removed and the later entries close up (R9). -/
def removePartial (u : Nat) (ps : List (Nat × Nat)) : List (Nat × Nat) := ps.filter (fun p => p.1 != u)

/-- An entry's next wire becomes the new value (R5). -/
def updatePartial (u w : Nat) (ps : List (Nat × Nat)) : List (Nat × Nat) :=
  ps.map (fun p => if p.1 == u then (p.1, w) else p)

/-- OPEN or PARTIAL becomes DONE or REJECT with this station as bonder; the unit's partial entry is removed
(R3, R4, R6). Any other unit is left as it is. -/
def StripRecord.finishUnit (r : StripRecord) (n stn : Nat) (st : UnitState) : StripRecord :=
  match r.entry n with
  | some e =>
    if e.state = .opened ∨ e.state = .partialDone then
      { r.setEntry n ⟨st, stn⟩ with partials := removePartial n r.partials }
    else r
  | none => r

/-- DONE becomes PULLED, keeping its bonder, together with sample taken (R7). -/
def StripRecord.pullUnit (r : StripRecord) (n : Nat) : StripRecord :=
  match r.entry n with
  | some e => if e.state = .done then { r.setEntry n ⟨.pulled, e.bonder⟩ with taken := true } else r
  | none => r

/-- PASS STRIP on the unit in progress (R5): `completed` says whether a wire of it completed here. -/
def StripRecord.interruptUnit (r : StripRecord) (n stn : Nat) (completed : Bool) (nextWire : Nat) : StripRecord :=
  match r.entry n with
  | some e =>
    if !completed then r
    else if e.state = .opened then
      if r.partials.length < Config.partialPlaces then
        { r.setEntry n ⟨.partialDone, 0⟩ with partials := insertPartial n nextWire r.partials }
      else r.setEntry n ⟨.reject, stn⟩
    else if e.state = .partialDone then { r with partials := updatePartial n nextWire r.partials }
    else r
  | none => r

/-- The unit that R5 makes REJECT for a full list. -/
def StripRecord.interruptRejects (r : StripRecord) (n : Nat) (completed : Bool) : Bool :=
  match r.entry n with
  | some e => completed && e.state == .opened && !(r.partials.length < Config.partialPlaces)
  | none => false

/-- The record of a strip station 1 feeds (R2, R120). -/
def newRecord (serial : Nat) (h : HeldSet) : StripRecord where
  serial := serial
  generation := h.recipe.generation
  run := h.run
  units := List.replicate h.recipe.units ⟨.opened, 0⟩
  partials := []
  selected := h.recipe.pullInterval != 0 && serial % h.recipe.pullInterval == 0
  taken := false
  skipped := false

/-- An unknown-strip record (R8). -/
def unknownRecord (unitCount : Nat) : StripRecord where
  serial := 0
  generation := 0
  run := 0
  units := List.replicate unitCount ⟨.unknown, 0⟩
  partials := []
  selected := false
  taken := false
  skipped := false

/-- The unknown-strip record of this station: the active set's unit count, or 48 (R8). -/
def State.unknownStrip (s : State) : StripRecord :=
  unknownRecord (match s.activeSet with | some r => r.units | none => 48)

/-! ### The window record -/

/-- A change of the window record's content. -/
def State.onRecord (s : State) (f : StripRecord → StripRecord) : State :=
  { s with window.record := s.window.record.map f }

/-- What falls with the window record when it is given up or replaced: the surface height (R35), the energy rows
(R77), done_here (R11), the forward mark (R111) and the fresh-beacon wait (R101); a deferral may end (R26, R27). -/
def State.dropStripData (s : State) : State :=
  ({ s with
    head.surface := none
    energy.working := none
    energy.table := none
    window.doneHere := 0
    window.forward := false
    window.freshWait := false } : State).askPoint

/-- The window record is given up and the window is EMPTY (R1, R104). -/
def State.giveUpRecord (s : State) : State :=
  (({ s.dropStripData with
    window.state := .empty
    window.record := none
    window.inbound := none
    window.inboundSerial := none
    window.recordQueued := false
    window.exitTimer := none } : State).askHead.askFeed).queueBeacon

/-- The window returns to EMPTY from INBOUND, with its inbound record and serial gone. -/
def State.emptyWindow (s : State) : State :=
  ({ s with
    window.state := .empty
    window.inbound := none
    window.inboundSerial := none
    window.arrivalTimer := none } : State).askFeed.queueBeacon

/-- STALE GENERATION for a window record that is not bondable (R31). -/
def State.testStale (s : State) : State :=
  match s.window.record with
  | some r => if r.generation ≠ 0 ∧ s.bondable r = false then s.raise .staleGeneration else s
  | none => s

/-- A strip is clamped with this record (R103, R109, R112): strip clamp CLOSE, CLAMPED, done_here 0; the arrival is
counted; `lost` says the record was built for a strip without one (RECORD LOST). The head tests R38 and the strip is
evaluated if it waits. -/
def State.clampStrip (s : State) (r : StripRecord) (lost : Bool) : State :=
  let s1 := { s.dropStripData.stripClampReq true with
    window.state := .clamped
    window.record := some r
    window.inbound := none
    window.inboundSerial := none
    window.arrivalTimer := none }
  let s2 := ((s1.count .stripsReceived).askHead.askStrip).queueBeacon
  (if lost then s2.raise .recordLost else s2).testStale

/-- A strip clamped without a record (R8). -/
def State.clampUnknown (s : State) : State := s.clampStrip s.unknownStrip true

/-- A strip clamped with the inbound record, or as an unknown strip where none is held (R103, R108, R114). -/
def State.clampInbound (s : State) : State :=
  match s.window.inbound with
  | some r => s.clampStrip r false
  | none => s.clampUnknown

/-- A strip that was leaving is clamped again with its record and done_here kept (R108, R114). -/
def State.reclamp (s : State) : State :=
  (({ s.stripClampReq true with
    window.state := .clamped
    window.recordQueued := false
    window.exitTimer := none } : State).askHead.askStrip).queueBeacon

/-! ### The unit in progress (R3) -/

/-- A wire of the unit in progress has completed at this station (R5). -/
def State.wiresHere (s : State) : Bool := s.head.firstWire < s.head.wire

/-- The unit in progress stops being in progress without becoming DONE (R3, R77). -/
def State.clearUnit (s : State) : State :=
  { s with head.unit := none, head.wire := 0, head.firstWire := 0, energy.working := none }

/-- PASS STRIP's change of the unit in progress (R5), which then is no longer in progress. -/
def State.interrupt (s : State) : State :=
  match s.head.unit, s.window.record with
  | some u, some r =>
    ((s.onRecord (fun r => r.interruptUnit u s.stn s.wiresHere s.head.wire)).countIf
      (r.interruptRejects u s.wiresHere) .unitsRejected).clearUnit
  | _, _ => s.clearUnit

/-- The unit in progress becomes REJECT (R6). -/
def State.rejectUnit (s : State) : State :=
  match s.head.unit with
  | some u => ((s.onRecord (fun r => r.finishUnit u s.stn .reject)).count .unitsRejected).clearUnit
  | none => s

/-- The unit in progress becomes DONE (R4): done_here rises, the tally counts it, the working row becomes the
per-strip energy table (R77) and the unit is no longer in progress. -/
def State.completeUnit (s : State) : State :=
  match s.head.unit with
  | some u =>
    ({ ((s.onRecord (fun r => r.finishUnit u s.stn .done)).count .unitsDone) with
      window.doneHere := s.window.doneHere + 1
      energy.table := s.energy.working
      head.doneUnit := some u } : State).clearUnit
  | none => s

/-- The head selects the lowest OPEN or PARTIAL unit (R10); the working row is set to it (R76). -/
def State.selectUnit (s : State) : State :=
  match s.window.record, s.stripSet with
  | some r, some rec =>
    match lowestOpen 1 r.units with
    | some u =>
      { s with
        head.unit := some u
        head.wire := r.startWire u
        head.firstWire := r.startWire u
        energy.working := some ⟨u, List.replicate rec.wires (none, none)⟩ }
    | none => s
  | _, _ => s

end Sys2Proof.Machine
end

