-- ==== Sys2Proof/Machine/RecipeOps.lean ====
section
/-! DEFINITION. Loading and activating a recipe (R20 to R28). -/

namespace Sys2Proof.Machine

/-- A segment stored at its index, indices ascending; a held one is replaced (R21). -/
def putSegment (i : Nat) (d : List Byte) : List (Nat × List Byte) → List (Nat × List Byte)
  | [] => [(i, d)]
  | p :: ps => if i < p.1 then (i, d) :: p :: ps else if i = p.1 then (i, d) :: ps else p :: putSegment i d ps

/-- The set holds segment 0 and every index below its count (R21). -/
def PendingSet.complete (q : PendingSet) : Bool :=
  match q.count with
  | some n => q.segments.any (fun p => p.1 == 0)
      && (List.range n).all (fun i => q.segments.any (fun p => p.1 == i))
  | none => false

/-- The recipe image: the data of segments 0 to count − 1 in order (R23). -/
def PendingSet.image (q : PendingSet) : List Byte :=
  (q.segments.filter (fun p => p.1 < q.count.getD 0)).flatMap (·.2)

/-- A complete set is checked; one that is not is LOADING (R21, R23). -/
def PendingSet.judged (q : PendingSet) : PendingSet :=
  { q with status := if q.complete then checkImage q.generation q.image else .loading }

/-- The count a segment brings, for segment 0 (R20). -/
def segmentCount (index : Nat) (payload : List Byte) : Option Nat :=
  if index = 0 then some (field payload 2 1) else none

/-- The data of a segment: behind the count in segment 0, behind the index elsewhere (R20). -/
def segmentData (index : Nat) (payload : List Byte) : List Byte := payload.drop (if index = 0 then 3 else 2)

/-- The segments a count leaves: a count lower than the one held before drops the indices at or above it (R21). -/
def PendingSet.keptBelow (q : PendingSet) (n : Nat) (segs : List (Nat × List Byte)) : List (Nat × List Byte) :=
  if q.count.any (fun m => n < m) then segs.filter (fun p => p.1 < n) else segs

/-- A segment joins a set, which is then judged; segment 0 brings the count (R21). -/
def PendingSet.accept (q : PendingSet) (index : Nat) (payload : List Byte) : PendingSet :=
  let segs := putSegment index (segmentData index payload) q.segments
  match segmentCount index payload with
  | some n => PendingSet.judged { q with count := some n, segments := q.keptBelow n segs }
  | none => PendingSet.judged { q with segments := segs }

/-- The first test of R20 that a segment fails: the refusal's code and detail value. -/
def State.segmentRefusal (s : State) (payload : List Byte) : Option (Nat × Nat) :=
  let gen := field payload 0 1
  let index := field payload 1 1
  let q := s.recipes.pending
  if payload.length < 3 ∨ (index = 0 ∧ payload.length < 4) then some (3, if payload.length < 2 then 0 else index)
  else if gen = 0 ∨ gen = s.activeGen then some (3, gen)
  else if 31 < index then some (3, index)
  else if index = 0 ∧ (field payload 2 1 = 0 ∨ 32 < field payload 2 1) then some (3, field payload 2 1)
  else if gen = q.generation ∧ q.segments.any (fun p => p.1 == 0) = true ∧ q.count.getD 0 ≤ index then some (3, index)
  else if gen = q.generation ∧ q.due.isSome then some (6, gen)
  else none

/-- An accepted segment: stored in the pending set of its generation (R21), or the first of a new one (R22). -/
def State.acceptSegment (s : State) (payload : List Byte) : State :=
  let gen := field payload 0 1
  let index := field payload 1 1
  if s.recipes.pending.generation = gen then
    { s with recipes.pending := s.recipes.pending.accept index payload }
  else { s with recipes.pending := PendingSet.accept ⟨gen, none, [], .loading, none⟩ index payload }

/-- The drift rings emptied with tag 0 (R74). -/
def emptyRings : List Ring := List.replicate 8 ⟨0, []⟩

/-- Applying a due activation (R28); an activation applied is an event of R38, of the feed conditions (R119) and of the
standby test (R183), and a change of the prior set may end a deferral (R26). -/
def State.applyActivation (s : State) : State :=
  match s.recipes.pending.due, s.recipes.pending.status with
  | some run, .ready r =>
    ({ s with
      recipes.prior := s.recipes.active
      recipes.active := some ⟨r, run⟩
      recipes.pending := ⟨0, none, [], .loading, none⟩
      energy.rings := emptyRings } : State).standbyTest.queueBeacon.askHead.askFeed
  | _, _ => s

/-- The application point (R26, R27): the head PARKED, or HELD with no unit in progress. -/
def State.atPoint (s : State) : Bool :=
  s.head.state == .parked || (s.head.state == .held && s.head.unit.isNone)

/-- A due activation is applied unless it is deferred (R27). -/
def State.applyDue (s : State) : State := if s.deferred then s else s.applyActivation

end Sys2Proof.Machine
end

