-- ==== Sys2Proof/Machine/LogOps.lean ====
section
/-! DEFINITION. The pending-grade list, the write queue, the record port's arbiter, FULL and the read in service
(R145 to R147, R153 to R160). -/

namespace Sys2Proof.Machine

/-! ### From the pending-grade list to the write queue (R147) -/

/-- The oldest CLOSED entry and the list without it. -/
def takeClosed : List PendingEntry → Option (PullRecord × List PendingEntry)
  | [] => none
  | e :: es => if e.closed then some (e.record, es) else (takeClosed es).map (fun r => (r.1, e :: r.2))

/-- Places the write queue has are offered to the oldest CLOSED entries, at most `fuel` of them (R147, R154). -/
def State.offerPlacesFuel : Nat → State → State
  | 0, s => s
  | fuel + 1, s =>
    if s.log.hasRoom then
      match takeClosed s.pull.list with
      | some (r, rest) =>
        State.offerPlacesFuel fuel (({ s with
          pull.list := rest
          log.queue := s.log.queue ++ [.record r] } : State).askPlace.askPort)
      | none => s
    else s

/-- The write queue has four places, so four offers use all of them. Under the duplicate-station fault the pull controller
acts on no place (R149). -/
def State.offerPlaces (s : State) : State := if s.operating then State.offerPlacesFuel Config.writePlaces s else s

/-- The OPEN entry of this reference is closed with a break mode (R147); should the counter have come round to the
reference of an entry still OPEN, both are closed (R141 against R145; DESIGN CHOICE, log entry 53). -/
def closeRef (ref : Nat) (m : BreakMode) (es : List PendingEntry) : List PendingEntry :=
  es.map (fun e => if !e.closed && e.record.ref == ref then ⟨{ e.record with mode := m }, true⟩ else e)

/-- Closing a record fixes its break mode and hands it toward the log (R147). -/
def State.closeEntry (s : State) (ref : Nat) (m : BreakMode) : State :=
  ({ s with pull.list := closeRef ref m s.pull.list } : State).offerPlaces

/-- A GRADE for this station (R146). -/
def State.gradeEntry (s : State) (ref mode : Nat) : State :=
  if s.pull.capable && within mode 1 6 && s.pull.list.any (fun e => !e.closed && e.record.ref == ref) then
    s.closeEntry ref (.graded mode)
  else s

/-- Every OPEN entry is closed UNGRADED (R148). -/
def State.closeAll (s : State) : State :=
  ({ s with pull.list := s.pull.list.map (fun e =>
      if e.closed then e else ⟨{ e.record with mode := .ungraded }, true⟩) } : State).offerPlaces

/-! ### FULL (R156) -/

/-- FULL is set and LOG FULL raised (R153, R156). -/
def State.setFull (s : State) : State := (({ s with log.full := true } : State).raise .logFull).askFull

/-- The write position needs a block next (R156): it enters an erased-ahead block, waits for an erasable one's erase,
or FULL is set. -/
def State.needBlock (s : State) (b : Nat) : State :=
  if s.log.ahead.contains b then ({ s with log.pos := .entering b } : State).askPort
  else if s.log.erasable b then ({ s with log.pos := .need b } : State).askPort
  else ({ s with log.pos := .need b } : State).setFull

/-- The last record number of all has been given (R153). -/
def Log.exhausted (l : Log) : Bool := l.newest == Config.max32

/-! ### Answering a read (R159, R160) -/

/-- A returned number's 30 bytes: its entry's, or zeros behind the number for DAMAGED (R187). -/
def readEntryBytes (g : Nat × Option (List Byte)) : List Byte :=
  match g.2 with
  | some bs => bs
  | none => 0 :: beBytes 4 g.1 ++ List.replicate 25 0

/-- Two returned numbers a frame, places from `place` on (R159). -/
def pullDataFrames (place : Nat) : List (Nat × Option (List Byte)) → List Frame
  | [] => []
  | [a] => [⟨7, .pullData, [byteOf place, 1] ++ readEntryBytes a⟩]
  | a :: b :: rest =>
    ⟨7, .pullData, [byteOf place, 2] ++ readEntryBytes a ++ readEntryBytes b⟩ :: pullDataFrames (place + 1) rest

/-- The log summary (R159, R187). -/
def State.pullSummary (s : State) (r : ReadSpan) : Frame :=
  ⟨7, .pullData, [0] ++ beBytes 4 s.log.oldestRecord ++ beBytes 4 s.log.newest ++ beBytes 4 s.log.spanEnd
    ++ beBytes 2 s.log.damaged ++ [if s.log.full then 1 else 0, byteOf r.below, byteOf r.above,
      byteOf ((r.got.length + 1) / 2)]⟩

/-- The answer of a read: its frames are built together; the read in service ends when the last is placed (R159). -/
def State.answerRead (s : State) (r : ReadSpan) : State :=
  match s.log.service with
  | some v =>
    ({ s with log.service := some { v with phase := .answering } } : State).reply .pullRead
      (s.pullSummary r :: pullDataFrames 1 r.got)
  | none => s

/-- The span of a request judged now (R159): how many numbers lie below and above, and which are read. -/
def Log.judgeSpan (l : Log) (first count : Nat) : ReadSpan :=
  let lo := max first l.oldestRecord
  let hi := min (first + count - 1) l.newest
  { oldest := l.oldestRecord
    newest := l.newest
    below := min count (l.oldestRecord - first)
    above := min count ((first + count - 1) - max l.newest (first - 1))
    next := lo
    last := hi
    block := 0
    slot := 0
    got := [] }

/-- The read moves to the block of its next number, at slot 1; numbers whose block is not written are DAMAGED (R160).
At most 8 numbers are asked for (R159), so `fuel` 9 sees the end. -/
def ReadSpan.seek (l : Log) : Nat → ReadSpan → ReadSpan
  | 0, r => r
  | fuel + 1, r =>
    if r.last < r.next then r
    else match l.blockOf r.next with
      | some b => if r.block = b.1 ∧ r.slot ≠ 0 then r else { r with block := b.1, slot := 1 }
      | none => ReadSpan.seek l fuel { r with got := r.got ++ [(r.next, none)], next := r.next + 1, slot := 0 }

/-- Numbers from the next one up to `n`, `n` not counted, were passed over and are DAMAGED (R160). -/
def ReadSpan.skipTo (n : Nat) : Nat → ReadSpan → ReadSpan
  | 0, r => r
  | fuel + 1, r =>
    if r.next < n ∧ r.next ≤ r.last then
      ReadSpan.skipTo n fuel { r with got := r.got ++ [(r.next, none)], next := r.next + 1 }
    else r

/-- A number met in the block: as a record, or DAMAGED (R160). -/
def ReadSpan.meet (r : ReadSpan) (n : Nat) (bytes : Option (List Byte)) : ReadSpan :=
  let r1 := r.skipTo n 9
  if r1.next = n ∧ n ≤ r1.last then { r1 with got := r1.got ++ [(n, bytes)], next := n + 1 } else r1

/-- The block has no further entry: the numbers of it not met are DAMAGED, and the read goes on (R160). -/
def ReadSpan.endBlock (r : ReadSpan) (lastInBlock : Nat) : ReadSpan :=
  { r.skipTo (lastInBlock + 1) 9 with slot := 0 }

/-- A slot read of the read in service (R160): the entry met, then the next slot or block. -/
def ReadSpan.take (l : Log) (r : ReadSpan) (bytes : List Byte) : ReadSpan :=
  let lastInBlock := match l.blockOf r.next with | some b => b.2 | none => r.next - 1
  let r1 := match judgeSlot bytes with
    | .good 1 n => { r.meet n (some (bytes.take 30)) with slot := r.slot + 1 }
    | .readable 1 n => { r.meet n none with slot := r.slot + 1 }
    | .erased => r.endBlock lastInBlock
    | _ => { r with slot := r.slot + 1 }
  ReadSpan.seek l 9 (if Config.blockSlots ≤ r1.slot then r1.endBlock lastInBlock else r1)

/-! ### The arbiter (R153) -/

/-- An erase starts. -/
def State.startErase (s : State) (b : Nat) : State :=
  ({ s with log.op := .erase b } : State).issue (.blockErase b)

/-- A slot read of the read in service starts. -/
def State.startRead (s : State) (r : ReadSpan) (v : ReadService) : State :=
  ({ s with log.op := .read r.block r.slot, log.service := some { v with phase := .reading r } } : State).issue
    (.slotRead r.block r.slot)

/-- The bytes an entry is written with; a PULL entry takes the number after the newest at its write's start (R153). -/
def Log.entryBytes (l : Log) (e : LogEntry) : List Byte :=
  match e with
  | .record r => withCrc (pullEntryBytes (l.newest + 1) r)
  | .mark n => withCrc (spanMarkBytes n)

/-- Operations 3 to 5 of the arbiter's order (R153): a header write, an entry write, an erase-ahead. -/
def State.arbitrateWrites (s : State) : State :=
  match s.log.pos, s.log.queue with
  | .entering b, _ =>
    ({ s with log.op := .headerWrite b } : State).issue
      (.slotWrite b 0 (withCrc (headerBytes (s.log.writeSeq + 1) (s.log.newest + 1))))
  | .slot b n, e :: _ =>
    if s.log.full then (match s.log.aheadDue with | some a => s.startErase a | none => s)
    else ({ s with log.op := .entryWrite e } : State).issue (.slotWrite b n (s.log.entryBytes e))
  | _, _ => match s.log.aheadDue with | some a => s.startErase a | none => s

/-- The read in service takes its turn (R160): the next slot of the block that holds its next number now, for an erase
may have taken the block it stood in, whose numbers are then DAMAGED like those of a block not written (DEDUCED, log
entry 27); a read that needs no further slot is answered (R159). -/
def State.serveRead (s : State) (r : ReadSpan) (v : ReadService) : State :=
  let r1 := ReadSpan.seek s.log 9 r
  if r1.last < r1.next then (s.answerRead r1).arbitrateWrites else s.startRead r1 v

/-- The turn of the read in service, its span judged at the first (R159), then the rest of the order (R153). -/
def State.arbitrateRead (s : State) : State :=
  match s.log.service with
  | some v =>
    match v.phase with
    | .waiting => s.serveRead (s.log.judgeSpan v.first v.count) v
    | .reading r => s.serveRead r v
    | .answering => s.arbitrateWrites
  | none => s.arbitrateWrites

/-- The arbiter starts the first ready operation of R153's order when the port is free. -/
def State.arbitrate (s : State) : State :=
  if s.operating && s.running && s.log.present && s.log.op == .none then
    match s.log.pos with
    | .need b => if s.log.erasable b then s.startErase b else s.arbitrateRead
    | _ => s.arbitrateRead
  else s

end Sys2Proof.Machine
end

