-- ==== Sys2Proof/Machine/EnergyOps.lean ====
section
/-! DEFINITION. The energy monitor's open bond, its samples, its end and the drift rings (R63 to R78). -/

namespace Sys2Proof.Machine

/-! ### The open bond -/

/-- The accumulator, count, sums and tail store at their reset values (R62, R63, R68). -/
def Energy.cleared (e : Energy) : Energy := { e with sum := 0, count := 0, refSum := 0, tail := [], tailSum := 0 }

/-- A change of the current wire's entry of the working row (R63, R76). -/
def Energy.onWire (e : Energy) (wire : Nat) (f : Option Nat × Option Nat → Option Nat × Option Nat) : Energy :=
  { e with working := e.working.map (fun w => if wire = 0 then w else { w with wires := w.wires.modify (wire - 1) f }) }

/-- Opening a bond (R63): a first bond makes both energies of the wire absent, a second bond the second one. -/
def Energy.openBond (e : Energy) (first : Bool) (wire : Nat) (p : OpenParams) : Energy :=
  { (e.cleared.onWire wire (fun w => if first then (none, none) else (w.1, none))) with
    status := if first then .openFirst else .openSecond
    params := some p }

/-- An aborted bond (R68): CLOSED, no result. -/
def Energy.aborted (e : Energy) : Energy := { e.cleared with status := .closed, params := none }

/-- The tail store and its sum after a sample, `n` samples counted (R65). -/
def tailAfter (tail : List Nat) (tailSum i n : Nat) : List Nat × Nat :=
  if n / 4 < tail.length + 1 then
    match tail ++ [i] with
    | o :: rest => (rest, tailSum + i - o)
    | [] => ([], 0)
  else (tail ++ [i], tailSum + i)

/-- A sample joins the open bond's sums (R64 steps 1 to 4). -/
def Energy.addSample (e : Energy) (v i : Nat) : Energy :=
  let n := e.count + 1
  let t := tailAfter e.tail e.tailSum (clampSample i) n
  { e with
    count := n
    sum := e.sum + clampSample v * clampSample i
    refSum := if n ≤ 200 then e.refSum + clampSample i else e.refSum
    tail := t.1
    tailSum := t.2 }

/-! ### The end of a bond -/

/-- What the energy monitor reports at a bond's end (R70). -/
structure BondReport where
  first : Bool
  energy : Nat
  flagged : Bool
  pad : PadVerdict
  params : OpenParams
  deriving DecidableEq, Repr

/-- The report of a bond that ends now, SHORT or not (R69 to R71). -/
def Energy.report (e : Energy) (p : OpenParams) (short : Bool) : BondReport where
  first := e.status == .openFirst
  energy := (bondEnergy e.sum).1
  flagged := Machine.flagged (energyVerdict (bondEnergy e.sum).1 p.params.eLo p.params.eHi) short (bondEnergy e.sum).2
  pad := padCheck p.params.dMin p.params.iFloor e.refSum e.tailSum e.count
  params := p

/-- The bond is closed and its energy written into the working row (R70). S, n, the sums and the tail store keep their
last values until the next ENABLE or abort (R63, R68 say no more; DESIGN CHOICE, log entry 56). -/
def Energy.ended (e : Energy) (wire : Nat) (r : BondReport) : Energy :=
  { (e.onWire wire (fun w => if r.first then (some r.energy, w.2) else (w.1, some r.energy))) with
    status := .closed
    params := none }

/-! ### Drift (R74, R75) -/

/-- A stuck bond's energy joins a ring (R74 steps 1 to 3). -/
def Ring.add (r : Ring) (gen energy : Nat) : Ring :=
  let old := if r.tag = gen then r.energies else []
  ⟨gen, (old ++ [energy]).drop (old.length + 1 - 8)⟩

/-- A stuck bond is added to its set's ring; a full ring is tested, and drift empties it, keeping its tag, and raises
ENERGY DRIFT (R75 and example 4.12; R74's list says tag 0 there: DESIGN CHOICE, log entry 47). -/
def State.addDrift (s : State) (p : OpenParams) (energy : Nat) : State :=
  let r := (s.energy.rings.getD p.set ⟨0, []⟩).add p.generation energy
  if r.energies.length = 8 ∧ driftExists r.energies p.params = true then
    ({ s with energy.rings := s.energy.rings.set p.set ⟨r.tag, []⟩ } : State).raise .energyDrift
  else { s with energy.rings := s.energy.rings.set p.set r }

/-! ### Aborts and the untracked run at the head (R42, R44, R48, R68) -/

/-- DISABLE if the transducer is enabled. -/
def State.disableReq (s : State) : State :=
  if s.head.enabled then ({ s with head.enabled := false } : State).issue .disable else s

/-- A bond in progress is aborted and tallied: a first bond as attempted and aborted, a second as attempted
(R42, R44, R68). -/
def State.abortBond (s : State) : State :=
  match s.energy.status with
  | .closed => s
  | .openFirst => (({ s with energy := s.energy.aborted } : State).count .firstAttempted).count .firstAborted
  | .openSecond => ({ s with energy := s.energy.aborted } : State).count .secondAttempted

/-- The end of an untracked bond (R48): tallied, and the run rises to at most 16, raising GENERATOR UNLOCK from 15. -/
def State.untrackedEnd (s : State) : State :=
  if s.head.untrackedBond then
    let s1 := ({ s with
      head.untrackedBond := false
      head.untrackedRun := min 16 (s.head.untrackedRun + 1) } : State).count .untrackedBonds
    if s.head.untrackedRun = 15 then s1.raise .generatorUnlock else s1
  else s

/-- ENABLE for a bond of the current wire (R42, R44, R63, R80); an open bond is aborted first. The bond is untracked
if the lock indication is UNLOCK now (R48). -/
def State.enableBond (s : State) (first : Bool) : State :=
  match s.stripSet, s.wireEntry with
  | some rec, some w =>
    let set := if first then w.firstSet else w.secondSet
    let b := rec.sets.getD set ⟨0, 0, false, 0, 0, 0, 0, 0, 0, 0⟩
    let s1 := s.abortBond
    ({ s1 with
      energy := s1.energy.openBond first s1.head.wire ⟨set, rec.generation, b⟩
      head.enabled := true
      head.untrackedBond := !s1.head.locked } : State).issue (.enable b.power)
  | _, _ => s

end Sys2Proof.Machine
end

