-- ==== Sys2Proof/Machine/MagOps.lean ====
section
/-! DEFINITION. The magazine controllers: feeding, jams, skip ranges, the output scan and unloading (chapter 7). -/

namespace Sys2Proof.Machine

/-! ### The input magazine -/

/-- A slot's state is set, slots numbered from 1. -/
def InMag.setSlot (m : InMag) (n : Nat) (x : InSlot) : InMag := { m with slots := m.slots.set (slotIndex n) x }

/-- A slot's state. -/
def InMag.slot (m : InMag) (n : Nat) : InSlot := m.slots.getD (slotIndex n) .unknown

/-- A change of the input magazine controller. -/
def State.onInMag (s : State) (f : InMag → InMag) : State := { s with inMag := f s.inMag }

/-- MOVE(E, level of slot n) (R116). -/
def State.elevatorTo (s : State) (n : Nat) (u : Use) : State := s.request (.elevatorSlot n) (.axis .e) u

/-- MOVE(P, 0) (R116). -/
def State.retract (s : State) : State := s.move .p 0 .retract

/-- INPUT EMPTY is raised, unless CONTINUE closed it and no insertion has come since (R124). -/
def State.inputEmpty (s : State) : State := if s.inMag.emptyAnswered then s else s.raise .inputEmpty

/-- The search goes on at the lowest candidate from slot `n` on; without one the feed state returns to IDLE and INPUT
EMPTY is raised (R119). -/
def State.searchFrom (s : State) (n : Nat) : State :=
  match feedCandidate n (s.inMag.slots.drop (slotIndex n)) with
  | some c => ({ s with inMag.feed := .searching, inMag.feedSlot := some c } : State).elevatorTo c .feedSearch
  | none => ({ s with inMag.feed := .idle, inMag.feedSlot := none } : State).inputEmpty

/-- The test of the feed conditions (R119, R124). -/
def State.testFeed (s : State) : State :=
  if s.feedAllowed then (if s.pins.magPresent then s.searchFrom 1 else s.inputEmpty) else s

/-- A push begins; the window is INBOUND for the feed (R112, R120). -/
def State.startPush (s : State) : State :=
  ({ (s.request .pusherPush (.axis .p) .push) with
    inMag.feed := .pushing
    inMag.feedTimer := some Config.feedMs
    window.state := .inbound
    window.inbound := none
    window.inboundSerial := none
    window.arrivalTimer := none } : State).queueBeacon

/-- FEED JAM (R121): JAMMED with the feed slot kept, the pusher retracted. -/
def State.jamFeed (s : State) : State :=
  (({ s with
    inMag.feed := .jammed
    inMag.feedTimer := none
    inMag.insertedSinceJam := false
    inMag.waiting := none
    inMag.retrying := false
    inMag.retractJam := false } : State).retract).raise .feedJam

/-- FEED JAM raised by a fault of the retract after an arrival (R120): no slot to settle. -/
def State.jamRetract (s : State) : State :=
  ({ s with
    inMag.feedSlot := none
    inMag.insertedSinceJam := false
    inMag.waiting := none
    inMag.retrying := false
    inMag.retractJam := true } : State).raise .feedJam

/-- The feed state returns to IDLE, an event of R119. -/
def State.feedIdle (s : State) : State :=
  ({ s with
    inMag.feed := .idle
    inMag.feedSlot := none
    inMag.feedTimer := none
    inMag.waiting := none
    inMag.retrying := false
    inMag.retractJam := false } : State).askFeed

/-- A feed given up: the window returns from INBOUND to EMPTY (R112, R123). -/
def State.giveUpFeed (s : State) : State :=
  if s.window.state = .inbound then s.feedIdle.emptyWindow else s.feedIdle

/-- The serial after this one (R120). -/
def nextSerial (n : Nat) : Nat := if Config.max32 ≤ n then 1 else n + 1

/-- The feed slot becomes FED and strips fed rises (R120). -/
def InMag.feedDone (m : InMag) : InMag :=
  { (match m.feedSlot with | some n => m.setSlot n .fed | none => m) with fed := m.fed + 1, feedTimer := none }

/-- After an arrival the feed is RETRACTING (R120, R122): MOVE(P, 0) is requested once the push has been answered; a
retract already answered, by DONE or by FAULT, leaves it IDLE (for the FAULT: DEDUCED, log entry 50). -/
def State.afterArrival (s : State) (retractMade : Bool) : State :=
  if retractMade then
    if s.awaiting .retract then { s with inMag.feed := .retracting, inMag.waiting := none, inMag.retrying := false }
    else s.feedIdle
  else if s.awaiting .push then { s with inMag.feed := .retracting }
  else ({ s with inMag.feed := .retracting } : State).retract

/-- A fed strip has arrived (R120): the record is created with the next serial, the slot is FED, the window clamps. -/
def State.feedArrival (s : State) (retractMade : Bool) : State :=
  let s1 := s.onInMag InMag.feedDone
  match s.recipes.active with
  | some h =>
    ((({ s1 with inMag.serialCounter := nextSerial s.inMag.serialCounter } : State).clampStrip
      (newRecord s.inMag.serialCounter h) false).afterArrival retractMade)
  | none => s1.clampUnknown.afterArrival retractMade

/-- A strip arriving late, with FEED JAM open or its choice still waiting (R122, R168): the waiting choice is not
carried out and FEED JAM settles as cleared. -/
def State.lateArrival (s : State) : State :=
  ((s.ignoreDue (fun d => d.use == .feedRetry)).feedArrival true).clearAlarm .feedJam

/-- RETRY on FEED JAM carried out (R123). -/
def State.feedRetry (s : State) : State :=
  if s.holding then { s with inMag.waiting := some .retry }
  else if s.pins.magPresent then
    match s.inMag.feedSlot with
    | some n => ({ s with inMag.waiting := none, inMag.retrying := true } : State).elevatorTo n .feedRetry
    | none => s.giveUpFeed
  else s.giveUpFeed

/-- CONTINUE on FEED JAM carried out (R123). -/
def State.feedContinue (s : State) : State :=
  match s.inMag.feedSlot with
  | some n =>
    if s.inMag.insertedSinceJam = false ∧ s.inMag.slot n = .loaded then
      (s.onInMag (fun m => m.setSlot n .empty)).giveUpFeed
    else s.giveUpFeed
  | none => s.giveUpFeed

/-- A FEED JAM choice whose retract has been answered (R123). -/
def State.carryFeedChoice (s : State) (c : Choice) : State :=
  if c = .retry then s.feedRetry else s.feedContinue

/-- A choice for FEED JAM (R120, R123): after a fault on the retract it is applied at once; else it waits for the
retract's answer. -/
def State.feedChoice (s : State) (c : Choice) : State :=
  if s.inMag.retractJam then
    if c = .retry then ({ s with inMag.retractJam := false } : State).retract else s.feedIdle
  else if s.awaiting .retract then { s with inMag.waiting := some c }
  else s.carryFeedChoice c

/-- The hold set has emptied: a RETRY that waited for it begins (R123). -/
def State.releaseFeed (s : State) : State :=
  if s.inMag.waiting = some .retry ∧ s.awaiting .retract = false then s.feedRetry else s

/-! ### Skip ranges (R126) -/

/-- Two ranges share a slot or adjoin (R126). -/
def touches (a b : Nat × Nat) : Bool := a.1 ≤ b.2 + 1 && b.1 ≤ a.2 + 1

/-- The new range absorbs every held range it touches, until none touches (R126). At most 4 are held. -/
def mergeRange : Nat → Nat × Nat → List (Nat × Nat) → (Nat × Nat) × List (Nat × Nat)
  | 0, r, held => (r, held)
  | fuel + 1, r, held =>
    match held.find? (touches r) with
    | some t => mergeRange fuel (min r.1 t.1, max r.2 t.2) (held.filter (fun x => !touches r x || x != t))
    | none => (r, held)

/-- A range at its place in ascending order (R126). -/
def insertRange (r : Nat × Nat) : List (Nat × Nat) → List (Nat × Nat)
  | [] => [r]
  | x :: xs => if r.1 < x.1 then r :: x :: xs else x :: insertRange r xs

/-- Every slot of a range that is not FED becomes SKIP (R126). -/
def skipSlotsOf (r : Nat × Nat) (slots : List InSlot) : List InSlot :=
  slots.mapIdx (fun i x => if r.1 ≤ i + 1 ∧ i + 1 ≤ r.2 ∧ x ≠ .fed then .skip else x)

/-- The payload of SKIP DATA and of the ranges in MAGAZINE DATA (R187). -/
def rangeBytes (rs : List (Nat × Nat)) : List Byte :=
  byteOf rs.length :: ((rs ++ List.replicate 4 (0, 0)).take 4).flatMap (fun (r : Nat × Nat) => [byteOf r.1, byteOf r.2])

/-- An accepted SKIP SLOTS (R126), its last already clamped; the refusal FULL where four other ranges are held. -/
def InMag.skip (m : InMag) (r : Nat × Nat) : Option InMag :=
  let merged := mergeRange Config.rangePlaces r m.ranges
  if Config.rangePlaces ≤ merged.2.length then none
  else some { m with ranges := insertRange merged.1 merged.2, slots := skipSlotsOf merged.1 m.slots }

/-! ### The output magazine -/

/-- An output slot is set. -/
def OutMag.setSlot (m : OutMag) (n : Nat) (x : OutSlot) : OutMag := { m with slots := m.slots.set (slotIndex n) x }

/-- The unloader is READY; once it can accept, OUTPUT FULL may be raised anew (R129). -/
def OutMag.becomeReady (m : OutMag) : OutMag :=
  { m with
    unloader := .ready
    target := none
    leftWindow := false
    unloadTimer := none
    fullAnswered := m.fullAnswered && !m.slots.contains .empty }

/-- The unloader is ABSENT. -/
def OutMag.becomeAbsent (m : OutMag) : OutMag :=
  { m with unloader := .absent, target := none, leftWindow := false, unloadTimer := none }

/-- The end of a scan (R128): READY, OUTPUT FULL cleared if a slot is EMPTY, the waiting strip evaluated. -/
def State.endScan (s : State) : State :=
  let s1 := { s with outMag := s.outMag.becomeReady }
  (if s1.outMag.slots.contains .empty then s1.clearAlarm .outputFull else s1).askStrip

/-- The scan goes to slot `n`, or ends after slot 20 (R128). -/
def State.scanSlot (s : State) (n : Nat) : State :=
  if Config.slots < n then s.endScan
  else ({ s with outMag.unloader := .scanning, outMag.target := some n } : State).elevatorTo n .outScan

/-- Magazines inserted rises by one, at the rise of MAG PRESENT (R128). -/
def State.countOutput (s : State) : State := { s with outMag.inserted := wrap16 s.outMag.inserted }

/-- The map of an output magazine starts afresh and is scanned (R128, R131). -/
def State.scanOutput (s : State) : State :=
  ({ s.ignoreDue (fun d => d.use == .outScan) with
    outMag.slots := List.replicate Config.slots .unknown
    outMag.current := true
    outMag.filled := 0
    outMag.lateInsertion := false } : State).scanSlot 1

/-- An output magazine has been inserted (R128). -/
def State.insertOutput (s : State) : State := s.countOutput.scanOutput

/-- An input magazine has been inserted (R118). -/
def State.insertInput (s : State) : State :=
  ((({ s with
    inMag.slots := List.replicate Config.slots .unknown
    inMag.current := true
    inMag.ranges := []
    inMag.fed := 0
    inMag.inserted := wrap16 s.inMag.inserted
    inMag.insertedSinceJam := s.inMag.insertedSinceJam || s.alarmOpen .feedJam
    inMag.emptyAnswered := false } : State).clearAlarm .inputEmpty).askFeed)

/-- Unloading begins (R113, R130). -/
def State.startUnload (s : State) : State :=
  match emptySlot 1 s.outMag.slots with
  | some n =>
    (({ s with
      window.state := .outbound
      outMag.unloader := .unloading
      outMag.target := some n
      outMag.leftWindow := false } : State).elevatorTo n .unloadMove).queueBeacon
  | none => s

/-- OUTPUT FULL is raised, unless CONTINUE closed it and the magazine has not been able to accept since (R129). -/
def State.outputFull (s : State) : State := if s.outMag.fullAnswered then s else s.raise .outputFull

/-- The answer of the output magazine to a pass evaluation that found the strip pass-ready (R113, R129). -/
def State.outputAnswer (s : State) : State :=
  if s.window.state = .clamped ∧ s.holding = false ∧ s.windowAlarm = false then
    if s.outputAccepts then s.startUnload
    else if s.outMag.unloader = .scanning ∨ s.outMag.unloader = .unloading then s
    else s.outputFull
  else s

/-- The target slot is filled (R130): the summary is filed, the record given up and the strip counted as passed. -/
def State.fillSlot (s : State) : State :=
  match s.outMag.target, s.window.record with
  | some n, some r =>
    (({ s with outMag := ({ s.outMag.setSlot n (.filled r.serial r.summary) with
      filled := s.outMag.filled + 1 } : OutMag).becomeReady } : State).count .stripsPassed).giveUpRecord
  | _, _ => s

/-- The unload is settled by its sensors (R131): at RESUME and at a warm restart. A magazine inserted meanwhile is
scanned then; it was counted when it came. -/
def State.settleUnload (s : State) : State :=
  let s1 : State := { s with outMag.unloadTimer := none }
  let s2 : State :=
    if s.pins.stripOut then
      ({ s1 with outMag := if s.pins.magPresent then s1.outMag.becomeReady else s1.outMag.becomeAbsent } : State).reclamp
    else if s.pins.magPresent then
      if s.pins.slotSense then s1.fillSlot
      else (({ s1 with outMag := s1.outMag.becomeReady } : State).count .stripsPassed).giveUpRecord
    else (({ s1 with outMag := s1.outMag.becomeAbsent } : State).count .stripsPassed).giveUpRecord
  if s.outMag.lateInsertion && s.pins.magPresent then s2.scanOutput else s2

end Sys2Proof.Machine
end

