-- ==== Sys2Proof/Machine/WindowOps.lean ====
section
/-! DEFINITION. The pass evaluation and the frames of a handoff (chapter 6). -/

namespace Sys2Proof.Machine

/-- The strip is offered (R98): OFFERED, the offer timer started, OFFER placed or waiting. -/
def State.makeOffer (s : State) : State :=
  (({ s with window.state := .offered, window.offerTimer := some Config.offerMs } : State).queueBeacon).submit .offer
    ⟨s.stn + 1, .offer, beBytes 4 s.windowSerial⟩

/-- A pass-ready strip goes, if it can: offered, or at END unloaded (R95, R96, R113). -/
def State.evaluateStrip (s : State) : State :=
  if s.passReady then
    (if s.isEnd then s.outputAnswer else if s.offerable then s.makeOffer else s)
  else s

/-- An offer has ended without a TAKE (R101): CLAMPED, the fresh-beacon wait set, R38 tested. -/
def State.endOffer (s : State) : State :=
  (({ s with
    window.state := .clamped
    window.freshWait := true
    window.offerTimer := none } : State).withdraw (fun o => o == .offer)).askHead.queueBeacon

/-- A DECLINE reason's code (R186): 1 NOT EMPTY, 2 HOLD, 3 NO RECIPE, 4 FAULT. -/
def declineFrame (s : State) (serial reason : Nat) : Frame := ⟨s.stn - 1, .decline, beBytes 4 serial ++ [byteOf reason]⟩

/-- A DECLINE to the upstream station (R99). -/
def State.decline (s : State) (serial reason : Nat) : State := s.submit .decline (declineFrame s serial reason)

/-- A TAKE to the upstream station (R99). -/
def State.takeStrip (s : State) (serial : Nat) (fromEmpty : Bool) : State :=
  s.submit (.take fromEmpty) ⟨s.stn - 1, .take, beBytes 4 serial⟩

/-- The answer to an OFFER of the upstream station, by the first line of R99 that applies. -/
def State.answerOffer (s : State) (serial : Nat) : State :=
  if !s.running || s.alarmOpen .transferJam then s.decline serial 4
  else if s.recipes.active.isNone then s.decline serial 3
  else if s.holding then s.decline serial 2
  else if s.window.state = .empty then
    (({ s with
      window.state := .inbound
      window.inbound := none
      window.inboundSerial := some serial
      window.arrivalTimer := some Config.arrivalMs } : State).queueBeacon).takeStrip serial true
  else if s.window.state = .inbound ∧ s.window.inboundSerial = some serial then
    ({ s with window.arrivalTimer := some Config.arrivalMs } : State).takeStrip serial false
  else s.decline serial 1

/-- A TAKE waiting for room becomes DECLINE(serial, HOLD) in its place (R99). -/
def takeToDecline (w : Waiting) : Waiting :=
  match w with
  | .frame (.take _) f => .frame .decline { f with kind := .decline, payload := f.payload ++ [byteOf 2] }
  | w => w

/-- A TAKE waits whose window entered INBOUND for it; one is enough, whatever TAKE for a repeated OFFER waits behind it
(R99; DEDUCED, log entry 39). -/
def takeFromEmptyWaits (ws : List Waiting) : Bool :=
  ws.any (fun w => match w with | .frame (.take true) _ => true | _ => false)

/-- The hold set has become non-empty (R98, R99, R172): an OFFER or TAKE that has not reached the queue is withheld. With
two TAKEs waiting, the first from EMPTY, the window returns to EMPTY, and so it does where TRANSFER JAM holds the window
meanwhile (R99 against R107; DEDUCED, log entry 39). -/
def State.holdBegins (s : State) : State :=
  let s1 := if s.window.state = .offered ∧ s.waitingOf (fun o => o == .offer) ≠ 0 then s.endOffer else s
  let s2 : State := { s1 with line.waiting := s1.line.waiting.map takeToDecline }
  if takeFromEmptyWaits s1.line.waiting && s2.window.state == .inbound then s2.emptyWindow else s2

/-- A matching TAKE (R100): OUTBOUND, the exit timer started, STRIP RECORD placed or waiting; its placing starts the
belt. An OFFER that still waits, which it may only while the window is OFFERED (R98), is withdrawn. -/
def State.acceptTake (s : State) (r : StripRecord) : State :=
  ((({ s with
    window.state := .outbound
    window.offerTimer := none
    window.exitTimer := some Config.exitMs
    window.recordQueued := false } : State).withdraw (fun o => o == .offer)).queueBeacon).submit .stripRecord
      ⟨s.stn + 1, .stripRecord, encodeRecord r⟩

/-- The window is jammed (R105 to R107, R131): TRANSFER JAM, the window's timers stopped. -/
def State.jamWindow (s : State) : State :=
  ({ s with
    window.offerTimer := none
    window.arrivalTimer := none
    window.exitTimer := none
    outMag.unloadTimer := none } : State).raise .transferJam

/-- The window as its sensors show it (R108 and, at END, R131): RESUME on TRANSFER JAM. A record kept through the re-read
is tested for STALE GENERATION as one that arrives is (R31). A belt answer still due stays due (DESIGN CHOICE, log entry
68). -/
def State.settleJam (s : State) : State :=
  match s.window.state with
  | .inbound => if s.pins.stripIn then s.clampInbound else s.emptyWindow
  | .outbound =>
    if s.isEnd then s.settleUnload.testStale
    else if s.pins.stripOut then ({ s with window.freshWait := true } : State).reclamp.testStale
    else (s.count .stripsPassed).giveUpRecord
  | _ => s

/-- The window's part of a warm restart (R114), its timers stopped, its marks and waiting frames already cleared. -/
def State.restartWindow (s : State) : State :=
  match s.window.state with
  | .empty => if s.pins.stripIn then s.clampUnknown else s
  | .inbound => if s.pins.stripIn then s.clampInbound else s.emptyWindow
  | .outbound =>
    if s.isEnd then s.settleUnload.testStale
    else if s.pins.stripOut then
      if s.window.recordQueued && s.awaiting .belt then
        ({ s with window.exitTimer := some Config.exitMs } : State).testStale
      else s.reclamp.testStale
    else (s.count .stripsPassed).giveUpRecord
  | _ =>
    if s.pins.stripOut then ({ s with window.state := .clamped } : State).queueBeacon.testStale
    else s.giveUpRecord

end Sys2Proof.Machine
end

