-- ==== Sys2Proof/Machine/HeadOps.lean ====
section
/-! DEFINITION. The head controller's work: homing, the steps of a wire, conditioning cycles, pull samples and the
unit boundary (R34 to R60, R81 to R88, R135 to R144). -/

namespace Sys2Proof.Machine

/-! ### Requests of single steps -/

/-- The strip's set, the current wire's entry and the unit in progress. -/
def State.withWire (s : State) (f : Recipe → WireEntry → Nat → State) : State :=
  match s.stripSet, s.wireEntry, s.head.unit with
  | some r, some w, some u => f r w u
  | _, _, _ => s

/-- The surface height, which a wire holds once positioning and touch learn are over (R41). -/
def State.surfaceHeight (s : State) : Nat := s.head.surface.getD 0

/-- The bond parameter set of this number, in a recipe. -/
def Recipe.setAt (r : Recipe) (i : Nat) : BondSet := r.sets.getD i ⟨0, 0, false, 0, 0, 0, 0, 0, 0, 0⟩

/-- The head enters a state at a stage. -/
def State.enter (s : State) (h : HeadState) (g : Stage) : State := { s with head.state := h, head.stage := g }

/-- Homing begins (R37). -/
def State.startHoming (s : State) (next : NextWork) : State :=
  ({ s.enter .homing .homingClamp with
    head.next := next
    head.heldFor := .nothing
    head.intent := .none
    head.homingParks := false } : State).wireClampReq true .homing

/-- The homing that either choice on DRIVE FAULT begins with the bypass flag already set: it ends in PARKED, whether or
not it is completed (R58; log entry 49). -/
def State.startLastHoming (s : State) : State :=
  { s.startHoming .park with head.homingParks := true }

/-- A homing that no choice or restart begins may start: step 3 of start-up has been reached (R61, R52). -/
def State.mayHome (s : State) : Bool := s.phase == .scanning || s.phase == .running

/-- Stage 3 of homing: X and Y, H with the PULL strap, and E at start-up's homing where an elevator is driven (R37). -/
def State.homingTable (s : State) : State :=
  let s1 := ((s.enter .homing .homingTable).move .x 0 .homing).move .y 0 .homing
  let s2 := if s.straps.pullFitted then s1.move .h 0 .homing else s1
  if s.phase == .homing && (s.isFirst || s.isEnd) then s2.move .e 0 .homing else s2

/-- A clearing begins (R55). -/
def State.startClearing (s : State) (i : Intent) : State :=
  ({ s.enter .tail .clearClamp with
    head.next := .none
    head.heldFor := .nothing
    head.intent := i } : State).wireClampReq true .clearing

/-- Positioning begins (R40). -/
def State.startPositioning (s : State) : State :=
  (s.enter (if s.head.surface.isNone then .searching else .ballDown) .posZ).move .z 0 .positioning

/-- Touch learn (R41). -/
def State.startTouch (s : State) : State :=
  s.withWire fun r _ _ =>
    (s.enter .searching .search).request (.zSearch r.approach r.searchLimit 2) (.axis .z) .search

/-- Lowering the ball (R42). -/
def State.startLower (s : State) : State :=
  s.withWire fun r w _ =>
    (s.enter .ballDown .lower).move .z s.surfaceHeight .lower (.force (r.setAt w.firstSet).impact)

/-- The first request of LOOPING (R43). -/
def State.startLooping (s : State) : State := (s.enter .looping .loopClamp).wireClampReq false .looping

/-- STITCH DOWN (R44). -/
def State.startStitch (s : State) : State :=
  s.withWire fun r w _ =>
    (s.enter .stitchDown .stitch).move .z s.surfaceHeight .stitch (.force (r.setAt w.secondSet).impact)

/-- The first request of TAIL (R45). -/
def State.startTail (s : State) : State :=
  s.withWire fun r _ _ => (s.enter .tail .tailPay).move .z (zTarget s.surfaceHeight r.tail) .tail

/-- FIRE (R45). -/
def State.startFire (s : State) : State :=
  s.withWire fun r _ _ =>
    { (s.enter .sparking .fire).request (.fire r.sparkCurrent r.sparkTime) .spark .fire with
      head.next := .none
      head.heldFor := .nothing }

/-- A wire step begins; the wire-out test has been passed. -/
def State.beginStep (s : State) (w : WireStep) : State :=
  let s1 := { s with head.next := .none, head.heldFor := .nothing }
  match w with
  | .positioning => s1.startPositioning
  | .touchLearn => s1.startTouch
  | .ballDown => s1.startLower
  | .firstBond => (s1.enter .firstBond .bond).enableBond true
  | .looping => s1.startLooping
  | .stitchDown => s1.startStitch
  | .secondBond => (s1.enter .secondBond .bond).enableBond false
  | .tail => s1.startTail
  | .sparking => s1.startFire

/-! ### HELD and PARKED -/

/-- The head enters HELD (R50, R51, R54); with no unit in progress that is an application point (R26). Work that was
winding down (R52) ends with it: a choice is then carried out as the bypass flag stands at it, also where RESUME BONDING
cleared the flag meanwhile (R88; DEDUCED, log entry 45). -/
def State.enterHeld (s : State) (f : HeldFor) (next : NextWork) : State :=
  ({ s.enter .held .idle with
    head.heldFor := f
    head.next := next
    head.intent := .none
    head.winding := false } : State).askPoint

/-- An alarm that holds the head (R50): the transducer is disabled, the alarm raised, and the head is HELD. -/
def State.holdFor (s : State) (k : AlarmKind) (next : NextWork) : State :=
  (s.disableReq.raise k).enterHeld .alarm next

/-- The feed conditions are tested once a warm restart's homing has ended and the head has parked (R133). -/
def State.feedAfterParking (s : State) : State :=
  if s.head.restartHoming then ({ s with head.restartHoming := false } : State).askFeed else s

/-- The head enters PARKED: an application point, and R38 is tested (R26, R38). Work that ends as under BYPASS, the flag
cleared meanwhile, is followed by the homing that R52 has come first. -/
def State.enterParked (s : State) : State :=
  let homeFirst := (s.head.winding || s.head.homingParks) && !s.alarms.bypass && !s.head.homed && s.mayHome
  let s1 := ({ s.enter .parked .idle with
    head.heldFor := .nothing
    head.next := .none
    head.intent := .none
    head.winding := false
    head.homingParks := false
    head.boundaryStep := 0
    head.doneUnit := none } : State).askPoint.askHead
  if homeFirst then s1.startHoming .park else s1.feedAfterParking

/-- The sample in progress ends; with a wire stressed its unit becomes PULLED, else a sample given up for a full log is
marked skipped (R142). -/
def State.closeSample (s : State) (forFull : Bool) : State :=
  match s.pull.sample with
  | some m =>
    let s1 := { s with pull.sample := none, pull.phase := .none }
    if 1 ≤ m.stressed then s1.onRecord (fun r => r.pullUnit m.unit)
    else if forFull then s1.onRecord (fun r => { r with skipped := true })
    else s1
  | none => s

/-- The unit and the sample in progress end as PASS STRIP ends them (R5, R142). -/
def State.giveUpWork (s : State) : State := (s.closeSample false).interrupt

/-- The head parks with its work given up (R52). -/
def State.parkWork (s : State) : State := s.giveUpWork.enterParked

/-- The work in flight ends as under BYPASS (R52). -/
def State.windsDown (s : State) : Bool := s.head.winding || s.alarms.bypass

/-! ### The wire-out test and the start of a wire (R39, R47) -/

/-- The wire-out test before a wire step (R47): WIRE OUT holds the head before the step, or `f` goes on. -/
def State.wireGate (s : State) (w : WireStep) (f : State → State) : State :=
  if s.head.wireOut || !s.pins.wirePresent then
    ({ s with head.wireOut := false } : State).holdFor .wireOut (.step w)
  else f s

/-- The wire-out test, then the step. -/
def State.wireStep (s : State) (w : WireStep) : State := s.wireGate w (fun t => t.beginStep w)

/-- A conditioning cycle begins (R83), with the active set's spark settings at this moment. -/
def State.startCycle (s : State) (o : Occasion) : State :=
  ({ s.enter .conditioning .condZ with
    head.occasion := o
    head.sparks := 0
    head.cycleSpark := (match s.activeSet with | some r => (r.sparkCurrent, r.sparkTime) | none => (0, 0))
    head.next := .none
    head.heldFor := .nothing } : State).move .z 0 .conditioning

/-- A cycle that line hold can stop (R84, R85). -/
def State.gatedCycle (s : State) (o : Occasion) : State :=
  if s.holding then s.enterHeld .lineHold (.cycle o) else s.startCycle o

/-- The start of a wire (R39): line hold, the forced cycle at debt +8, the wire-out test, then positioning. -/
def State.startWire (s : State) : State :=
  let s1 := { s with head.boundaryStep := 0, head.doneUnit := none }
  if s1.holding then s1.enterHeld .lineHold .wire
  else if s1.head.debt = 8 then s1.startCycle .forced
  else s1.wireStep .positioning

/-! ### The unit boundary from step 2 on (R53) -/

/-- Step 6: the next unit, or PARKED. Under line hold no unit is selected yet (log entry 24). -/
def State.boundary6 (s : State) : State :=
  let more := match s.window.record with | some r => (lowestOpen 1 r.units).isSome | none => false
  let s1 := { s with head.boundaryStep := 6 }
  if !more || s1.windsDown || s1.window.forward then s1.enterParked
  else if s1.holding then s1.enterHeld .lineHold (.boundary 6)
  else s1.selectUnit.startWire

/-- Step 5: the pass evaluation (R95). -/
def State.boundary5 (s : State) : State :=
  let s1 := { s with head.boundaryStep := 5 }
  let ready := s1.passReady
  let s2 := s1.evaluateStrip
  if !ready then s2.boundary6
  else if s2.window.state = .clamped ∧ s1.oNow ≠ 0 ∧ s1.alarms.bypass = false ∧ s1.window.forward = false then
    s2.boundary6
  else s2.enterParked

/-- Step 4: the boundary holds (R54). -/
def State.boundary4 (s : State) : State :=
  let s1 := { s with head.boundaryStep := 4 }
  if s1.boundaryAlarm then s1.enterHeld .boundary (.boundary 4) else s1.boundary5

/-- Step 3: conditioning (R85). -/
def State.boundary3 (s : State) : State :=
  let s1 := { s with head.boundaryStep := 3 }
  if 1 ≤ s1.head.debt then s1.gatedCycle .boundary else s1.boundary4

/-- Step 2: a due activation not deferred is applied (R26, R28). -/
def State.boundary2 (s : State) : State := ({ s with head.boundaryStep := 2 } : State).applyDue.boundary3

/-- The way out of a cycle, by its occasion (R83, R84). -/
def State.endCycle (s : State) (o : Occasion) : State :=
  if s.windsDown then s.parkWork
  else match o with
    | .boundary => s.boundary4
    | .forced => s.startWire
    | .pullIn => s.enterParked

/-- The debt falls by one; the tally counts the cycle and a beacon is queued (R83, R84). -/
def State.creditCycle (s : State) : State :=
  (({ s with head.debt := s.head.debt - 1 } : State).count .conditioningCycles).queueBeacon

/-! ### The pull sample (R136 to R144) -/

/-- A plan wire's positioning begins: MOVE(Z, 0) and MOVE(H, 0) together (R138). -/
def State.startPull (s : State) : State :=
  (({ s.enter .pulling .posZ with
    pull.phase := .positioning
    head.next := .none
    head.heldFor := .nothing } : State).move .z 0 .pullMove).move .h 0 .pullMove

/-- A change of the sample in progress. -/
def State.onSample (s : State) (f : Sample → Sample) : State := { s with pull.sample := s.pull.sample.map f }

/-- The wire waits for a place in PULLING with no request outstanding (R137). -/
def State.waitPlace (s : State) : State :=
  { s.enter .pulling .idle with
    pull.phase := .placing
    head.next := .none
    head.heldFor := .nothing }

/-- The pending-grade list has a place. -/
def State.hasPlace (s : State) : Bool := s.pull.list.length < Config.pendingPlaces

/-- The tests before a plan wire (R137): line hold, then a place for its record, made once by closing the oldest OPEN
entry UNGRADED. -/
def State.pullTests (s : State) : State :=
  match s.pull.sample with
  | none => s
  | some m =>
    if s.holding then ({ s with pull.phase := .none } : State).enterHeld .lineHold .pullTests
    else if s.hasPlace then s.startPull
    else match s.openGrades with
      | r :: _ =>
        if m.placeMade then s.waitPlace
        else
          let s1 := (s.onSample (fun m => { m with placeMade := true })).closeEntry r.ref .ungraded
          if s1.hasPlace then s1.startPull else s1.waitPlace
      | [] => s.waitPlace

/-- The plan of a recipe (R135). -/
def Recipe.plan (r : Recipe) : Plan := ⟨r.pullWires, r.specMin, r.armForce, r.travel, r.hookSpeed⟩

/-- The unit a sample is due on (R136), if one is. -/
def State.sampleDue (s : State) : Option (Nat × Plan) :=
  match s.head.doneUnit, s.window.record, s.stripSet with
  | some u, some r, some rec =>
    if s.pull.capable && r.selected && !r.taken && !r.skipped && !rec.pullWires.isEmpty then some (u, rec.plan) else none
  | _, _, _ => none

/-- Step 1 of a boundary (R53, R136). -/
def State.boundary1 (s : State) : State :=
  let s1 := { s with head.boundaryStep := 1 }
  match s1.sampleDue with
  | none => s1.boundary2
  | some (u, p) =>
    if s1.holding then s1.enterHeld .lineHold (.boundary 1)
    else if s1.log.full then (s1.onRecord (fun r => { r with skipped := true })).boundary2
    else ({ s1 with pull.sample := some ⟨u, p, 0, 0, false, false⟩ } : State).pullTests

/-- The unit boundary from a step on (R53). -/
def State.runBoundary (s : State) (step : Nat) : State :=
  match step with
  | 0 | 1 => s.boundary1
  | 2 => s.boundary2
  | 3 => s.boundary3
  | 4 => s.boundary4
  | 5 => s.boundary5
  | _ => s.boundary6

/-- Step 1 ends with its sample over (R142, R143): the boundary goes on at step 2, or the head parks. -/
def State.afterSample (s : State) : State := if s.windsDown then s.enterParked else s.boundary2

/-- The sample completes (R142). -/
def State.completeSample (s : State) : State := (s.closeSample false).afterSample

/-- The plan wire is over: the next one through the tests, or the sample completes (R140, R144). A sample winding down
ends short before a wire that is left (R143). -/
def State.nextPlanWire (s : State) : State :=
  match s.pull.sample with
  | none => s
  | some m =>
    if m.plan.wires.length ≤ m.index + 1 then s.completeSample
    else if s.windsDown then (s.closeSample false).enterParked
    else ({ (s.onSample (fun m => { m with
      index := m.index + 1
      placeMade := false
      stoppedStressed := false })) with pull.phase := .none } : State).pullTests

/-- A sample a drive fault stopped goes on after RETRY's homing (R144). -/
def State.resumePull (s : State) : State :=
  match s.pull.sample with
  | none => s.enterParked
  | some m => if m.stoppedStressed then s.nextPlanWire else s.pullTests

/-! ### Next work -/

/-- A RESUMEd step (R59): the wire-out test, and for a wire's positioning the tests of R39. -/
def State.resumeStep (s : State) (w : WireStep) : State :=
  s.wireGate w (fun t => if w = .positioning then t.startWire else t.beginStep w)

/-- The head starts its next work (R35). -/
def State.resumeWork (s : State) (n : NextWork) : State :=
  match n with
  | .none | .park => s.enterParked
  | .step w => s.resumeStep w
  | .refire => s.startFire
  | .wire | .stoppedWire => s.startWire
  | .boundary k => s.runBoundary k
  | .cycle o => s.gatedCycle o
  | .cycleEnd o => s.endCycle o
  | .pullTests => s.pullTests
  | .pullResume => s.resumePull

/-- The start-up scan begins (R161). -/
def State.startScan (s : State) : State :=
  ({ s with phase := .scanning, log.scan := .header 0 } : State).issue (.slotRead 0 0)

/-- Start-up goes on to its log scan when its homing has ended (R37). -/
def State.scanAfterHoming (s : State) : State := if s.phase = .homing then s.startScan else s

/-- Homing ends with every request answered (R37): homed, and what was to follow it. Work that is to follow begins at
once: the head passes no PARKED and no application point between (R37 against R49 and R56; DEDUCED, log entry 67). A
sample that RETRY was to go on with ends here where the bypass flag was set during the homing (DEDUCED, log entry 18). -/
def State.endHoming (s : State) : State :=
  let s1 := ({ s with head.homed := true, head.homingParks := false } : State).scanAfterHoming
  if s1.windsDown then s1.parkWork else s1.resumeWork s1.head.next

/-- A clearing ends and its intent is carried out (R55). -/
def State.endClearing (s : State) : State :=
  if s.windsDown then s.parkWork
  else match s.head.intent with
    | .wireRestart => ({ s with head.intent := .none } : State).startWire
    | .boundary => ({ s with head.intent := .none } : State).runBoundary 1
    | _ => s.enterParked

/-! ### Completing a wire (R46, R82) -/

/-- The wire count advances, and the debt with it (R82). -/
def State.advanceWireCount (s : State) : State :=
  match s.activeSet with
  | some r =>
    if r.interval ≤ s.head.wireCount + 1 then
      ({ s with head.wireCount := 0, head.debt := s.head.debt + 1 } : State).queueBeacon
    else { s with head.wireCount := s.head.wireCount + 1 }
  | none => { s with head.wireCount := s.head.wireCount + 1 }

/-- A wire completes at its SPARK OK (R46). -/
def State.completeWire (s : State) : State :=
  s.withWire fun r _ _ =>
    let s1 := (s.count .wiresCompleted).advanceWireCount
    let last : Bool := r.wires ≤ s.head.wire
    if last then
      let s2 := s1.completeUnit
      if s2.windsDown then s2.enterParked else s2.runBoundary 1
    else
      let s2 := { s1 with head.wire := s1.head.wire + 1 }
      if s2.windsDown then s2.parkWork else s2.startWire

/-! ### Drive faults (R49) -/

/-- The work a drive fault stops, as the head's next work (R49, R55, R56, R144). -/
def State.stoppedWork (s : State) : NextWork :=
  match s.head.state with
  | .parked => .park
  | .homing | .held => s.head.next
  | .conditioning => .cycle s.head.occasion
  | .pulling => .pullResume
  | .tail =>
    match s.head.intent with
    | .none => .stoppedWire
    | .wireRestart => .stoppedWire
    | .boundary => .boundary 1
    | .park => .park
  | _ => .stoppedWire

/-- The plan wire a drive fault stops (R144): stressed once its rise has begun, the rise given up. Filter, k, peak and
arming are cleared in every phase, and a wire stopped in PLACING no longer waits there (DESIGN CHOICE, log entry 60). -/
def State.stopPull (s : State) : State :=
  if s.head.state = .pulling then
    { (s.onSample (fun m => { m with stoppedStressed := s.pull.phase == .rising || s.pull.phase == .returning })) with
      pull.phase := .none
      pull.ring := []
      pull.k := 0
      pull.peak := 0
      pull.armed := false }
  else s

/-- The head's part of a drive fault (R49). The last homing that R58 allows ends in PARKED with homed no, and with no
further DRIVE FAULT, which would hold the head (R50; DEDUCED, log entry 49). -/
def State.takeDriveFault (s : State) : State :=
  let s1 := ({ s.disableReq.abortBond with head.homed := false, head.untrackedBond := false } : State).ignoreDue
    (fun d => d.use.ofHead)
  if s.head.state = .held ∧ s.head.heldFor = .alarm then s1
  else if s.head.state = .homing ∧ s.head.homingParks = true then s1.scanAfterHoming.enterParked
  else ((s1.stopPull).holdFor .driveFault s.stoppedWork).scanAfterHoming

/-! ### BYPASS (R52) -/

/-- The bypass flag has been set: the head's part (R52, R143). -/
def State.bypassHead (s : State) : State :=
  match s.head.state with
  | .parked => s
  | .held => if s.head.heldFor = .lineHold ∨ s.head.heldFor = .boundary then s.parkWork else s
  | .pulling => if s.pull.phase = .placing then s.parkWork else { s with head.winding := true }
  | _ => { s with head.winding := true }

/-- The bypass flag is set (R52, R169); a waiting strip is evaluated (R96). -/
def State.setBypass (s : State) : State :=
  if s.alarms.bypass then s
  else ({ s with alarms.bypass := true } : State).queueBeacon.bypassHead.askStrip

/-- The bypass flag is cleared (R52, R169): a PARKED head homes first if it has to, then R38 is tested. -/
def State.clearBypass (s : State) : State :=
  if !s.alarms.bypass then s
  else
    let s1 := ({ s with alarms.bypass := false } : State).queueBeacon
    if s1.head.state ≠ .parked then s1
    else if s1.head.homed then s1.askHead
    else if s1.mayHome then s1.startHoming .park
    else s1

/-! ### Choices at the head (R54 to R59, R84) -/

/-- The way a choice goes on: homing first where a drive fault was taken meanwhile, else `f` (R49). -/
def State.homeElse (s : State) (n : NextWork) (f : State → State) : State :=
  if s.head.homed then f s else s.startHoming n

/-- RETRY of a wire alarm (R49, R56). -/
def State.retryWire (s : State) : State :=
  ({ s with head.surface := none } : State).homeElse .wire (fun t => t.startClearing .wireRestart)

/-- SKIP UNIT (R49, R57). The boundary sequence counts as running from the choice on, so that the strip does not wait
during its clearing or homing (R53 against R96; DEDUCED, log entry 19). -/
def State.skipUnit (s : State) : State :=
  ({ s.rejectUnit with head.boundaryStep := 1, head.doneUnit := none } : State).homeElse (.boundary 1)
    (fun t => t.startClearing .boundary)

/-- A choice on DRIVE FAULT that is RETRY discards the surface height where a wire was stopped, whatever then follows
(R35, R56); PASS STRIP keeps it. -/
def State.discardStopped (s : State) (c : Choice) : State :=
  { s with head.surface := if c = .retry ∧ s.head.next = .stoppedWire then none else s.head.surface }

/-- RESUME of WIRE OUT (R49, R59); under BYPASS, where no wire is begun again, the surface height is kept (DEDUCED, log
entry 18). -/
def State.resumeWireOut (s : State) : State :=
  if s.head.homed then s.resumeWork s.head.next
  else ({ s with head.surface := none } : State).startHoming (.step .positioning)

/-- RESUME of NO BALL (R49, R59). -/
def State.resumeNoBall (s : State) : State := s.homeElse .refire (fun t => t.startFire)

/-- RETRY of CONDITIONING FAULT (R84). -/
def State.retryCycle (s : State) : State :=
  s.homeElse (.cycle s.head.occasion) (fun t => t.gatedCycle t.head.occasion)

/-- CONTINUE of CONDITIONING FAULT (R84). -/
def State.continueCycle (s : State) : State :=
  s.creditCycle.homeElse (.cycleEnd s.head.occasion) (fun t => t.endCycle t.head.occasion)

/-- A wire alarm whose choice ends in PARKED: R5, a clearing or homing, then PARKED (R52, R58). -/
def State.clearAndPark (s : State) : State := s.giveUpWork.homeElse .park (fun t => t.startClearing .park)

/-- A choice that ends in PARKED with no clearing (R52). -/
def State.parkChoice (s : State) : State := s.giveUpWork.homeElse .park (fun t => t.enterParked)

/-- A choice on DRIVE FAULT (R56, R58): homing, then the stopped work, or PARKED under BYPASS. During the listen no
request is made before step 3 of start-up, which homes: the head parks (R61; log entry 28). Under BYPASS a sample
stopped by the fault ends at the choice, before the homing (DEDUCED, log entry 18). `again`: the bypass flag was set
before the choice, so the homing is the last. -/
def State.driveChoice (s : State) (c : Choice) (again : Bool) : State :=
  let s1 := s.discardStopped c
  if s1.phase = .listening then s1.parkWork
  else if !s1.alarms.bypass then s1.startHoming s1.head.next
  else if again then s1.giveUpWork.startLastHoming
  else s1.giveUpWork.startHoming .park

/-- A choice for an alarm that holds the head, carried out on a head HELD for it. PASS STRIP has set the bypass flag
before, so it ends in PARKED like every choice under BYPASS (R52, R58; log entry 18); `again`: the flag was set before
the choice. -/
def State.headChoice (s : State) (k : AlarmKind) (c : Choice) (again : Bool) : State :=
  if s.head.state ≠ .held ∨ s.head.heldFor ≠ .alarm then s
  else match k, c with
    | .driveFault, _ => s.driveChoice c again
    | .conditioningFault, .retry => if s.alarms.bypass then s.parkChoice else s.retryCycle
    | .conditioningFault, _ => if s.alarms.bypass then s.creditCycle.parkChoice else s.continueCycle
    | .noBall, .resume => if s.alarms.bypass then s.parkChoice else s.resumeNoBall
    | .wireOut, .resume => if s.alarms.bypass then s.parkChoice else s.resumeWireOut
    | _, .skipUnit => if s.alarms.bypass then s.rejectUnit.clearAndPark else s.skipUnit
    | _, .retry => if s.alarms.bypass then ({ s with head.surface := none } : State).clearAndPark else s.retryWire
    | _, _ => s.clearAndPark

/-- CONTINUE of a boundary-hold alarm (R54). -/
def State.boundaryContinue (s : State) : State :=
  if s.head.state = .held ∧ s.head.heldFor = .boundary ∧ s.boundaryAlarm = false then s.resumeWork s.head.next else s

/-! ### Restart and the duplicate-station fault (R60, R61, R148) -/

/-- The pull controller's part of a restart: the sample ends, its unit PULLED if a wire was stressed (R148). -/
def State.restartPull (s : State) : State :=
  { s.closeSample false with
    pull.ring := []
    pull.k := 0
    pull.peak := 0
    pull.armed := false }

/-- The head's part of a warm restart up to its homing (R60). -/
def State.restartHead (s : State) : State :=
  { (({ s.disableReq.abortBond with head.untrackedBond := false } : State).ignoreDue
      (fun d => d.use.ofHead)).rejectUnit.clearUnit.restartPull.enter .parked .idle with
    head.surface := none
    head.next := .none
    head.heldFor := .nothing
    head.intent := .none
    head.wireOut := false
    head.untrackedRun := 0
    head.boundaryStep := 0
    head.doneUnit := none
    head.sparks := 0
    head.winding := false
    head.homingParks := false }

/-- The head's part of the duplicate-station fault (R61). -/
def State.dupHead (s : State) : State :=
  { (({ s.disableReq.abortBond with head.untrackedBond := false } : State).enter .held .idle) with
    head.heldFor := .duplicate
    head.winding := false
    head.homingParks := false }

end Sys2Proof.Machine
end

