-- ==== Sys2Proof/Machine/Settle.lean ====
section
/-! DEFINITION. The end of an event: the tests it has made due, line hold beginning and ending, and the frame of every
command (R26, R38, R51, R87, R96, R119, R137, R153, R172, R191; log entries 6 and 7). -/

namespace Sys2Proof.Machine

/-! ### Line hold (R51, R170, R172) -/

/-- The hold set has emptied (R51, R172): a head HELD for it resumes its next work; R38, the waiting strip and the
feed conditions are tested; a FEED JAM RETRY that waited begins. -/
def State.holdEnds (s : State) : State :=
  let s1 := s.askHead.askStrip.askFeed.releaseFeed
  if s1.head.state = .held ∧ s1.head.heldFor = .lineHold then s1.resumeWork s1.head.next else s1

/-- A change of the hold set, with what its emptying or filling brings about. -/
def State.setHold (s : State) (set : List Nat) : State :=
  let s1 := { s with alarms.hold := set }
  if s.alarms.hold.isEmpty && !set.isEmpty then s1.holdBegins
  else if !s.alarms.hold.isEmpty && set.isEmpty then s1.holdEnds
  else s1

/-- A station number at its place in the hold set, ascending, each once (R170). -/
def insertHold (n : Nat) : List Nat → List Nat
  | [] => [n]
  | x :: xs => if n < x then n :: x :: xs else if n = x then x :: xs else x :: insertHold n xs

/-- A number enters the hold set (R170, R171). -/
def State.addHold (s : State) (n : Nat) : State :=
  if s.alarms.hold.contains n then s else s.setHold (insertHold n s.alarms.hold)

/-- A number leaves the hold set (R170, R171). -/
def State.dropHold (s : State) (n : Nat) : State :=
  if s.alarms.hold.contains n then s.setHold (s.alarms.hold.filter (fun x => x != n)) else s

/-! ### The tests of an event -/

/-- A sample waiting for a place meets FULL, which ends it short, or a freed place (R137, R142). -/
def State.settlePlace (s : State) : State :=
  if s.head.state = .pulling ∧ s.pull.phase = .placing then
    if s.agenda.full && s.log.full then (s.closeSample true).afterSample
    else if s.agenda.place && s.hasPlace then s.pullTests
    else s
  else s

/-- An application point (R26). -/
def State.settlePoint (s : State) : State := if s.agenda.point && s.atPoint then s.applyDue else s

/-- A PARKED head starts a unit, or a pull-in cycle (R38, R87). -/
def State.settleHead (s : State) : State :=
  if s.agenda.head && s.head.state == .parked then
    if s.unitStartable then s.selectUnit.startWire
    else if s.pullInAllowed then s.startCycle .pullIn
    else s
  else s

/-- The waiting strip's pass evaluation (R96). -/
def State.settleStrip (s : State) : State := if s.agenda.strip && s.stripWaits && s.running then s.evaluateStrip else s

/-- The feed conditions (R119). -/
def State.settleFeed (s : State) : State := if s.agenda.feed then s.testFeed else s

/-- The record port (R153). -/
def State.settlePort (s : State) : State := if s.agenda.port then s.arbitrate else s

/-- The tests an event has made due, in this order (log entry 7). -/
def State.settle (s : State) : State :=
  if s.operating then s.settlePlace.settlePoint.settleHead.settleStrip.settleFeed.settlePort else s

/-- A change of what the beacon carries, or a rule that names one, places a beacon at the event's end (R191). -/
def State.beaconAfter (s old : State) : State :=
  if s.operating && (s.agenda.beacon || encodeBeacon s.beaconView != encodeBeacon old.beaconView) then s.placeBeacon
  else s

/-- On GRADE the selected line is kept while it is there; the first one takes its place (R182). -/
def State.keepLine (s : State) : State :=
  if s.operating && s.hasPanel && s.panel.top == .grade then
    { s with panel.gradeLine := s.selectedLine.map (·.station) }
  else s

/-- The end of an event: the beacon and the GRADE line follow, and the agenda is empty again. -/
def State.finish (old s : State) : State := { (s.beaconAfter old).keepLine with agenda := Agenda.none }

/-- One event: the levels at it, what it does, and its end. -/
def State.perform (s : State) (p : Pins) (f : State → State) : State :=
  State.finish s (f (s.begin_ p)).settle

/-- The outcome of every command: a next state (log entry 9). -/
def answer (s : State) : Host.Outcome State Fault Refusal := .next s

/-- A command that any part takes which operates. -/
def event (s : State) (p : Pins) (f : State → State) : Host.Outcome State Fault Refusal :=
  answer (s.perform p (fun t => t.whenOperating f))

end Sys2Proof.Machine
end

