-- ==== Sys2Proof/Machine/Receive.lean ====
section
/-! DEFINITION. Frames received: bad frames, the duplicate-station fault, presence and routing (R186, R188 to R190,
R192), and the answers to alarms (R166, R167). -/

namespace Sys2Proof.Machine

/-! ### Receiving (R189, R190) -/

/-- A bad frame: tallied, and L becomes unknown (R189). -/
def State.takeBadFrame (s : State) : State := { s.count .lineBadFrames with line.last := none }

/-- The line interface, the window and the magazine controllers stop at the duplicate-station fault: no send goes on and
their timers stop (R115, R134, R189). -/
def State.stopTimers (s : State) : State :=
  { (if s.line.sending.isSome then s.issue .lineStop else s) with
    line.sending := none
    window.offerTimer := none
    window.arrivalTimer := none
    window.exitTimer := none
    inMag.feedTimer := none
    outMag.unloadTimer := none }

/-- The duplicate-station fault is declared (R61, R115, R134, R189); the frame is a good frame, so L is its sender
(R188). -/
def State.declareDup (s : State) : State := { s.dupHead.stopTimers with dup := true, line.last := some s.stn }

/-- A good frame has been heard from a station (R188, R190); a waiting strip is evaluated when the downstream station
becomes present (R96). -/
def State.heard (s : State) (n : Nat) : State :=
  let s1 := { s with
    line.last := some n
    line.peers := s.line.peers.modify (n - 1) (fun p => { p with present := true }) }
  if s.isPresent n = false ∧ n = s.stn + 1 then s1.askStrip else s1

/-- A frame is handed to its owner when its target is this station or all (R186). -/
def State.addressed (s : State) (h : Hdr) : Bool := h.target == 0 || h.target == s.stn

/-- A good frame: `view` is what every station takes from it, `f` what its owner does with it (R186, R189, R190). A
sender outside 1..7 makes the frame bad. -/
def receiveWith (s : State) (h : Hdr) (p : Pins) (view f : State → State) : Host.Outcome State Fault Refusal :=
  event s p fun t =>
    if h.sender = 0 ∨ 7 < h.sender then t.takeBadFrame
    else if h.sender = t.stn then t.declareDup
    else
      let t1 := view (t.heard h.sender)
      if t1.addressed h then f t1 else t1

/-- A good frame of which only its owner takes anything. -/
def receive (s : State) (h : Hdr) (p : Pins) (f : State → State) : Host.Outcome State Fault Refusal :=
  receiveWith s h p (fun t => t) f

/-- A service request: only from the service node, and not during the listen (R186, R192). -/
def request (s : State) (h : Hdr) (p : Pins) (f : State → State) : Host.Outcome State Fault Refusal :=
  receive s h p fun t => if h.sender = 7 ∧ t.phase ≠ .listening then f t else t

/-- A frame of the handoff from the upstream neighbour (R92). -/
def fromUpstream (s : State) (h : Hdr) (f : State → State) : State := if h.sender + 1 = s.stn then f s else s

/-- A frame of the handoff from the downstream neighbour (R92). -/
def fromDownstream (s : State) (h : Hdr) (f : State → State) : State := if h.sender = s.stn + 1 then f s else s

/-! ### Beacons (R170, R180, R190) -/

/-- The beacon's content is kept as the sender's latest (R190). -/
def State.keepBeacon (s : State) (n : Nat) (b : BeaconView) : State :=
  { s with line.peers := s.line.peers.modify (n - 1) (fun p => { p with beacon := some b }) }

/-- A beacon from downstream clears the fresh-beacon wait, and the waiting strip is evaluated (R96, R101). -/
def State.downstreamBeacon (s : State) (n : Nat) : State :=
  if n = s.stn + 1 then ({ s with window.freshWait := false } : State).askStrip else s

/-- A beacon's holding flag (R170). -/
def State.beaconHold (s : State) (n : Nat) (b : BeaconView) : State := if b.holding then s.addHold n else s.dropHold n

/-- What the alarm controller, the panel and the window controller take from a beacon. -/
def State.takeBeacon (s : State) (n : Nat) (b : BeaconView) : State :=
  ((s.downstreamBeacon n).panelBeacon n b.alarms).beaconHold n b

/-! ### Answers to alarms (R166, R167) -/

/-- PASS STRIP sets the bypass flag before the head's part begins (R167, R169). -/
def State.passFlag (s : State) : State :=
  if s.alarms.bypass then s else ({ s with alarms.bypass := true } : State).queueBeacon.askStrip

/-- FORWARD marks the strip in the window; the strip then waits (R111, R167). -/
def State.markForward (s : State) : State :=
  if s.window.record.isSome then ({ s with window.forward := true } : State).askStrip else s

/-- The effect of a choice, by the table of R167; the alarm is already settled. -/
def State.choiceEffect (s : State) (k : AlarmKind) (c : Choice) : State :=
  match k with
  | .energyDrift | .generatorUnlock => if c = .passStrip then s.setBypass else s.boundaryContinue
  | .transferJam => s.settleJam
  | .recordLost | .staleGeneration => s.markForward
  | .feedJam => s.feedChoice c
  | .inputEmpty => { s with inMag.emptyAnswered := true }
  | .outputFull => { s with outMag.fullAnswered := true }
  | .logFull => s
  | _ => (if c = .passStrip then s.passFlag else s).headChoice k c s.alarms.bypass

/-- The open entry with this sequence (R166). -/
def State.alarmOf (s : State) (seq : Nat) : Option AlarmEntry := s.alarms.queue.find? (fun e => e.seq == seq)

/-- A response: applied if its id is open here and its choice valid for the kind (R166, R167). -/
def State.respond (s : State) (station seq : Nat) (c : Choice) (responder : Nat) : State :=
  if station = s.stn then
    match s.alarmOf seq with
    | some e =>
      if e.kind.choices.contains c then (s.removeAlarm e c responder).choiceEffect e.kind c else s
    | none => s
  else s

/-- A RESPONSE frame (R166). -/
def response (s : State) (h : Hdr) (station seq : Nat) (c : Choice) (p : Pins) : Host.Outcome State Fault Refusal :=
  receive s h p fun t => t.respond station seq c h.sender

end Sys2Proof.Machine
end

