-- ==== Sys2Proof/Machine/ScanOps.lean ====
section
/-! DEFINITION. The start-up scan of the record store, its end, and leaving STARTING (R32, R115, R118, R128, R135, R161,
R162). -/

namespace Sys2Proof.Machine

/-! ### Leaving STARTING -/

/-- The magazine a station finds when it leaves STARTING is taken as inserted (R118, R128). -/
def State.findMagazine (s : State) : State :=
  if s.pins.magPresent then
    (if s.isFirst then s.insertInput else if s.isEnd then s.insertOutput else s)
  else s

/-- The strip a station finds at STRIP IN when it leaves STARTING (R115). -/
def State.findStrip (s : State) : State := if s.pins.stripIn then s.clampUnknown else s

/-- The station leaves STARTING (R32, R115, R118, R128, R135, R192): pull-capability is decided, the window reads
STRIP IN, the magazine controllers MAG PRESENT, and every block tests its start-up events. -/
def State.leaveStarting (s : State) : State :=
  ((({ s with
    phase := .running
    pull.capable := s.straps.pullFitted && s.log.present
    log.scan := .idle } : State).queueBeacon.findStrip.findMagazine).askHead.askFeed).askPort

/-! ### The scan -/

/-- A written block that another one replaces: not the last of those with the highest sequence number, or not the first
of those with another one (R161). -/
def isShadowed (ws : List (Nat × Nat × Nat)) (w : Nat × Nat × Nat) : Bool :=
  let top := ws.all (fun x => x.2.1 ≤ w.2.1)
  ws.any (fun x => x.2.1 == w.2.1 && (if top then w.1 < x.1 else x.1 < w.1))

/-- The headers that stay written (R161). -/
def Log.settleHeaders (l : Log) : Log :=
  let ws := l.written
  { l with headers := l.headers.mapIdx (fun i h =>
      match h with
      | some q => if isShadowed ws (i, q.1, q.2) then none else some q
      | none => none) }

/-- The older written block that the downward reading goes on with (R162). -/
def Log.olderBlock (l : Log) (b : Nat) : Option Nat :=
  match l.headers.getD b none with
  | some h => (newestOf (l.written.filter (fun w => w.2.1 < h.1))).map (·.1)
  | none => none

/-- A slot read of the scan. -/
def State.scanRead (s : State) (step : ScanStep) (b n : Nat) : State :=
  ({ s with log.scan := step } : State).issue (.slotRead b n)

/-- The scan ends with the collected-span end settled, FULL decided and pull-capability with it (R156, R162). -/
def State.endScanWith (s : State) (mark : Nat) : State :=
  let s1 := { s with
    log.present := true
    log.spanEnd := min s.log.newest (max mark (s.log.oldestRecord - 1)) }
  let s2 := match s1.log.pos with
    | .need b => s1.needBlock b
    | _ => s1
  (if s2.log.exhausted then s2.setFull else s2).leaveStarting

/-- The downward reading goes on at slot `n` of block `b`, or in the next older block from slot 127 on, or the scan
ends without a SPAN MARK (R162). -/
def State.scanDown (s : State) (b n : Nat) : State :=
  if 1 ≤ n then s.scanRead (.downward b n) b n
  else match s.log.olderBlock b with
    | some o => s.scanRead (.downward o 127) o 127
    | none => s.endScanWith 0

/-- The headers have been read (R161): an empty store, or the write block's entries from slot 1 on. -/
def State.headersRead (s : State) : State :=
  let s1 := { s with log := s.log.settleHeaders }
  match s1.log.writeBlock with
  | none => State.endScanWith { s1 with log.pos := .need 0, log.newest := 0 } 0
  | some w => s1.scanRead (.upward 1) w 1

/-- The write block's first record number (R161). -/
def Log.writeFirst (l : Log) : Nat := match newestOf l.written with | some b => b.2.2 | none => 1

/-- The write block's entries are read (R161): without a PULL entry the newest number is one below its first; the
reading turns downward from its last written slot. A first number of 0, which only a header past 32 bits holds, gives
0 (DESIGN CHOICE, log entry 54). -/
def State.upwardDone (s : State) (w lastSlot : Nat) (pos : WritePos) : State :=
  State.scanDown { s with
    log.pos := pos
    log.newest := if s.log.newest = 0 then s.log.writeFirst - 1 else s.log.newest } w lastSlot

/-- The newest record number after a written slot of the write block: the highest readable number (R161). -/
def Log.takeNumber (l : Log) (k : SlotKind) : Log :=
  match k with
  | .good 1 n => { l with newest := max l.newest n }
  | .readable kind n =>
    { l with newest := if kind = 1 then max l.newest n else l.newest, damaged := bump16 l.damaged }
  | .unreadable => { l with damaged := bump16 l.damaged }
  | _ => l

/-- A slot of the write block, read upward (R161). -/
def State.scanUp (s : State) (n : Nat) (bytes : List Byte) : State :=
  match s.log.writeBlock with
  | none => s
  | some w =>
    let k := judgeSlot bytes
    if k = .erased then s.upwardDone w (n - 1) (.slot w n)
    else
      let s1 := { s with log := s.log.takeNumber k }
      if 127 ≤ n then s1.upwardDone w 127 (.need (nextBlock w)) else s1.scanRead (.upward (n + 1)) w (n + 1)

/-- A slot read downward (R162): the first good SPAN MARK ends the scan; damaged slots of older blocks are counted, the
write block's were counted upward. -/
def State.scanSlotDown (s : State) (b n : Nat) (bytes : List Byte) : State :=
  match judgeSlot bytes with
  | .good 2 v => s.endScanWith v
  | .readable _ _ | .unreadable =>
    (if s.log.writeBlock = some b then s else { s with log.damaged := bump16 s.log.damaged }).scanDown b (n - 1)
  | _ => s.scanDown b (n - 1)

/-- The store is not present (R161). -/
def State.noStore (s : State) : State :=
  ({ s with log.present := false, log.headers := List.replicate Config.blocks none } : State).leaveStarting

/-- A header read (R161). -/
def State.scanHeader (s : State) (b : Nat) (bytes : List Byte) : State :=
  let s1 := { s with log.headers := s.log.headers.set b (readHeader bytes) }
  if b + 1 < Config.blocks then s1.scanRead (.header (b + 1)) (b + 1) 0 else s1.headersRead

/-- An answer to a slot read of the scan (R161, R162). -/
def State.scanAnswer (s : State) (a : StoreAnswer) : State :=
  match s.log.scan, a with
  | .idle, _ => s
  | .header 0, .noStore => s.noStore
  | .header b, .slot bytes => s.scanHeader b bytes
  | .header b, .noStore => s.scanHeader b []
  | .upward n, .slot bytes => s.scanUp n bytes
  | .upward n, .noStore => s.scanUp n []
  | .downward b n, .slot bytes => s.scanSlotDown b n bytes
  | .downward b n, .noStore => s.scanSlotDown b n []

end Sys2Proof.Machine
end

