-- ==== Sys2Proof/Machine/RestartOps.lean ====
section
/-! DEFINITION. The warm restart, block by block in its order (R17, R60, R62, R114, R133, R148, R163, R173, R184,
R195). -/

namespace Sys2Proof.Machine

/-- The line interface's part (R194, R195): the queue and what waits for room are emptied, a begun send goes on outside
the queue. All that waits for room is dropped, whichever block it waits in (DEDUCED, log entry 64). -/
def State.restartLine (s : State) : State :=
  { s with
    line.txQueue := []
    line.waiting := []
    line.sending := s.line.sending.map (fun x => { x with queued := false })
    line.lastRefusal := none }

/-- The panel after a restart (R184). -/
def Panel.restart (p : Panel) : Panel :=
  { p with
    pattern := .noKey
    runLength := 0
    accepted := none
    lockout := false
    stack := [.home]
    list := p.list.map (fun e => { e with state := .opened, sendTimer := none })
    deferTimer := none
    buffer := .empty
    idleMs := 0
    standby := false
    scroll := 0
    gradeLine := none }

/-- The panel's part (R184). -/
def State.restartPanel (s : State) : State :=
  if s.hasPanel then { s with panel := s.panel.restart.refresh } else s

/-- One alarm settled with RESTART (R173); a settled window alarm lets a waiting strip be evaluated (R96). -/
def State.settleRestart (s : State) (e : AlarmEntry) : State :=
  let s1 := (s.submit .settled (settledFrame e .restart 0)).panelSettled s.stn e.seq
  if e.kind.holdsWindow then s1.askStrip else s1

/-- The alarm controller's part (R173): every alarm is settled, oldest first; the bypass flag is cleared and the own
number leaves the hold set, whose emptying lets a waiting strip be evaluated (R96). -/
def State.restartAlarms (s : State) : State :=
  let s1 := s.alarms.queue.foldl State.settleRestart { s with alarms.queue := [] }
  let s2 := { s1 with
    alarms.bypass := false
    alarms.hold := s.alarms.hold.filter (fun n => n != s.stn) }
  if s.holding && !s2.holding then s2.askStrip else s2

/-- The energy monitor's part (R62, R74, R77). -/
def State.restartEnergy (s : State) : State :=
  { s with
    energy.rings := emptyRings
    energy.working := none
    energy.table := none }

/-- The window controller's timers and marks at a restart (R114). -/
def State.restartMarks (s : State) : State :=
  { s with
    window.offerTimer := none
    window.arrivalTimer := none
    window.exitTimer := none
    window.forward := false
    window.freshWait := false }

/-- A belt request outlives a restart only with the transfer it is made for (R114): one still due when the restart
settles the window out of OUTBOUND is ignored, also in a later OUTBOUND; RESUME of R108 leaves such a request live
(DESIGN CHOICE, log entry 68). -/
def State.dropBelt (s : State) : State :=
  if s.window.state = .outbound then s else s.ignoreDue (fun d => d.use == .belt)

/-- The feed request of an operation that a restart ends. -/
def Use.ofFeed : Use → Bool
  | .feedSearch | .feedRetry | .push | .retract => true
  | _ => false

/-- The input magazine controller's part (R133), before the window's re-read: a strip shown at STRIP IN was fed. The feed
slot becomes none at the restart, also where a retract follows (DESIGN CHOICE, log entry 65). -/
def State.restartInput (s : State) : State :=
  let fed : Bool := (s.inMag.feed == .pushing || s.inMag.feed == .jammed) && s.pins.stripIn
  let m := if fed then s.inMag.feedDone else s.inMag
  let retracts : Bool := s.inMag.feed == .pushing || s.inMag.feed == .jammed || s.inMag.feed == .retracting
  let s1 := ({ s with inMag := { m with
      feed := if retracts then .retracting else .idle
      feedSlot := none
      feedTimer := none
      waiting := none
      retrying := false
      retractJam := false
      insertedSinceJam := false } } : State).ignoreDue (fun d => d.use.ofFeed)
  if retracts then s1.retract else s1

/-- The output magazine controller's part (R133) before the window's re-read: a scan goes on at the lowest UNKNOWN
slot, with no magazine the unloader is ABSENT (DEDUCED, log entry 52); an unload is left to the re-read (R131). -/
def State.restartOutput (s : State) : State :=
  match s.outMag.unloader with
  | .scanning =>
    let s1 := s.ignoreDue (fun d => d.use == .outScan)
    if s.pins.magPresent then
      match unscannedSlot 1 s.outMag.slots with
      | some n => s1.scanSlot n
      | none => s1.endScan
    else { s1 with outMag := s1.outMag.becomeAbsent }
  | .unloading =>
    { s.ignoreDue (fun d => d.use == .unloadMove) with outMag.unloadTimer := none }
  | _ => s

/-- LOG FULL is raised again if FULL is still set (R163). -/
def State.restartFull (s : State) : State := if s.log.full then s.raise .logFull else s

/-- The log controller's part (R163): the read in service is dropped; the OPEN records are closed (R148). -/
def State.restartLog (s : State) : State := ({ s with log.service := none } : State).closeAll

/-- The restart's homing (R60); the feed conditions wait for its end (R133). -/
def State.restartHoming (s : State) : State :=
  { ({ s with head.restartHoming := true } : State).startHoming .park with agenda.feed := false }

/-- A warm restart (R195), each block's part in order. -/
def State.restart (s : State) : State :=
  ((s.restartLine.restartPanel.restartAlarms.restartHead.restartEnergy.restartMarks.restartInput.restartOutput.restartWindow
    ).dropBelt.restartLog.restartFull.restartHoming).queueBeacon

end Sys2Proof.Machine
end

