-- ==== Sys2Proof/Machine/Station.lean ====
section
/-! DEFINITION. The meanings of resets, start-up and of the frames received from stations and panels (R20 excepted:
service requests stand in Service.lean). -/

namespace Sys2Proof.Machine

/-! ### Resets and start-up -/

/-- HARDWARE_RESET (R192): every block at its reset values, the straps read, the listen begun; a strap fault stays at
rest (R61). The commands that wait are outside the part. -/
def execHardwareReset (straps : Straps) (p : Pins) (s : State) : Host.Outcome State Fault Refusal :=
  answer (State.afterReset straps p s.pending)

/-- Step 3 of start-up (R37, R61, R192; log entry 28): homing begins; a head that a drive fault of the listen holds is
left HELD, and the scan begins. -/
def State.startUpHoming (s : State) : State :=
  if s.head.state = .held then s.startScan else s.startHoming .park

/-- The end of the listen (R192): what waited takes the queue's places, a STARTING beacon is placed and the beacon timer
starts, and homing begins. -/
def State.endListen (s : State) : State :=
  if s.phase = .listening then
    let s1 := { s with phase := .homing, line.beaconTimer := some Config.beaconMs }
    (s1.fill.placeBeacon).startUpHoming
  else s

/-- LISTEN_END (R192). -/
def execListenEnd (p : Pins) (s : State) : Host.Outcome State Fault Refusal := event s p State.endListen

/-- RESTART (R193, R195): a warm restart, refused with NOT READY while STARTING. -/
def execRestart (h : Hdr) (p : Pins) (s : State) : Host.Outcome State Fault Refusal :=
  request s h p fun t => if t.running then t.restart else t.refuse h .restart 9 0

/-! ### Frames of stations -/

/-- BEACON (R170, R180, R190): its content is kept; the owners take it when it is addressed to this station or all. A
payload that is not 26 bytes is discarded (R186). -/
def execBeacon (h : Hdr) (payload : List Byte) (p : Pins) (s : State) : Host.Outcome State Fault Refusal :=
  if payload.length = 26 then
    receiveWith s h p (fun t => t.keepBeacon h.sender (readBeacon payload))
      (fun t => t.takeBeacon h.sender (readBeacon payload))
  else receive s h p fun t => t

/-- OFFER (R92, R99): answered when it comes from the upstream station, but not during the listen (R192). -/
def execOffer (h : Hdr) (serial : Nat) (p : Pins) (s : State) : Host.Outcome State Fault Refusal :=
  receive s h p fun t => if t.phase = .listening then t else fromUpstream t h (fun u => u.answerOffer serial)

/-- A TAKE that matches the offer (R100). -/
def State.takeTake (s : State) (serial : Nat) : State :=
  match s.window.record with
  | some r => if s.window.state = .offered ∧ serial = r.serial then s.acceptTake r else s
  | none => s

/-- TAKE (R92, R100). -/
def execTake (h : Hdr) (serial : Nat) (p : Pins) (s : State) : Host.Outcome State Fault Refusal :=
  receive s h p fun t => fromDownstream t h (fun u => u.takeTake serial)

/-- A DECLINE of the offer made (R101). -/
def State.takeDecline (s : State) (serial : Nat) : State :=
  if s.window.state = .offered ∧ serial = s.windowSerial then s.endOffer else s

/-- DECLINE (R92, R101); its reason is not acted on (R99). -/
def execDecline (h : Hdr) (serial _reason : Nat) (p : Pins) (s : State) : Host.Outcome State Fault Refusal :=
  receive s h p fun t => fromDownstream t h (fun u => u.takeDecline serial)

/-- A STRIP RECORD for the strip taken (R15, R102). -/
def State.takeRecord (s : State) (payload : List Byte) : State :=
  if s.window.state = .inbound ∧ s.window.inboundSerial = some (field payload 0 4) then
    match checkRecord payload with
    | some r => { s with window.inbound := some r }
    | none => { s with line.badRecords := bump16 s.line.badRecords }
  else s

/-- STRIP_RECORD (R15, R92, R102); a payload outside 4..64 bytes is discarded (R186). -/
def execStripRecord (h : Hdr) (payload : List Byte) (p : Pins) (s : State) : Host.Outcome State Fault Refusal :=
  receive s h p fun t =>
    if within payload.length 4 64 then fromUpstream t h (fun u => u.takeRecord payload) else t

/-- ALARM (R180): for the panel; the id's station is the sender (R186). A kind code outside 1..16 is ignored. -/
def execAlarm (h : Hdr) (seq kind serial unit wire : Nat) (p : Pins) (s : State) : Host.Outcome State Fault Refusal :=
  receive s h p fun t =>
    match AlarmKind.ofCode kind with
    | some k => t.panelAlarm h.sender seq k ⟨serial, unit, wire⟩
    | none => t

/-- SETTLED (R180): for the panel. -/
def execSettled (h : Hdr) (seq _kind _choice _responder : Nat) (p : Pins) (s : State) :
    Host.Outcome State Fault Refusal :=
  receive s h p fun t => t.panelSettled h.sender seq

/-! ### Responses (R166, R167) -/

/-- RETRY (R56, R84, R123). -/
def execRetry (h : Hdr) (station seq : Nat) (p : Pins) (s : State) : Host.Outcome State Fault Refusal :=
  response s h station seq .retry p

/-- SKIP_UNIT (R57). -/
def execSkipUnit (h : Hdr) (station seq : Nat) (p : Pins) (s : State) : Host.Outcome State Fault Refusal :=
  response s h station seq .skipUnit p

/-- PASS_STRIP (R58). -/
def execPassStrip (h : Hdr) (station seq : Nat) (p : Pins) (s : State) : Host.Outcome State Fault Refusal :=
  response s h station seq .passStrip p

/-- RESUME (R59, R108, R131). -/
def execResume (h : Hdr) (station seq : Nat) (p : Pins) (s : State) : Host.Outcome State Fault Refusal :=
  response s h station seq .resume p

/-- CONTINUE (R54, R84, R123, R124, R129, R156). -/
def execContinue (h : Hdr) (station seq : Nat) (p : Pins) (s : State) : Host.Outcome State Fault Refusal :=
  response s h station seq .cont p

/-- FORWARD (R111). -/
def execForward (h : Hdr) (station seq : Nat) (p : Pins) (s : State) : Host.Outcome State Fault Refusal :=
  response s h station seq .forward p

/-! ### Other frames of panels and stations -/

/-- GRADE (R146). -/
def execGrade (h : Hdr) (station ref mode : Nat) (p : Pins) (s : State) : Host.Outcome State Fault Refusal :=
  receive s h p fun t => if station = t.stn then t.gradeEntry ref mode else t

/-- HOLD (R170): adds a present station other than this one. -/
def execHold (h : Hdr) (station : Nat) (p : Pins) (s : State) : Host.Outcome State Fault Refusal :=
  receive s h p fun t =>
    if within station 1 7 ∧ station ≠ t.stn ∧ t.isPresent station = true then t.addHold station else t

/-- RELEASE (R170). -/
def execRelease (h : Hdr) (station : Nat) (p : Pins) (s : State) : Host.Outcome State Fault Refusal :=
  receive s h p fun t => if within station 1 7 ∧ station ≠ t.stn then t.dropHold station else t

/-- BYPASS (R52, R169). -/
def execBypass (h : Hdr) (station : Nat) (p : Pins) (s : State) : Host.Outcome State Fault Refusal :=
  receive s h p fun t => if station = t.stn then t.setBypass else t

/-- RESUME_BONDING (R52, R169). -/
def execResumeBonding (h : Hdr) (station : Nat) (p : Pins) (s : State) : Host.Outcome State Fault Refusal :=
  receive s h p fun t => if station = t.stn then t.clearBypass else t

/-- DISCARDED_FRAME (R186): a good frame that routing discards counts for L and presence only. -/
def execDiscardedFrame (h : Hdr) (p : Pins) (s : State) : Host.Outcome State Fault Refusal :=
  receive s h p fun t => t

/-- BAD_FRAME (R189). -/
def execBadFrame (p : Pins) (s : State) : Host.Outcome State Fault Refusal := event s p State.takeBadFrame

end Sys2Proof.Machine
end

