-- ==== Sys2Proof/Machine/Service.lean ====
section
/-! DEFINITION. The meanings of the service requests and the payloads of their replies (R20, R25, R125, R132, R158,
R159, R187, R193, R194, R197). -/

namespace Sys2Proof.Machine

/-! ### Reply payloads (R187) -/

/-- TALLY DATA's two frames (R187, R197). -/
def State.tallyFrames (s : State) (target : Nat) : List Frame :=
  let cs := s.tally.snapCounters
  [ ⟨target, .tallyData, [1] ++ beBytes 2 s.tally.snapNumber ++ [byteOf s.tally.snapGen, byteOf s.tally.snapPrevGen]
      ++ beBytes 3 (bitsNat (cs.map (·.overflow))) ++ (cs.take 10).flatMap (fun c => beBytes 4 c.value)⟩,
    ⟨target, .tallyData, [2] ++ (cs.drop 10).flatMap (fun c => beBytes 4 c.value) ++ beBytes 2 s.line.lineFaults
      ++ beBytes 2 s.line.badRecords ++ beBytes 2 s.line.withdrawn⟩ ]

/-- 1 for yes, 0 for no. -/
def flagByte (b : Bool) : Byte := if b then 1 else 0

/-- MAGAZINE DATA of the input magazine (R132, R187). -/
def State.inputMapFrame (s : State) (target : Nat) : Frame :=
  ⟨target, .magazineData, [1, flagByte (!s.inMag.current), flagByte s.pins.magPresent] ++ beBytes 2 s.inMag.inserted
    ++ [byteOf s.inMag.fed] ++ s.inMag.slots.map (fun x => byteOf x.code) ++ rangeBytes s.inMag.ranges
    ++ beBytes 4 s.inMag.serialCounter⟩

/-- One slot of MAGAZINE DATA of the output magazine (R187). -/
def outSlotBytes (x : OutSlot) : List Byte :=
  byteOf x.code :: match x with
    | .filled serial m =>
      beBytes 4 serial ++ [byteOf m.done, byteOf m.reject, byteOf m.pulled, byteOf m.opened, byteOf m.unknown]
    | _ => List.replicate 9 0

/-- One of the four MAGAZINE DATA frames of the output magazine, places 0..3 here (R132, R187). -/
def State.outputMapFrame (s : State) (target place : Nat) : Frame :=
  let head := if place = 0 then [flagByte (!s.outMag.current), flagByte s.pins.magPresent] ++ beBytes 2 s.outMag.inserted
      ++ [byteOf s.outMag.filled] else List.replicate 5 0
  ⟨target, .magazineData, [2, byteOf (place + 1)] ++ head
    ++ ((s.outMag.slots.drop (5 * place)).take 5).flatMap outSlotBytes⟩

/-- DETAIL (R187, R194). -/
def State.detailFrame (s : State) (target : Nat) : Frame :=
  ⟨target, .detail, match s.line.lastRefusal with
    | some r => refusedBytes r.kind r.code r.detail
    | none => List.replicate 6 0⟩

/-! ### Recipes -/

/-- RECIPE_SEGMENT (R20 to R24); a payload above 64 bytes is no frame's (R185). -/
def execRecipeSegment (h : Hdr) (payload : List Byte) (p : Pins) (s : State) : Host.Outcome State Fault Refusal :=
  request s h p fun t =>
    if 64 < payload.length then t
    else match t.segmentRefusal payload with
      | some r => t.refuse h .recipeSegment r.1 r.2
      | none => t.acceptSegment payload

/-- RECIPE ACTIVATE's answer (R25). -/
def State.activate (s : State) (h : Hdr) (gen run : Nat) : State :=
  if !s.running then s.refuse h .recipeActivate 9 0
  else if s.recipes.pending.generation = gen then
    match s.recipes.pending.status with
    | .ready _ => ({ s with recipes.pending.due := some run } : State).askPoint
    | .invalid n => s.refuse h .recipeActivate 2 n
    | .loading => s.refuse h .recipeActivate 1 s.recipes.pending.generation
  else s.refuse h .recipeActivate 1 s.recipes.pending.generation

/-- RECIPE_ACTIVATE (R25, R26). -/
def execRecipeActivate (h : Hdr) (gen run : Nat) (p : Pins) (s : State) : Host.Outcome State Fault Refusal :=
  request s h p fun t => t.activate h gen run

/-! ### Tallies -/

/-- TALLY_SNAPSHOT (R197). -/
def execTallySnapshot (h : Hdr) (mode : Nat) (p : Pins) (s : State) : Host.Outcome State Fault Refusal :=
  request s h p fun t =>
    if mode = 1 then t.snapshot false
    else if mode = 2 then t.snapshot true
    else t.refuse h .tallySnapshot 3 mode

/-- TALLY_READ (R197). -/
def execTallyRead (h : Hdr) (p : Pins) (s : State) : Host.Outcome State Fault Refusal :=
  request s h p fun t => t.reply .tallyRead (t.tallyFrames h.sender)

/-! ### The log -/

/-- PULL READ's tests (R159). -/
def State.pullRead (s : State) (h : Hdr) (first count : Nat) : State :=
  if !s.running then s.refuse h .pullRead 9 0
  else if !s.log.present then s.refuse h .pullRead 7 0
  else if count = 0 then s.refuse h .pullRead 3 0
  else match s.log.service with
    | some v => s.refuse h .pullRead 6 v.first
    | none => ({ s with log.service := some ⟨first, min count 8, .waiting⟩ } : State).askPort

/-- PULL_READ (R159). -/
def execPullRead (h : Hdr) (first count : Nat) (p : Pins) (s : State) : Host.Outcome State Fault Refusal :=
  request s h p fun t => t.pullRead h first count

/-- COLLECTED's tests and its effect (R158). -/
def State.collect (s : State) (h : Hdr) (first last : Nat) : State :=
  let upTo := min last s.log.newest
  if !s.running then s.refuse h .collected 9 0
  else if !s.log.present then s.refuse h .collected 7 0
  else if first = 0 ∨ last < first then s.refuse h .collected 3 first
  else if s.log.spanEnd + 1 < first then s.refuse h .collected 4 s.log.spanEnd
  else if upTo ≤ s.log.spanEnd then s
  else if Config.writePlaces ≤ s.log.queue.length then s.refuse h .collected 6 upTo
  else ({ s with log.spanEnd := upTo, log.queue := s.log.queue ++ [.mark upTo] } : State).askPort

/-- COLLECTED (R158). -/
def execCollected (h : Hdr) (first last : Nat) (p : Pins) (s : State) : Host.Outcome State Fault Refusal :=
  request s h p fun t => t.collect h first last

/-! ### Magazines -/

/-- SKIP SLOTS' tests and its effect (R125, R126). -/
def State.skipSlots (s : State) (h : Hdr) (first last : Nat) : State :=
  if !s.isFirst then s.refuse h .skipSlots 8 s.stn
  else if !s.running then s.refuse h .skipSlots 9 0
  else if first = 0 ∨ Config.slots < first then s.refuse h .skipSlots 3 first
  else if last < first then s.refuse h .skipSlots 3 last
  else match s.inMag.skip (first, min last Config.slots) with
    | none => s.refuse h .skipSlots 5 4
    | some m =>
      (({ s with inMag := m } : State).reply .skipSlots [⟨h.sender, .skipData, rangeBytes m.ranges⟩]).askFeed

/-- SKIP_SLOTS (R125, R126). -/
def execSkipSlots (h : Hdr) (first last : Nat) (p : Pins) (s : State) : Host.Outcome State Fault Refusal :=
  request s h p fun t => t.skipSlots h first last

/-- MAGAZINE READ's answer (R132). -/
def State.readMagazine (s : State) (h : Hdr) : State :=
  if s.isFirst then s.reply .magazineRead [s.inputMapFrame h.sender]
  else if s.isEnd then s.reply .magazineRead ([0, 1, 2, 3].map (fun i => s.outputMapFrame h.sender i))
  else s.refuse h .magazineRead 8 s.stn

/-- MAGAZINE_READ (R132). -/
def execMagazineRead (h : Hdr) (p : Pins) (s : State) : Host.Outcome State Fault Refusal :=
  request s h p fun t => t.readMagazine h

/-! ### The line interface -/

/-- ERROR_DETAIL (R194). -/
def execErrorDetail (h : Hdr) (p : Pins) (s : State) : Host.Outcome State Fault Refusal :=
  request s h p fun t => t.reply .errorDetail [t.detailFrame h.sender]

end Sys2Proof.Machine
end

