-- ==== Sys2Proof/Machine/LineFamily.lean ====
section
/-! DEFINITION. The meanings of the line's own events: sending, read-back, presence and the beacon timer (R188, R190,
R191). -/

namespace Sys2Proof.Machine

/-- The head of the queue starts (R188): one frame at a time, one in a quiet gap. -/
def State.startSend (s : State) : State :=
  match s.line.sending, s.line.txQueue with
  | none, t :: _ =>
    ({ s with line.sending := some ⟨t.frame, true⟩ } : State).issue
      (.lineSend (quietGap s.line.last s.stn) (frameBytes s.stn t.frame))
  | _, _ => s

/-- QUIET_GAP_EXPIRY (R188). -/
def execQuietGapExpiry (p : Pins) (s : State) : Host.Outcome State Fault Refusal := event s p State.startSend

/-- The frame at the head of the queue leaves it; those that wait take the place (R188, R191). -/
def State.dropHead (s : State) : State := ({ s with line.txQueue := s.line.txQueue.tail } : State).fill

/-- One more abort of the frame at the head; the third removes it as a line fault (R188). -/
def State.abortHead (s : State) : State :=
  match s.line.txQueue with
  | [] => s
  | t :: rest =>
    if 2 ≤ t.aborts then { s with line.lineFaults := bump16 s.line.lineFaults }.dropHead
    else { s with line.txQueue := { t with aborts := t.aborts + 1 } :: rest }

/-- A mismatch of the read-back (R188): the send stops and L becomes unknown. A frame that a restart has emptied from
the queue is then over, with no abort counted (R195; DEDUCED, log entry 63). -/
def State.mismatch (s : State) : State :=
  match s.line.sending with
  | none => s
  | some x =>
    let s1 := ({ s with line.sending := none, line.last := none } : State).issue .lineStop
    if x.queued then s1.abortHead else s1

/-- READBACK_MISMATCH (R188). -/
def execReadbackMismatch (p : Pins) (s : State) : Host.Outcome State Fault Refusal := event s p State.mismatch

/-- A frame has been read back whole (R188): it leaves the queue and L is this station. -/
def State.sent (s : State) : State :=
  match s.line.sending with
  | none => s
  | some x =>
    let s1 := { s with line.sending := none, line.last := some s.stn }
    if x.queued then s1.dropHead else s1

/-- FRAME_SENT (R188, R191). -/
def execFrameSent (p : Pins) (s : State) : Host.Outcome State Fault Refusal := event s p State.sent

/-- A station falls silent for 250 ms (R170, R180, R190). -/
def State.becomeAbsent (s : State) (n : Nat) : State :=
  if s.isPresent n then
    ((({ s with line.peers := s.line.peers.set (n - 1) ⟨false, none⟩ } : State).dropHold n).panelAbsent n)
  else s

/-- PRESENCE_TIMEOUT (R190). -/
def execPresenceTimeout (station : Nat) (p : Pins) (s : State) : Host.Outcome State Fault Refusal :=
  event s p fun t => if within station 1 7 ∧ station ≠ t.stn then t.becomeAbsent station else t

/-- BEACON_TIMER_EXPIRY (R191). -/
def execBeaconTimerExpiry (p : Pins) (s : State) : Host.Outcome State Fault Refusal :=
  event s p fun t => if t.line.beaconTimer.isSome then t.placeBeacon else t

end Sys2Proof.Machine
end

