-- ==== Sys2Proof/Machine/HeadFamily.lean ====
section
/-! DEFINITION. The meanings of the answers and reports that reach the head: axes, clamps, spark, transducer and wire
sensor (R37, R40 to R49, R55, R63 to R75, R83, R84). -/

namespace Sys2Proof.Machine

/-- The answer to a request of one use at an axis. -/
def State.onAxis (s : State) (a : Axis) (u : Use) (f : State → State) : State :=
  s.onAnswer (.axis a) (fun x => x == u) (fun _ t => f t)

/-- Goes on when every request of a use has been answered, in either order. -/
def State.allDone (s : State) (u : Use) (f : State → State) : State := if s.awaiting u then s else f s

/-! ### Homing (R37) -/

/-- The last answer of stage 3 ends homing; the Z answer of stage 2 begins stage 3. -/
def State.homingAnswered (s : State) : State :=
  match s.head.stage with
  | .homingZ => s.homingTable
  | .homingTable => s.allDone .homing State.endHoming
  | _ => s

/-- HOMING_MOVE_DONE (R37). -/
def execHomingMoveDone (a : Axis) (p : Pins) (s : State) : Host.Outcome State Fault Refusal :=
  event s p fun t => t.onAxis a .homing State.homingAnswered

/-! ### Positioning and touch learn (R40, R41) -/

/-- MOVE(X) and MOVE(Y) to a target. -/
def State.moveTable (s : State) (t : Int × Int) (u : Use) : State := (s.move .x t.1 u).move .y t.2 u

/-- The pad target, then the approach height, then touch learn or the ball's lowering (R40). -/
def State.positioned (s : State) : State :=
  match s.head.stage with
  | .posZ => s.withWire fun r w n => ({ s with head.stage := .posTable } : State).moveTable (r.padTarget n w) .positioning
  | .posTable => s.allDone .positioning fun t =>
      t.withWire fun r _ _ => ({ t with head.stage := .posApproach } : State).move .z r.approach .positioning
  | .posApproach => if s.head.state = .searching then s.wireStep .touchLearn else s.wireStep .ballDown
  | _ => s

/-- POSITIONING_MOVE_DONE (R40). -/
def execPositioningMoveDone (a : Axis) (p : Pins) (s : State) : Host.Outcome State Fault Refusal :=
  event s p fun t => t.onAxis a .positioning State.positioned

/-- CONTACT (R41): the surface height is learned. -/
def execContact (position : Nat) (p : Pins) (s : State) : Host.Outcome State Fault Refusal :=
  event s p fun t => t.onAxis .z .search fun u =>
    ({ u with head.surface := some position } : State).wireStep .ballDown

/-- SEARCH_LIMIT_REACHED (R41). -/
def execSearchLimitReached (p : Pins) (s : State) : Host.Outcome State Fault Refusal :=
  event s p fun t => t.onAxis .z .search fun u => u.holdFor .contactNotFound .wire

/-! ### Bonds (R42, R44) -/

/-- BALL_DOWN_DONE (R42). -/
def execBallDownDone (p : Pins) (s : State) : Host.Outcome State Fault Refusal :=
  event s p fun t => t.onAxis .z .lower fun u => u.wireStep .firstBond

/-- STITCH_DOWN_DONE (R44). -/
def execStitchDownDone (p : Pins) (s : State) : Host.Outcome State Fault Refusal :=
  event s p fun t => t.onAxis .z .stitch fun u => u.wireStep .secondBond

/-- A stuck bond joins its drift ring (R74). -/
def State.driftIf (s : State) (stuck : Bool) (r : BondReport) : State :=
  if stuck then s.addDrift r.params r.energy else s

/-- The end of a first bond at the head (R42, R70 to R72). -/
def State.endFirstBond (s : State) (r : BondReport) : State :=
  let stuck := r.pad == .stuck
  let s1 := (s.disableReq.count .firstAttempted).count
    (if !stuck then .firstNonStick else if r.flagged then .firstFlagged else .firstGood)
  let s2 := (s1.untrackedEnd).driftIf stuck r
  if stuck then s2.wireStep .looping else s2.holdFor .nonStickPad .wire

/-- The end of a second bond at the head (R44, R73): FRAME CONTACT decides whether it stuck. -/
def State.endSecondBond (s : State) (r : BondReport) : State :=
  let stuck := s.pins.frameContact
  let s1 := (s.disableReq.count .secondAttempted).count
    (if !stuck then .secondNonStick else if r.flagged then .secondFlagged else .secondGood)
  let s2 := (s1.untrackedEnd).driftIf stuck r
  if stuck then s2.wireStep .tail else s2.holdFor .nonStickLead .wire

/-- The end of the open bond (R70): it is closed with its energy, and the head takes the report. -/
def State.endBond (s : State) (q : OpenParams) (short : Bool) : State :=
  let r := s.energy.report q short
  let s1 := { s with energy := s.energy.ended s.head.wire r }
  if r.first then s1.endFirstBond r else s1.endSecondBond r

/-- A sample of the open bond (R64); a sample of no bond is ignored (R63). -/
def State.takeSample (s : State) (v i : Nat) : State :=
  match s.energy.params with
  | none => s
  | some q =>
    let s1 := { s with energy := s.energy.addSample v i }
    match endTest q.params s1.energy.sum s1.energy.count with
    | none => s1
    | some short => s1.endBond q short

/-- TRANSDUCER_SAMPLE (R64 to R75). -/
def execTransducerSample (v i : Nat) (p : Pins) (s : State) : Host.Outcome State Fault Refusal :=
  event s p fun t => t.takeSample v i

/-- LOCK (R48): the untracked run ends. -/
def execLock (p : Pins) (s : State) : Host.Outcome State Fault Refusal :=
  event s p fun t => { t with head.locked := true, head.untrackedRun := 0 }

/-- UNLOCK (R48): a bond in progress becomes untracked. -/
def execUnlock (p : Pins) (s : State) : Host.Outcome State Fault Refusal :=
  event s p fun t =>
    { t with
      head.locked := false
      head.untrackedBond := t.head.untrackedBond || t.energy.status != .closed }

/-! ### Looping, tail and clearing (R43, R45, R55) -/

/-- The loop's moves in turn (R43). -/
def State.looped (s : State) : State :=
  match s.head.stage with
  | .loopKink => s.withWire fun r w n => ({ s with head.stage := .loopReverse } : State).move .x (r.reverseX n w) .looping
  | .loopReverse => s.withWire fun r w _ =>
      ({ s with head.stage := .loopHeight } : State).move .z (zTarget s.surfaceHeight (r.profileOf w).height) .looping
  | .loopHeight => s.withWire fun r w n =>
      ({ s with head.stage := .loopLead } : State).moveTable (r.leadTarget n w) .looping
  | .loopLead => s.allDone .looping fun t => t.wireStep .stitchDown
  | _ => s

/-- LOOPING_MOVE_DONE (R43). -/
def execLoopingMoveDone (a : Axis) (p : Pins) (s : State) : Host.Outcome State Fault Refusal :=
  event s p fun t => t.onAxis a .looping State.looped

/-- A Z DONE of TAIL (R45): the clamp closes, or the wire is torn. -/
def State.tailMoved (s : State) : State :=
  match s.head.stage with
  | .tailPay => ({ s with head.stage := .tailClamp } : State).wireClampReq true .tail
  | .tailTear => s.wireStep .sparking
  | _ => s

/-- TAIL_MOVE_DONE (R45, R55): the last one of a clearing ends it. -/
def execTailMoveDone (p : Pins) (s : State) : Host.Outcome State Fault Refusal :=
  event s p fun t => t.onAnswer (.axis .z) (fun u => u == .tail || u == .clearing) fun u v =>
    if u = .clearing then v.endClearing else v.tailMoved

/-- The wire clamp's DONE, by what it was asked for (R37, R43, R45, R55, R83). -/
def State.clamped (s : State) (u : Use) : State :=
  match u with
  | .homing => (s.enter .homing .homingZ).move .z 0 .homing
  | .looping => s.withWire fun r w _ =>
      ({ s with head.stage := .loopKink } : State).move .z (zTarget s.surfaceHeight (r.profileOf w).kink) .looping
  | .tail => ({ s with head.stage := .tailTear } : State).move .z 0 .tail
  | .clearing => ({ s with head.stage := .clearTear } : State).move .z 0 .clearing
  | .conditioning => ({ s with head.stage := .condFire } : State).request
      (.fire s.head.cycleSpark.1 s.head.cycleSpark.2) .spark .fire
  | _ => s

/-- WIRE_CLAMP_DONE. -/
def execWireClampDone (p : Pins) (s : State) : Host.Outcome State Fault Refusal :=
  event s p fun t => t.onAnswer .wireClamp (fun _ => true) fun u v => v.clamped u

/-- STRIP_CLAMP_DONE (R91): no window state changes. -/
def execStripClampDone (p : Pins) (s : State) : Host.Outcome State Fault Refusal :=
  event s p fun t => t.onAnswer .stripClamp (fun _ => true) fun _ v => v

/-! ### Conditioning and sparks (R45, R46, R83, R84) -/

/-- The cycle's moves in turn (R83). -/
def State.conditioned (s : State) : State :=
  match s.head.stage with
  | .condZ => ({ s with head.stage := .condTable } : State).moveTable (0, 0) .conditioning
  | .condTable => s.allDone .conditioning fun t =>
      ({ t with head.stage := .condClamp } : State).wireClampReq true .conditioning
  | _ => s

/-- CONDITIONING_MOVE_DONE (R83). -/
def execConditioningMoveDone (a : Axis) (p : Pins) (s : State) : Host.Outcome State Fault Refusal :=
  event s p fun t => t.onAxis a .conditioning State.conditioned

/-- A spark of a cycle (R83): the fourth credits it and ends it. -/
def State.cycleSparked (s : State) : State :=
  if 3 ≤ s.head.sparks then ({ s with head.sparks := 4 } : State).creditCycle.endCycle s.head.occasion
  else ({ s with head.sparks := s.head.sparks + 1 } : State).request
    (.fire s.head.cycleSpark.1 s.head.cycleSpark.2) .spark .fire

/-- SPARK_OK (R46, R83): a wire completes, or a spark of a cycle counts. -/
def execSparkOk (p : Pins) (s : State) : Host.Outcome State Fault Refusal :=
  event s p fun t => t.onAnswer .spark (fun _ => true) fun _ v =>
    if v.head.state = .conditioning then v.cycleSparked else v.completeWire

/-- SPARK_OPEN (R45, R84): NO BALL, or CONDITIONING FAULT in a cycle. -/
def execSparkOpen (p : Pins) (s : State) : Host.Outcome State Fault Refusal :=
  event s p fun t => t.onAnswer .spark (fun _ => true) fun _ v =>
    if v.head.state = .conditioning then v.holdFor .conditioningFault (.cycle v.head.occasion)
    else v.holdFor .noBall .refire

/-! ### Faults and the wire sensor (R47, R49) -/

/-- A FAULT of X, Y, Z or H: a drive fault, unless it answers a request whose answer is ignored: one made before an earlier
fault or a restart (R49, R60), or the hook's rise once its break has been found (R140 against R144). DEDUCED, log entry
37. -/
def State.axisFault (s : State) (a : Axis) : State :=
  match takeAnswer (.axis a) (fun _ => true) s.due with
  | some (d, rest) => if d.live then ({ s with due := rest } : State).takeDriveFault else { s with due := rest }
  | none => s.takeDriveFault

/-- The axes whose FAULT is a drive fault (R49). -/
def isHeadAxis : Axis → Bool
  | .x | .y | .z | .h => true
  | _ => false

/-- DRIVE_FAULT (R49). -/
def execDriveFault (a : Axis) (p : Pins) (s : State) : Host.Outcome State Fault Refusal :=
  event s p fun t => if isHeadAxis a then t.axisFault a else t

/-- WIRE_PRESENT_FALLS (R47): the latch is set whatever the head state. -/
def execWirePresentFalls (p : Pins) (s : State) : Host.Outcome State Fault Refusal :=
  event s p fun t => { t with head.wireOut := true }

end Sys2Proof.Machine
end

