-- ==== Sys2Proof/Machine/WindowFamily.lean ====
section
/-! DEFINITION. The meanings of the window's sensors, timers and belt (R103 to R109, R112, R113, R115, R119, R122,
R130, R131). -/

namespace Sys2Proof.Machine

/-- A search given up by an untaken arrival or a removal (R119): the elevator's answer is ignored. -/
def State.giveUpSearch (s : State) : State := (s.ignoreDue (fun d => d.use == .feedSearch)).feedIdle

/-- STRIP IN rises at station 1 while INBOUND for a feed (R120, R122). -/
def State.fedStripIn (s : State) : State :=
  match s.inMag.feed with
  | .pushing => s.feedArrival false
  | .jammed => s.lateArrival
  | _ => s.clampInbound

/-- STRIP IN rises (R103, R107, R109, R112, R119, R122). -/
def State.stripIn (s : State) : State :=
  if s.alarmOpen .transferJam then s
  else match s.window.state with
    | .empty => if s.inMag.feed = .searching then s.giveUpSearch.clampUnknown else s.clampUnknown
    | .inbound => if s.isFirst then s.fedStripIn else s.clampInbound
    | _ => s

/-- STRIP_IN_RISES (R103, R109, R112, R115). -/
def execStripInRises (p : Pins) (s : State) : Host.Outcome State Fault Refusal :=
  event s p fun t => t.whenRunning State.stripIn

/-- STRIP OUT clears (R104, R107, R109, R130). -/
def State.stripOutClear (s : State) : State :=
  if s.alarmOpen .transferJam ∨ s.window.state ≠ .outbound then s
  else if s.isEnd then
    if s.outMag.unloader = .unloading then
      let s1 := { s with outMag.leftWindow := true }
      if s1.pins.slotSense then s1.fillSlot else s1
    else s
  else (s.count .stripsPassed).giveUpRecord

/-- STRIP_OUT_CLEARS (R104, R130). -/
def execStripOutClears (p : Pins) (s : State) : Host.Outcome State Fault Refusal :=
  event s p fun t => t.whenRunning State.stripOutClear

/-- OFFER_TIMER_EXPIRY (R101). -/
def execOfferTimerExpiry (p : Pins) (s : State) : Host.Outcome State Fault Refusal :=
  event s p fun t =>
    if t.window.offerTimer.isSome ∧ t.window.state = .offered then t.endOffer else t

/-- Is a waiting TAKE. -/
def Owner.isTake : Owner → Bool
  | .take _ => true
  | _ => false

/-- The arrival timer has expired (R105): the silent withdrawal, or TRANSFER JAM with a record held. -/
def State.arrivalExpired (s : State) : State :=
  match s.window.inbound with
  | none =>
    ({ s.withdraw Owner.isTake with line.withdrawn := bump16 s.line.withdrawn } : State).emptyWindow
  | some _ => s.jamWindow

/-- ARRIVAL_TIMER_EXPIRY (R105). -/
def execArrivalTimerExpiry (p : Pins) (s : State) : Host.Outcome State Fault Refusal :=
  event s p fun t =>
    if t.window.arrivalTimer.isSome ∧ t.window.state = .inbound then t.arrivalExpired else t

/-- EXIT_TIMER_EXPIRY (R106). -/
def execExitTimerExpiry (p : Pins) (s : State) : Host.Outcome State Fault Refusal :=
  event s p fun t =>
    if t.window.exitTimer.isSome ∧ t.window.state = .outbound then t.jamWindow else t

/-- BELT_DONE (R91, R104, R130): noted, no state changes. -/
def execBeltDone (p : Pins) (s : State) : Host.Outcome State Fault Refusal :=
  event s p fun t => t.onAxis .b .belt fun u => u

/-- A belt FAULT answering MOVE(B, OUT) while the strip is leaving (R106, R131). -/
def State.beltFaulted (s : State) : State :=
  if s.window.state = .outbound ∧ (s.isEnd = false ∨ s.outMag.unloader = .unloading) then s.jamWindow else s

/-- BELT_FAULT (R106, R131). -/
def execBeltFault (p : Pins) (s : State) : Host.Outcome State Fault Refusal :=
  event s p fun t => t.onAxis .b .belt State.beltFaulted

end Sys2Proof.Machine
end

