-- ==== Sys2Proof/Machine/MagFamily.lean ====
section
/-! DEFINITION. The meanings of the magazines' sensors, timers and answers (R118 to R123, R128, R130, R131, R133). -/

namespace Sys2Proof.Machine

/-! ### The input magazine -/

/-- INPUT_MAG_INSERTED (R118); not acted on while STARTING. -/
def execInputMagInserted (p : Pins) (s : State) : Host.Outcome State Fault Refusal :=
  event s p fun t => if t.isFirst then t.whenRunning State.insertInput else t

/-- The input magazine is removed (R118, R119, R121): a search is given up, a push is jammed. -/
def State.removeInput (s : State) : State :=
  let s1 := { s with inMag.current := false }
  match s.inMag.feed with
  | .searching => s1.giveUpSearch
  | .pushing => s1.jamFeed
  | _ => s1

/-- INPUT_MAG_REMOVED (R118, R119, R121). -/
def execInputMagRemoved (p : Pins) (s : State) : Host.Outcome State Fault Refusal :=
  event s p fun t => if t.isFirst then t.whenRunning State.removeInput else t

/-- The elevator stands at the slot being searched (R119). -/
def State.searched (s : State) : State :=
  match s.inMag.feed, s.inMag.feedSlot with
  | .searching, some n =>
    if s.inMag.slot n = .skip then s.searchFrom (n + 1)
    else if s.pins.slotSense then (s.onInMag (fun m => m.setSlot n .loaded)).startPush
    else (s.onInMag (fun m => m.setSlot n .empty)).searchFrom (n + 1)
  | _, _ => s

/-- The elevator stands at the slot RETRY tries again (R123); a slot that has become SKIP keeps that state. A push begins
only into a window that no other strip has taken meanwhile, EMPTY or INBOUND (R112; DEDUCED, log entry 51). -/
def State.retried (s : State) : State :=
  match s.inMag.retrying, s.inMag.feedSlot with
  | true, some n =>
    let s1 := s.onInMag (fun m => { m with retrying := false })
    let mark := fun (x : InSlot) => if s.inMag.slot n = .skip then s1 else s1.onInMag (fun m => m.setSlot n x)
    if s.pins.slotSense then
      (if s.window.state = .empty ∨ s.window.state = .inbound then (mark .loaded).startPush else (mark .loaded).giveUpFeed)
    else (mark .empty).giveUpFeed
  | _, _ => s

/-- FEED_TIMER_EXPIRY (R121). -/
def execFeedTimerExpiry (p : Pins) (s : State) : Host.Outcome State Fault Refusal :=
  event s p fun t => if t.inMag.feedTimer.isSome ∧ t.inMag.feed = .pushing then t.jamFeed else t

/-- The push has been answered (R120): noted, and a strip already arrived lets the retract be requested. A fault that
comes after the arrival is such an answer too (log entry 21). -/
def State.pushAnswered (s : State) : State :=
  if s.inMag.feed = .retracting ∧ s.inMag.retractJam = false ∧ s.awaiting .retract = false then s.retract else s

/-- The retract has been answered DONE (R120, R123, R133). -/
def State.retracted (s : State) : State :=
  match s.inMag.feed, s.inMag.waiting with
  | .retracting, _ => s.feedIdle
  | .jammed, some c => s.carryFeedChoice c
  | _, _ => s

/-- PUSHER_DONE (R120, R123). -/
def execPusherDone (p : Pins) (s : State) : Host.Outcome State Fault Refusal :=
  event s p fun t => t.onAnswer (.axis .p) (fun _ => true) fun u v =>
    if u = .push then v.pushAnswered else v.retracted

/-- A P FAULT answering the push (R121). -/
def State.pushFaulted (s : State) : State := if s.inMag.feed = .pushing then s.jamFeed else s.pushAnswered

/-- A P FAULT answering the retract (R120, R123, R133). -/
def State.retractFaulted (s : State) : State :=
  match s.inMag.feed, s.inMag.waiting with
  | .retracting, _ => s.jamRetract
  | .jammed, some c => s.carryFeedChoice c
  | _, _ => s

/-- PUSHER_FAULT (R116, R120, R121, R123). -/
def execPusherFault (p : Pins) (s : State) : Host.Outcome State Fault Refusal :=
  event s p fun t => t.onAnswer (.axis .p) (fun _ => true) fun u v =>
    if u = .push then v.pushFaulted else v.retractFaulted

/-! ### The output magazine -/

/-- An output magazine is inserted (R128, R131): it is counted, and its scan waits while a jam holds an unload. -/
def State.outputInserted (s : State) : State :=
  if s.outMag.unloader = .unloading then { s.countOutput with outMag.lateInsertion := true } else s.insertOutput

/-- OUTPUT_MAG_INSERTED (R128, R131). -/
def execOutputMagInserted (p : Pins) (s : State) : Host.Outcome State Fault Refusal :=
  event s p fun t => if t.isEnd then t.whenRunning State.outputInserted else t

/-- An output magazine is removed (R128, R131): an unload is jammed, a scan given up. -/
def State.outputRemoved (s : State) : State :=
  let s1 := { s with outMag.current := false, outMag.lateInsertion := false }
  if s.outMag.unloader = .unloading then s1.jamWindow
  else { s1.ignoreDue (fun d => d.use == .outScan) with outMag := s1.outMag.becomeAbsent }

/-- OUTPUT_MAG_REMOVED (R128, R131). -/
def execOutputMagRemoved (p : Pins) (s : State) : Host.Outcome State Fault Refusal :=
  event s p fun t => if t.isEnd then t.whenRunning State.outputRemoved else t

/-- The elevator stands at the slot being scanned (R128). -/
def State.scanned (s : State) : State :=
  match s.outMag.unloader, s.outMag.target with
  | .scanning, some n =>
    ({ s with outMag := s.outMag.setSlot n (if s.pins.slotSense then .sensedFull else .empty) } : State).scanSlot (n + 1)
  | _, _ => s

/-- The elevator stands at the target slot (R130): the strip clamp opens, the belt runs, the unload timer starts. A
jam holds the window meanwhile (R131). -/
def State.unloadReady (s : State) : State :=
  if s.outMag.unloader = .unloading ∧ s.alarmOpen .transferJam = false then
    { ((s.stripClampReq false).beltOut) with outMag.unloadTimer := some Config.unloadMs }
  else s

/-- SLOT_SENSE_RISES (R130). -/
def execSlotSenseRises (p : Pins) (s : State) : Host.Outcome State Fault Refusal :=
  event s p fun t =>
    if t.isEnd ∧ t.outMag.unloader = .unloading ∧ t.outMag.leftWindow = true ∧ t.alarmOpen .transferJam = false
    then t.fillSlot else t

/-- UNLOAD_TIMER_EXPIRY (R131). -/
def execUnloadTimerExpiry (p : Pins) (s : State) : Host.Outcome State Fault Refusal :=
  event s p fun t => if t.outMag.unloadTimer.isSome ∧ t.outMag.unloader = .unloading then t.jamWindow else t

/-! ### The elevator of either -/

/-- The elevator's DONE, by what it was asked for. -/
def State.elevated (s : State) (u : Use) : State :=
  match u with
  | .homing => s.homingAnswered
  | .feedSearch => s.searched
  | .feedRetry => s.retried
  | .outScan => s.scanned
  | .unloadMove => s.unloadReady
  | _ => s

/-- ELEVATOR_DONE (R119, R123, R128, R130). -/
def execElevatorDone (p : Pins) (s : State) : Host.Outcome State Fault Refusal :=
  event s p fun t => t.onAnswer (.axis .e) (fun _ => true) fun u v => v.elevated u

/-- The elevator's FAULT, by what it was asked for: start-up's homing takes it as the answer (R37), a search or retry
raises FEED JAM (R119, R123), a scan ends (R128), an unload raises TRANSFER JAM (R131). -/
def State.elevatorFaulted (s : State) (u : Use) : State :=
  match u with
  | .homing => s.homingAnswered
  | .feedSearch | .feedRetry => s.jamFeed
  | .outScan => if s.outMag.unloader = .scanning then s.endScan else s
  | .unloadMove => if s.outMag.unloader = .unloading then s.jamWindow else s
  | _ => s

/-- ELEVATOR_FAULT (R37, R116, R119, R123, R128, R131). -/
def execElevatorFault (p : Pins) (s : State) : Host.Outcome State Fault Refusal :=
  event s p fun t => t.onAnswer (.axis .e) (fun _ => true) fun u v => v.elevatorFaulted u

end Sys2Proof.Machine
end

