-- ==== Sys2Proof/Machine/PullFamily.lean ====
section
/-! DEFINITION. The meanings of the hook's and the force port's reports and of the record port's answers (R138 to R142,
R153 to R162). -/

namespace Sys2Proof.Machine

/-! ### The pull cycle -/

/-- The plan wire reached. -/
def Sample.wire (m : Sample) : Nat := m.plan.wires.getD m.index 0

/-- The wire table entry of the plan wire reached, in the strip's set. -/
def State.planEntry (s : State) (m : Sample) : Option WireEntry :=
  match s.stripSet with
  | some r => if m.wire = 0 then none else r.wireTable[m.wire - 1]?
  | none => none

/-- The hook rise begins (R138): filter, k, peak and arming afresh, and the wire counts as stressed. -/
def State.startRise (s : State) (m : Sample) : State :=
  ({ (s.onSample (fun m => { m with stressed := m.stressed + 1 })) with
    head.stage := .idle
    pull.phase := .rising
    pull.ring := []
    pull.k := 0
    pull.peak := 0
    pull.armed := false } : State).move .h m.plan.travel .rise (.speed m.plan.speed)

/-- The plan wire's moves in turn (R138). -/
def State.pullPositioned (s : State) : State :=
  match s.pull.sample with
  | none => s
  | some m =>
    match s.head.stage with
    | .posZ => s.allDone .pullMove fun t =>
        match t.stripSet, t.planEntry m with
        | some r, some w => ({ t with head.stage := .posTable } : State).moveTable (r.midTarget m.unit w) .pullMove
        | _, _ => t
    | .posTable => s.allDone .pullMove fun t => t.startRise m
    | _ => s

/-- PULL_POSITIONING_DONE (R138). -/
def execPullPositioningDone (a : Axis) (p : Pins) (s : State) : Host.Outcome State Fault Refusal :=
  event s p fun t => t.onAxis a .pullMove State.pullPositioned

/-- The reference after this one (R141); one that an old OPEN entry still has is given again (DESIGN CHOICE, log entry
53). -/
def nextRef (n : Nat) : Nat := if 255 ≤ n then 1 else n + 1

/-- The energies of a wire of the unit in the per-strip energy table (R78). -/
def Energy.ofWire (e : Energy) (unit wire : Nat) : Option Nat × Option Nat :=
  match e.table with
  | some row => if row.unit = unit ∧ wire ≠ 0 then row.wires.getD (wire - 1) (none, none) else (none, none)
  | none => (none, none)

/-- The record of the wire whose rise has ended (R141). -/
def State.pullRecord (s : State) (m : Sample) (height : Nat) (v : Verdict) : PullRecord where
  ref := s.pull.refCounter
  run := match s.window.record with | some r => r.run | none => 0
  generation := match s.window.record with | some r => r.generation | none => 0
  station := s.stn
  serial := s.windowSerial
  unit := m.unit
  wire := m.wire
  peak := s.pull.peak
  specMin := m.plan.specMin
  height := height
  verdict := v
  mode := .absent
  first := (s.energy.ofWire m.unit m.wire).1
  second := (s.energy.ofWire m.unit m.wire).2

/-- A rise ends (R140, R141): the record is assembled and joins the list, OPEN, or CLOSED for NO BREAK, which goes on
to the write queue if that has room; MOVE(H, 0) is requested. -/
def State.endRise (s : State) (m : Sample) (height : Nat) (v : Verdict) : State :=
  let r := s.pullRecord m height v
  let s1 := (s.count .pullsMade).countIf (v == .low) .pullsLow
  (({ s1 with
    pull.phase := .returning
    pull.refCounter := nextRef s.pull.refCounter
    pull.list := s.pull.list ++ [⟨r, v == .noBreak⟩] } : State).offerPlaces).move .h 0 .hookReturn

/-- A sample joins the force filter ring (R139 step 1). -/
def pushForce (ring : List Nat) (f : Nat) : List Nat := (ring ++ [f]).drop (ring.length + 1 - 8)

/-- The filtered force (R139 step 2). -/
def filtered (ring : List Nat) : Nat := ring.sum / ring.length

/-- The pull controller after a force sample, and whether the sample is the break (R139). -/
def Pull.addForce (q : Pull) (arm f : Nat) : Pull × Bool :=
  let ring := pushForce q.ring f
  let peak := max q.peak (filtered ring)
  let armed := q.armed || arm ≤ peak
  ({ q with k := q.k + 1, ring := ring, peak := peak, armed := armed }, armed && filtered ring < peak / 2)

/-- The hook height at the break (R140). -/
def breakHeight (k speed travel : Nat) : Nat := min (k * speed / 10000) travel

/-- A force sample (R139); one that comes while not RISING is ignored (R138, R140). -/
def State.takeForce (s : State) (f : Nat) : State :=
  match s.pull.sample with
  | none => s
  | some m =>
    if s.head.state = .pulling ∧ s.pull.phase = .rising then
      let r := s.pull.addForce m.plan.armForce f
      let s1 := { s with pull := r.1 }
      if r.2 then
        (s1.ignoreDue (fun d => d.use == .rise)).endRise m (breakHeight r.1.k m.plan.speed m.plan.travel)
          (if m.plan.specMin ≤ r.1.peak then .pass else .low)
      else s1
    else s

/-- FORCE_SAMPLE (R139 to R141). -/
def execForceSample (f : Nat) (p : Pins) (s : State) : Host.Outcome State Fault Refusal :=
  event s p fun t => t.takeForce f

/-- The travel limit is reached without a break (R140). -/
def State.riseDone (s : State) : State :=
  match s.pull.sample with
  | none => s
  | some m => if s.pull.phase = .rising then s.endRise m m.plan.travel .noBreak else s

/-- HOOK_RISE_DONE (R140). -/
def execHookRiseDone (p : Pins) (s : State) : Host.Outcome State Fault Refusal :=
  event s p fun t => t.onAxis .h .rise State.riseDone

/-- HOOK_RETURN_DONE (R140, R142). -/
def execHookReturnDone (p : Pins) (s : State) : Host.Outcome State Fault Refusal :=
  event s p fun t => t.onAxis .h .hookReturn State.nextPlanWire

/-! ### The record port -/

/-- A completion of the record port: an operation in progress runs to its completion under the duplicate-station fault
too, where nothing further starts (R163). -/
def portEvent (s : State) (p : Pins) (f : State → State) : Host.Outcome State Fault Refusal :=
  answer (s.perform p (fun t => if t.phase = .strapFault then t else f t))

/-- The write position after an entry's write (R153, R154): the next slot, or the next block is needed. -/
def State.advancePos (s : State) : State :=
  match s.log.pos with
  | .slot b n => if 127 ≤ n then s.needBlock (nextBlock b) else { s with log.pos := .slot b (n + 1) }
  | _ => s

/-- An entry's write has completed (R153): it leaves the queue, a PULL entry takes the next number. -/
def State.entryWritten (s : State) (e : LogEntry) : State :=
  let s1 := ({ s with
    log.op := .none
    log.queue := s.log.queue.tail
    log.newest := match e with | .record _ => s.log.newest + 1 | .mark _ => s.log.newest } : State).advancePos
  ((if s1.log.exhausted && !s1.log.full then s1.setFull else s1).offerPlaces).askPort

/-- ENTRY_WRITE_DONE (R153, R156). -/
def execEntryWriteDone (p : Pins) (s : State) : Host.Outcome State Fault Refusal :=
  portEvent s p fun t => match t.log.op with | .entryWrite e => t.entryWritten e | _ => t

/-- A header's write has completed (R154): the block is the write block, and the write position its slot 1. Numbers past
32 bits stay as they are in the picture of the store, and its slot holds them modulo 2³² (DESIGN CHOICE, log entry
54). -/
def State.headerWritten (s : State) (b : Nat) : State :=
  ({ s with
    log.op := .none
    log.headers := s.log.headers.set b (some (s.log.writeSeq + 1, s.log.newest + 1))
    log.ahead := s.log.ahead.filter (fun x => x != b)
    log.pos := .slot b 1 } : State).askPort

/-- HEADER_WRITE_DONE (R154). -/
def execHeaderWriteDone (p : Pins) (s : State) : Host.Outcome State Fault Refusal :=
  portEvent s p fun t => match t.log.op with | .headerWrite b => t.headerWritten b | _ => t

/-- FULL clears when the needed block has been erased, but for the last record number's (R156). -/
def State.clearFull (s : State) : State :=
  if s.log.full && !s.log.exhausted then ({ s with log.full := false } : State).clearAlarm .logFull |>.offerPlaces else s

/-- An erase has completed (R155, R156): the block is not written and stands erased ahead; the needed block is entered,
and FULL clears. -/
def State.erased (s : State) (b : Nat) : State :=
  let s1 := ({ s with
    log.op := .none
    log.headers := s.log.headers.set b none
    log.ahead := s.log.ahead ++ [b] } : State).askPort
  if s.log.pos = .need b then ({ s1 with log.pos := .entering b } : State).clearFull else s1

/-- ERASE_DONE (R155, R156). -/
def execEraseDone (p : Pins) (s : State) : Host.Outcome State Fault Refusal :=
  portEvent s p fun t => match t.log.op with | .erase b => t.erased b | _ => t

/-- A slot read of the read in service has completed (R160): the read goes on or is answered. A read dropped by a
restart goes nowhere (R163). -/
def State.slotRead (s : State) (b n : Nat) (bytes : List Byte) : State :=
  let s1 := ({ s with log.op := .none } : State).askPort
  match s.log.service with
  | some v =>
    match v.phase with
    | .reading r =>
      if r.block = b ∧ r.slot = n then
        let r1 := r.take s.log bytes
        if r1.last < r1.next then s1.answerRead r1 else { s1 with log.service := some { v with phase := .reading r1 } }
      else s1
    | _ => s1
  | none => s1

/-- PULL_READ_SLOT_DONE (R160); under the duplicate-station fault the read is over and nothing is answered (R163). -/
def execPullReadSlotDone (bytes : List Byte) (p : Pins) (s : State) : Host.Outcome State Fault Refusal :=
  portEvent s p fun t => match t.log.op with
    | .read b n => if t.dup then { t with log.op := .none } else t.slotRead b n bytes
    | _ => t

/-! ### The start-up scan -/

/-- SCAN_READ_DONE (R161, R162). -/
def execScanReadDone (a : StoreAnswer) (p : Pins) (s : State) : Host.Outcome State Fault Refusal :=
  event s p fun t => if t.phase = .scanning then t.scanAnswer a else t

/-- STORE_ANSWER_TIMEOUT (R161): only the first header read can time out. -/
def execStoreAnswerTimeout (p : Pins) (s : State) : Host.Outcome State Fault Refusal :=
  event s p fun t => if t.phase = .scanning ∧ t.log.scan = .header 0 then t.noStore else t

end Sys2Proof.Machine
end

