-- ==== Sys2Proof/Machine/PanelOps.lean ====
section
/-! DEFINITION. The keys of the operator panel: acceptance, the overlay, the screens and what they send (R171, R176 to
R179, R181, R182). -/

namespace Sys2Proof.Machine

/-- A refused key sounds a short buzz (R176). -/
def State.buzz (s : State) : State := s.issue (.buzz false)

/-- A change of the panel that leaves its alarm list as it is. -/
def State.onPanel (s : State) (f : Panel → Panel) : State := { s with panel := f s.panel }

/-! ### Sending (R179) -/

/-- Is the panel's outgoing frame. -/
def Owner.isPanel : Owner → Bool
  | .panel => true
  | _ => false

/-- A frame of the panel waits for room: no further one is sent (R179). -/
def State.outgoingWaits (s : State) : Bool := s.waitingOf Owner.isPanel != 0

/-- What the operator sends goes to this station's own block, or as a frame to another station; a send that the waiting
outgoing frame holds back is refused (R179). `done` is the panel's change at the send, made before it. -/
def State.sendTo (s : State) (station : Nat) (done : State → State) (own : State → State) (f : Frame) : State :=
  if station = s.stn then own (done s)
  else if s.outgoingWaits then s.buzz
  else (done s).submit .panel f

/-! ### The own hold (R171) -/

/-- The HOLD key toggles the own hold: the set changes, HOLD or RELEASE and a beacon are queued. What the set's filling
or emptying queues comes before the HOLD or RELEASE frame (R171 is silent; DEDUCED, log entry 39). -/
def State.toggleHold (s : State) : State :=
  if s.ownHold then
    ((s.dropHold s.stn).submit .hold ⟨0, .release, [byteOf s.stn]⟩).queueBeacon
  else ((s.addHold s.stn).submit .hold ⟨0, .hold, [byteOf s.stn]⟩).queueBeacon

/-! ### The overlay (R181) -/

/-- The entry shown. -/
def Panel.shownEntry (q : Panel) : Option PanelEntry :=
  q.list.find? (fun e => e.state == .opened && q.shown == some (e.station, e.seq))

/-- The OPEN entry after the shown one, in list order. -/
def nextOpen (station seq : Nat) : List PanelEntry → Option PanelEntry
  | [] => none
  | e :: es =>
    if e.isId station seq then es.find? (fun x => x.state == .opened) else nextOpen station seq es

/-- The overlay moves to another OPEN entry, or the key is refused at the end of the list. -/
def State.overlayMove (s : State) (up : Bool) : State :=
  match s.panel.shown with
  | some (st, q) =>
    match nextOpen st q (if up then s.panel.list.reverse else s.panel.list) with
    | some e => s.onPanel (fun p => { p with shown := some (e.station, e.seq), buffer := .empty })
    | none => s.buzz
  | none => s.buzz

/-- A digit on the overlay: a choice valid for the shown kind. -/
def State.overlayDigit (s : State) (d : Nat) : State :=
  match s.panel.shownEntry, Choice.ofDigit d with
  | some e, some c =>
    if e.kind.choices.contains c then s.onPanel (fun p => { p with buffer := .choice e.station e.seq c }) else s.buzz
  | _, _ => s.buzz

/-- An entry is changed where its id is this one. -/
def Panel.markEntry (q : Panel) (station seq : Nat) (f : PanelEntry → PanelEntry) : Panel :=
  { q with list := q.list.map (fun e => if e.isId station seq then f e else e) }

/-- The entry of a response sent is SENT with its send timer, and the overlay moves on. -/
def State.markSent (s : State) (station seq : Nat) : State :=
  s.panelChange { s.panel.markEntry station seq
    (fun e => { e with state := .sent, sendTimer := some Config.sendMs }) with buffer := .empty }

/-- A RESPONSE frame (R186). -/
def responseFrame (station seq : Nat) (c : Choice) : Frame :=
  ⟨station, .response, [byteOf station, byteOf seq, byteOf c.code]⟩

/-- ENTER on the overlay sends the choice held. -/
def State.overlayEnter (s : State) : State :=
  match s.panel.buffer with
  | .choice st q c =>
    s.sendTo st (fun t => t.markSent st q) (fun t => t.respond st q c t.stn) (responseFrame st q c)
  | _ => s.buzz

/-- BACK on the overlay defers every OPEN entry for 30 s. -/
def State.overlayBack (s : State) : State :=
  s.panelChange { s.panel with
    list := s.panel.list.map (fun e => if e.state = .opened then { e with state := .deferred } else e)
    deferTimer := some Config.deferMs }

/-- A key on the overlay. -/
def State.overlayKey (s : State) (k : Key) : State :=
  match k with
  | .up => s.overlayMove true
  | .down => s.overlayMove false
  | .digit d => s.overlayDigit d
  | .enter => s.overlayEnter
  | .back => s.overlayBack
  | _ => s.buzz

/-! ### The screen stack (R177) -/

/-- A push; one that would make the stack 7 deep is refused (R177). A push clears the entry buffer (R178). -/
def State.pushScreen (s : State) (x : Screen) : State :=
  if s.panel.stack.length < Config.stackPlaces then
    s.onPanel (fun p => { p with
      stack := p.stack ++ [x]
      buffer := .empty
      scroll := 0
      gradeLine := if x = .grade then none else p.gradeLine })
  else s.buzz

/-- BACK: a menu action is cancelled first, and MENU stays until the next BACK (DEDUCED, log entry 66); HOME is not popped
(R177, R178). -/
def State.popScreen (s : State) : State :=
  if s.panel.top = .menu ∧ s.panel.buffer ≠ .empty then s.onPanel (fun p => { p with buffer := .empty })
  else if s.panel.stack.length ≤ 1 then s.buzz
  else s.onPanel (fun p => { p with stack := p.stack.dropLast, buffer := .empty, scroll := 0 })

/-- UP or DOWN on LINE, TALLY or MAGAZINE (R177; log entry 12). -/
def State.scrollScreen (s : State) (up : Bool) : State :=
  s.onPanel (fun p => { p with scroll :=
    if up then p.scroll - 1 else min (p.scroll + 1) (Config.scrollLimit p.top.index) })

/-! ### MENU (R177, R178) -/

/-- The screen a digit on MENU names. -/
def menuScreen (d : Nat) : Option Screen :=
  match d with
  | 1 => some .line
  | 2 => some .tally
  | 3 => some .magazine
  | 4 => some .recipe
  | 5 => some .grade
  | _ => none

/-- A digit on MENU with no action in progress. -/
def State.menuItem (s : State) (d : Nat) : State :=
  match menuScreen d with
  | some x => s.pushScreen x
  | none =>
    if d = 6 then s.onPanel (fun p => { p with buffer := .bypassTarget none })
    else if d = 7 then s.onPanel (fun p => { p with buffer := .resumeTarget none })
    else if d = 8 then s.onPanel (fun p => { p with buffer := .shiftEnd })
    else s.buzz

/-- A digit on MENU (R178). -/
def State.menuDigit (s : State) (d : Nat) : State :=
  match s.panel.buffer with
  | .bypassTarget _ =>
    if within d 1 6 then s.onPanel (fun p => { p with buffer := .bypassTarget (some d) }) else s.buzz
  | .resumeTarget _ =>
    if within d 1 6 then s.onPanel (fun p => { p with buffer := .resumeTarget (some d) }) else s.buzz
  | .shiftEnd => s.buzz
  | _ => s.menuItem d

/-- The entry buffer is cleared. -/
def State.clearBuffer (s : State) : State := s.onPanel (fun p => { p with buffer := .empty })

/-- ENTER on MENU (R169, R178, R197). -/
def State.menuEnter (s : State) : State :=
  match s.panel.buffer with
  | .bypassTarget (some n) => s.sendTo n State.clearBuffer State.setBypass ⟨n, .bypass, [byteOf n]⟩
  | .resumeTarget (some n) => s.sendTo n State.clearBuffer State.clearBypass ⟨n, .resumeBonding, [byteOf n]⟩
  | .shiftEnd => s.clearBuffer.snapshot true
  | _ => s.buzz

/-! ### GRADE (R182) -/

/-- The line after the selected one. -/
def nextLine (station : Nat) : List GradeLine → Option GradeLine
  | [] => none
  | l :: ls => if l.station = station then ls.head? else nextLine station ls

/-- UP or DOWN on GRADE. -/
def State.gradeMove (s : State) (up : Bool) : State :=
  match s.selectedLine with
  | some l =>
    match nextLine l.station (if up then s.gradeLines.reverse else s.gradeLines) with
    | some x => s.onPanel (fun p => { p with gradeLine := some x.station })
    | none => s.buzz
  | none => s.buzz

/-- A digit on GRADE: the break mode, bound to the selected line as it stands. -/
def State.gradeDigit (s : State) (d : Nat) : State :=
  match s.selectedLine with
  | some l => if within d 1 6 then s.onPanel (fun p => { p with buffer := .mode l.station l.ref d }) else s.buzz
  | none => s.buzz

/-- A GRADE frame (R186). -/
def gradeFrame (station ref mode : Nat) : Frame := ⟨station, .grade, [byteOf station, byteOf ref, byteOf mode]⟩

/-- ENTER on GRADE: the mode is sent unless the selected line now shows another reference (R182); another station's line
is another one, whatever number it shows (DEDUCED, log entry 61). -/
def State.gradeEnter (s : State) : State :=
  match s.panel.buffer with
  | .mode st r m =>
    if s.selectedLine.any (fun l => l.station == st && l.ref == r) then
      s.sendTo st State.clearBuffer (fun t => t.gradeEntry r m) (gradeFrame st r m)
    else s.clearBuffer.buzz
  | _ => s.buzz

/-! ### A key on the screen, and a key accepted -/

/-- A key on the screen on top of the stack (R177). -/
def State.screenKey (s : State) (k : Key) : State :=
  match k, s.panel.top with
  | .menu, _ => s.pushScreen .menu
  | .back, _ => s.popScreen
  | .digit d, .menu => s.menuDigit d
  | .enter, .menu => s.menuEnter
  | .digit d, .grade => s.gradeDigit d
  | .enter, .grade => s.gradeEnter
  | .up, .grade => s.gradeMove true
  | .down, .grade => s.gradeMove false
  | .up, .line | .up, .tally | .up, .magazine => s.scrollScreen true
  | .down, .line | .down, .tally | .down, .magazine => s.scrollScreen false
  | _, _ => s.buzz

/-- Who takes an accepted key, by R176's order: standby, the duplicate-station fault, which has it ignored (R184), HOLD,
the overlay, the screen. -/
def State.takeKey (s : State) (k : Key) : State :=
  if s.panel.standby then s.onPanel Panel.wake
  else if s.dup then s
  else if k = .hold then s.toggleHold
  else if s.panel.overlay then s.overlayKey k
  else s.screenKey k

/-- A key is accepted (R176): the idle timer returns to zero, and the key is taken. -/
def State.acceptKey (s : State) (k : Key) : State :=
  (s.onPanel (fun p => { p with accepted := some k, idleMs := 0 })).takeKey k

/-- The acceptance itself as a command (log entry 10): the third scan showing the key down. -/
def State.pressKey (s : State) (k : Key) : State :=
  if s.hasPanel then (s.onPanel (fun p => { p with pattern := .one k, runLength := 3 })).acceptKey k else s

/-- The release of the accepted key, which clears the lockout (R176). -/
def Panel.release (q : Panel) : Panel := { q with accepted := none, lockout := false }

/-- The key scan state after a scan (R176): the run of identical scans, held at 4 (no range is given, and no rule looks
past 3: DESIGN CHOICE, log entry 70), and the lockout. -/
def Panel.scan (q : Panel) (x : Scan) : Panel :=
  { q with
    pattern := x
    runLength := if x = q.pattern then min 4 (q.runLength + 1) else 1
    lockout := q.lockout || x == .many
    idleMs := q.idleMs + Config.scanMs }

/-- A scan of the key matrix (R176, R183): acceptance, release, or time passing. -/
def State.scanKeys (s : State) (x : Scan) : State :=
  let s1 := s.onPanel (fun p => p.scan x)
  match x with
  | .one k =>
    if s1.panel.runLength = 3 ∧ s1.panel.accepted = none ∧ s1.panel.lockout = false then s1.acceptKey k
    else s1.standbyTest
  | .noKey => (if 3 ≤ s1.panel.runLength then s1.onPanel Panel.release else s1).standbyTest
  | .many => s1.standbyTest

end Sys2Proof.Machine
end

