-- ==== Sys2Proof/Machine/PanelFamily.lean ====
section
/-! DEFINITION. The meanings of the panel's keys and timers (R176 to R183). -/

namespace Sys2Proof.Machine

/-- A command of the panel: nothing at a station without one (R175). -/
def panelEvent (s : State) (p : Pins) (f : State → State) : Host.Outcome State Fault Refusal :=
  event s p fun t => if t.hasPanel then f t else t

/-- A command of the keys: the key matrix is scanned under the duplicate-station fault too, where an accepted key can only
wake the panel (R176, R184; log entry 34); with a strap fault no key acts (R184). -/
def keyEvent (s : State) (p : Pins) (f : State → State) : Host.Outcome State Fault Refusal :=
  answer (s.perform p (fun t => if t.hasPanel && t.phase != .strapFault then f t else t))

/-- KEY_SCAN (R176, R183). -/
def execKeyScan (x : Scan) (p : Pins) (s : State) : Host.Outcome State Fault Refusal :=
  keyEvent s p fun t => t.scanKeys x

/-- KEY_RELEASE (R176): the third scan showing no key down. -/
def execKeyRelease (p : Pins) (s : State) : Host.Outcome State Fault Refusal :=
  keyEvent s p fun t => t.onPanel fun q => { q.release with pattern := .noKey, runLength := 3 }

/-- HOLD_KEY (R171, R176). -/
def execHoldKey (p : Pins) (s : State) : Host.Outcome State Fault Refusal := keyEvent s p fun t => t.pressKey .hold

/-- MENU_KEY (R177, R181). -/
def execMenuKey (p : Pins) (s : State) : Host.Outcome State Fault Refusal := keyEvent s p fun t => t.pressKey .menu

/-- BACK_KEY (R177, R178, R181). -/
def execBackKey (p : Pins) (s : State) : Host.Outcome State Fault Refusal := keyEvent s p fun t => t.pressKey .back

/-- UP_KEY (R177, R181, R182). -/
def execUpKey (p : Pins) (s : State) : Host.Outcome State Fault Refusal := keyEvent s p fun t => t.pressKey .up

/-- DOWN_KEY (R177, R181, R182). -/
def execDownKey (p : Pins) (s : State) : Host.Outcome State Fault Refusal := keyEvent s p fun t => t.pressKey .down

/-- DIGIT_KEY (R177, R178, R181, R182). -/
def execDigitKey (d : Fin 10) (p : Pins) (s : State) : Host.Outcome State Fault Refusal :=
  keyEvent s p fun t => t.pressKey (.digit d)

/-- ENTER_KEY (R178, R181, R182). -/
def execEnterKey (p : Pins) (s : State) : Host.Outcome State Fault Refusal := keyEvent s p fun t => t.pressKey .enter

/-- An entry returns to OPEN, which wakes the panel (R181, R183). -/
def State.reopen (s : State) (which : PanelEntry → Bool) : State :=
  if s.panel.list.any which then
    s.panelChange { s.panel.wake with list := s.panel.list.map (fun e =>
      if which e then { e with state := .opened, sendTimer := none } else e) }
  else s

/-- SEND_TIMER_EXPIRY (R181): the entry, still listed and SENT, returns to OPEN. -/
def execSendTimerExpiry (station seq : Nat) (p : Pins) (s : State) : Host.Outcome State Fault Refusal :=
  panelEvent s p fun t => t.reopen (fun e => e.isId station seq && e.state == .sent && e.sendTimer.isSome)

/-- DEFERRAL_TIMER_EXPIRY (R181): every DEFERRED entry returns to OPEN. -/
def execDeferralTimerExpiry (p : Pins) (s : State) : Host.Outcome State Fault Refusal :=
  panelEvent s p fun t =>
    if t.panel.deferTimer.isSome then
      (t.onPanel fun q => { q with deferTimer := none }).reopen (fun e => e.state == .deferred)
    else t

/-- STANDBY (R183): the idle timer has reached the panel idle time. -/
def execStandby (p : Pins) (s : State) : Host.Outcome State Fault Refusal :=
  panelEvent s p fun t => (t.onPanel fun q => { q with idleMs := max q.idleMs t.idleLimitMs }).standbyTest

end Sys2Proof.Machine
end

