-- ==== Sys2Proof/Machine/Display.lean ====
section
/-! DEFINITION. What the display shows, as structured content: nothing of it is state (R177, R178, R181 to R184; log
entry 13). -/

namespace Sys2Proof.Machine

/-- A row of LINE: a present station's beacon, or absent (R177). -/
structure LineRow where
  station : Nat
  shown : Option BeaconView
  deriving DecidableEq, Repr

/-- HOME (R177). -/
structure HomeView where
  station : Nat
  stationCode : Nat
  window : WindowState
  serial : Nat
  oNow : Nat
  doneHere : Nat
  ownHold : Bool
  lineHold : Bool
  entries : Nat
  deriving DecidableEq, Repr

/-- The overlay (R181). -/
structure OverlayView where
  entry : PanelEntry
  choices : List Choice
  openEntries : Nat
  selected : Option Choice
  deriving DecidableEq, Repr

/-- MAGAZINE: the input map at station 1, the output map at END, else no magazine (R177). -/
inductive MagazineView where
  | input (slots : List InSlot) (current : Bool) (ranges : List (Nat × Nat))
  | output (slots : List OutSlot) (current : Bool)
  | noMagazine
  deriving DecidableEq, Repr

/-- RECIPE: generations with runs and product codes, and the pending set (R177). -/
structure RecipeView where
  active : Option (Nat × Nat × Nat)
  prior : Option (Nat × Nat × Nat)
  pending : Nat
  pendingStatus : PendingStatus
  deriving DecidableEq, Repr

/-- What the display shows. -/
inductive Display where
  | noPanel
  | strapFault
  | duplicateStation
  | blank
  | overlay (v : OverlayView)
  | home (v : HomeView)
  | line (rows : List LineRow) (scroll : Nat)
  | menu (action : EntryBuffer)
  | tally (counters : List Counter) (snapshot : Tallies) (scroll : Nat)
  | magazine (v : MagazineView) (scroll : Nat)
  | recipe (v : RecipeView)
  | grade (lines : List GradeLine) (selected : Option Nat) (mode : EntryBuffer)
  deriving DecidableEq, Repr

/-- The rows of LINE; this station's from its own state (R177). A present station whose beacon has not been heard yet
is shown as absent (DESIGN CHOICE, log entry 58). -/
def State.lineRows (s : State) : List LineRow :=
  [1, 2, 3, 4, 5, 6].map (fun n => ⟨n, if n = s.stn then some s.beaconView else s.beaconOf n⟩)

/-- HOME's content (R177). -/
def State.homeView (s : State) : HomeView where
  station := s.stn
  stationCode := s.stationCode
  window := s.window.state
  serial := s.windowSerial
  oNow := s.oNow
  doneHere := s.window.doneHere
  ownHold := s.ownHold
  lineHold := s.holding
  entries := s.panel.list.length

/-- MAGAZINE's content (R177). -/
def State.magazineView (s : State) : MagazineView :=
  if s.isFirst then .input s.inMag.slots s.inMag.current s.inMag.ranges
  else if s.isEnd then .output s.outMag.slots s.outMag.current
  else .noMagazine

/-- A held set as RECIPE shows it. -/
def HeldSet.view (h : HeldSet) : Nat × Nat × Nat := (h.recipe.generation, h.run, h.recipe.product)

/-- RECIPE's content (R177). -/
def State.recipeView (s : State) : RecipeView where
  active := s.recipes.active.map HeldSet.view
  prior := s.recipes.prior.map HeldSet.view
  pending := s.recipes.pending.generation
  pendingStatus := s.recipes.pending.status

/-- The overlay's content (R181). -/
def State.overlayView (s : State) (e : PanelEntry) : OverlayView where
  entry := e
  choices := e.kind.choices
  openEntries := s.panel.list.countP (fun x => x.state == .opened)
  selected := match s.panel.buffer with | .choice _ _ c => some c | _ => none

/-- The screen on top of the stack (R177). -/
def State.screenView (s : State) : Display :=
  match s.panel.top with
  | .home => .home s.homeView
  | .line => .line s.lineRows s.panel.scroll
  | .menu => .menu s.panel.buffer
  | .tally => .tally s.tally.counters s.tally s.panel.scroll
  | .magazine => .magazine s.magazineView s.panel.scroll
  | .recipe => .recipe s.recipeView
  | .grade => .grade s.gradeLines (s.selectedLine.map (·.station)) s.panel.buffer

/-- The display (R177, R181, R183, R184). -/
def State.display (s : State) : Display :=
  if !s.hasPanel then .noPanel
  else if s.phase = .strapFault then .strapFault
  else if s.dup then .duplicateStation
  else if s.panel.standby then .blank
  else match s.panel.shownEntry with
    | some e => .overlay (s.overlayView e)
    | none => s.screenView

end Sys2Proof.Machine
end

