-- ==== Sys2Proof/Machine/Dispatch.lean ====
section
/-! DEFINITION. One arm for each command. -/

namespace Sys2Proof.Machine

def exec (i : Instr) (s : State) : Host.Outcome State Fault Refusal :=
  match i with
  | .hardwareReset straps p => Sys2Proof.Machine.execHardwareReset straps p s
  | .listenEnd p => Sys2Proof.Machine.execListenEnd p s
  | .restart h p => Sys2Proof.Machine.execRestart h p s
  | .beacon h payload p => Sys2Proof.Machine.execBeacon h payload p s
  | .offer h serial p => Sys2Proof.Machine.execOffer h serial p s
  | .take h serial p => Sys2Proof.Machine.execTake h serial p s
  | .decline h serial reason p => Sys2Proof.Machine.execDecline h serial reason p s
  | .stripRecord h payload p => Sys2Proof.Machine.execStripRecord h payload p s
  | .alarm h seq kind serial unit wire p => Sys2Proof.Machine.execAlarm h seq kind serial unit wire p s
  | .settled h seq kind choice responder p => Sys2Proof.Machine.execSettled h seq kind choice responder p s
  | .retry h station seq p => Sys2Proof.Machine.execRetry h station seq p s
  | .skipUnit h station seq p => Sys2Proof.Machine.execSkipUnit h station seq p s
  | .passStrip h station seq p => Sys2Proof.Machine.execPassStrip h station seq p s
  | .resume h station seq p => Sys2Proof.Machine.execResume h station seq p s
  | .continue_ h station seq p => Sys2Proof.Machine.execContinue h station seq p s
  | .forward h station seq p => Sys2Proof.Machine.execForward h station seq p s
  | .grade h station ref mode p => Sys2Proof.Machine.execGrade h station ref mode p s
  | .hold h station p => Sys2Proof.Machine.execHold h station p s
  | .release h station p => Sys2Proof.Machine.execRelease h station p s
  | .bypass h station p => Sys2Proof.Machine.execBypass h station p s
  | .resumeBonding h station p => Sys2Proof.Machine.execResumeBonding h station p s
  | .recipeSegment h payload p => Sys2Proof.Machine.execRecipeSegment h payload p s
  | .recipeActivate h gen run p => Sys2Proof.Machine.execRecipeActivate h gen run p s
  | .tallySnapshot h mode p => Sys2Proof.Machine.execTallySnapshot h mode p s
  | .tallyRead h p => Sys2Proof.Machine.execTallyRead h p s
  | .pullRead h first count p => Sys2Proof.Machine.execPullRead h first count p s
  | .collected h first last p => Sys2Proof.Machine.execCollected h first last p s
  | .skipSlots h first last p => Sys2Proof.Machine.execSkipSlots h first last p s
  | .magazineRead h p => Sys2Proof.Machine.execMagazineRead h p s
  | .errorDetail h p => Sys2Proof.Machine.execErrorDetail h p s
  | .discardedFrame h p => Sys2Proof.Machine.execDiscardedFrame h p s
  | .badFrame p => Sys2Proof.Machine.execBadFrame p s
  | .quietGapExpiry p => Sys2Proof.Machine.execQuietGapExpiry p s
  | .readbackMismatch p => Sys2Proof.Machine.execReadbackMismatch p s
  | .frameSent p => Sys2Proof.Machine.execFrameSent p s
  | .presenceTimeout station p => Sys2Proof.Machine.execPresenceTimeout station p s
  | .beaconTimerExpiry p => Sys2Proof.Machine.execBeaconTimerExpiry p s
  | .homingMoveDone a p => Sys2Proof.Machine.execHomingMoveDone a p s
  | .positioningMoveDone a p => Sys2Proof.Machine.execPositioningMoveDone a p s
  | .contact position p => Sys2Proof.Machine.execContact position p s
  | .searchLimitReached p => Sys2Proof.Machine.execSearchLimitReached p s
  | .ballDownDone p => Sys2Proof.Machine.execBallDownDone p s
  | .loopingMoveDone a p => Sys2Proof.Machine.execLoopingMoveDone a p s
  | .stitchDownDone p => Sys2Proof.Machine.execStitchDownDone p s
  | .tailMoveDone p => Sys2Proof.Machine.execTailMoveDone p s
  | .wireClampDone p => Sys2Proof.Machine.execWireClampDone p s
  | .stripClampDone p => Sys2Proof.Machine.execStripClampDone p s
  | .conditioningMoveDone a p => Sys2Proof.Machine.execConditioningMoveDone a p s
  | .driveFault a p => Sys2Proof.Machine.execDriveFault a p s
  | .transducerSample v amps p => Sys2Proof.Machine.execTransducerSample v amps p s
  | .lock p => Sys2Proof.Machine.execLock p s
  | .unlock p => Sys2Proof.Machine.execUnlock p s
  | .sparkOk p => Sys2Proof.Machine.execSparkOk p s
  | .sparkOpen p => Sys2Proof.Machine.execSparkOpen p s
  | .wirePresentFalls p => Sys2Proof.Machine.execWirePresentFalls p s
  | .stripInRises p => Sys2Proof.Machine.execStripInRises p s
  | .stripOutClears p => Sys2Proof.Machine.execStripOutClears p s
  | .offerTimerExpiry p => Sys2Proof.Machine.execOfferTimerExpiry p s
  | .arrivalTimerExpiry p => Sys2Proof.Machine.execArrivalTimerExpiry p s
  | .exitTimerExpiry p => Sys2Proof.Machine.execExitTimerExpiry p s
  | .beltDone p => Sys2Proof.Machine.execBeltDone p s
  | .beltFault p => Sys2Proof.Machine.execBeltFault p s
  | .inputMagInserted p => Sys2Proof.Machine.execInputMagInserted p s
  | .inputMagRemoved p => Sys2Proof.Machine.execInputMagRemoved p s
  | .outputMagInserted p => Sys2Proof.Machine.execOutputMagInserted p s
  | .outputMagRemoved p => Sys2Proof.Machine.execOutputMagRemoved p s
  | .elevatorDone p => Sys2Proof.Machine.execElevatorDone p s
  | .elevatorFault p => Sys2Proof.Machine.execElevatorFault p s
  | .pusherDone p => Sys2Proof.Machine.execPusherDone p s
  | .pusherFault p => Sys2Proof.Machine.execPusherFault p s
  | .feedTimerExpiry p => Sys2Proof.Machine.execFeedTimerExpiry p s
  | .slotSenseRises p => Sys2Proof.Machine.execSlotSenseRises p s
  | .unloadTimerExpiry p => Sys2Proof.Machine.execUnloadTimerExpiry p s
  | .pullPositioningDone a p => Sys2Proof.Machine.execPullPositioningDone a p s
  | .forceSample f p => Sys2Proof.Machine.execForceSample f p s
  | .hookRiseDone p => Sys2Proof.Machine.execHookRiseDone p s
  | .hookReturnDone p => Sys2Proof.Machine.execHookReturnDone p s
  | .entryWriteDone p => Sys2Proof.Machine.execEntryWriteDone p s
  | .headerWriteDone p => Sys2Proof.Machine.execHeaderWriteDone p s
  | .eraseDone p => Sys2Proof.Machine.execEraseDone p s
  | .pullReadSlotDone bytes p => Sys2Proof.Machine.execPullReadSlotDone bytes p s
  | .scanReadDone answer p => Sys2Proof.Machine.execScanReadDone answer p s
  | .storeAnswerTimeout p => Sys2Proof.Machine.execStoreAnswerTimeout p s
  | .keyScan pattern p => Sys2Proof.Machine.execKeyScan pattern p s
  | .keyRelease p => Sys2Proof.Machine.execKeyRelease p s
  | .holdKey p => Sys2Proof.Machine.execHoldKey p s
  | .menuKey p => Sys2Proof.Machine.execMenuKey p s
  | .backKey p => Sys2Proof.Machine.execBackKey p s
  | .upKey p => Sys2Proof.Machine.execUpKey p s
  | .downKey p => Sys2Proof.Machine.execDownKey p s
  | .digitKey d p => Sys2Proof.Machine.execDigitKey d p s
  | .enterKey p => Sys2Proof.Machine.execEnterKey p s
  | .sendTimerExpiry station seq p => Sys2Proof.Machine.execSendTimerExpiry station seq p s
  | .deferralTimerExpiry p => Sys2Proof.Machine.execDeferralTimerExpiry p s
  | .standby p => Sys2Proof.Machine.execStandby p s

end Sys2Proof.Machine
end

