-- ==== Sys2Proof/WellFormed.lean ====
section
/-! DEFINITION. The bounds of the commands' operands: what a frame's fields, an axis port or a store can hold. No meaning
depends on them (log entry 9). -/

namespace Sys2Proof

/-- A byte's value. -/
def fits8 (n : Nat) : Bool := n < 256

/-- A 16-bit value. -/
def fits16 (n : Nat) : Bool := n < 65536

/-- A 32-bit value. -/
def fits32 (n : Nat) : Bool := n < 4294967296

/-- A good frame's header (R185): a sender 1..7, a target that is a byte. -/
def Hdr.wf (h : Hdr) : Bool := 1 ≤ h.sender && h.sender ≤ 7 && fits8 h.target

/-- A service request's header (R186): the sender is the service node. -/
def Hdr.service (h : Hdr) : Bool := h.sender == 7 && fits8 h.target

/-- The three strap inputs STN make 0..7 (00_scope.md, Configuration). -/
def Straps.wf (x : Straps) : Bool := x.stn ≤ 7

/-- The axes of the table and the head. -/
def Axis.isTable : Axis → Bool
  | .x | .y | .z => true
  | .e | .p | .b | .h => false

/-- The axes of the table and the head, and the hook. -/
def Axis.isHead : Axis → Bool
  | .x | .y | .z | .h => true
  | .e | .p | .b => false

/-- A slot of the record store holds 32 bytes (R150). -/
def isSlot (bytes : List Byte) : Bool := bytes.length == 32

/-- An answer of the record port to a read of the scan. -/
def StoreAnswer.wf : StoreAnswer → Bool
  | .slot bytes => isSlot bytes
  | .noStore => true

/-- The operands of a command are ones its sender can give. -/
def Instr.wf : Instr → Bool
  | .hardwareReset straps _ => straps.wf
  | .listenEnd _ => true
  | .restart h _ => h.service
  | .beacon h payload _ => h.wf && payload.length == 26
  | .offer h serial _ => h.wf && fits32 serial
  | .take h serial _ => h.wf && fits32 serial
  | .decline h serial reason _ => h.wf && fits32 serial && fits8 reason
  | .stripRecord h payload _ => h.wf && 4 ≤ payload.length && payload.length ≤ 64
  | .alarm h seq kind serial unit wire _ => h.wf && fits8 seq && fits8 kind && fits32 serial && fits8 unit && fits8 wire
  | .settled h seq kind choice responder _ => h.wf && fits8 seq && fits8 kind && fits8 choice && fits8 responder
  | .retry h station seq _ => h.wf && fits8 station && fits8 seq
  | .skipUnit h station seq _ => h.wf && fits8 station && fits8 seq
  | .passStrip h station seq _ => h.wf && fits8 station && fits8 seq
  | .resume h station seq _ => h.wf && fits8 station && fits8 seq
  | .continue_ h station seq _ => h.wf && fits8 station && fits8 seq
  | .forward h station seq _ => h.wf && fits8 station && fits8 seq
  | .grade h station ref mode _ => h.wf && fits8 station && fits8 ref && fits8 mode
  | .hold h station _ => h.wf && fits8 station
  | .release h station _ => h.wf && fits8 station
  | .bypass h station _ => h.wf && fits8 station
  | .resumeBonding h station _ => h.wf && fits8 station
  | .recipeSegment h payload _ => h.service && payload.length ≤ 64
  | .recipeActivate h gen run _ => h.service && fits8 gen && fits16 run
  | .tallySnapshot h mode _ => h.service && fits8 mode
  | .tallyRead h _ => h.service
  | .pullRead h first count _ => h.service && fits32 first && fits8 count
  | .collected h first last _ => h.service && fits32 first && fits32 last
  | .skipSlots h first last _ => h.service && fits8 first && fits8 last
  | .magazineRead h _ => h.service
  | .errorDetail h _ => h.service
  | .discardedFrame h _ => h.wf
  | .badFrame _ => true
  | .quietGapExpiry _ => true
  | .readbackMismatch _ => true
  | .frameSent _ => true
  | .presenceTimeout station _ => 1 ≤ station && station ≤ 7
  | .beaconTimerExpiry _ => true
  | .homingMoveDone a _ => a.isHead
  | .positioningMoveDone a _ => a.isTable
  | .contact position _ => position ≤ 20000
  | .searchLimitReached _ => true
  | .ballDownDone _ => true
  | .loopingMoveDone a _ => a.isTable
  | .stitchDownDone _ => true
  | .tailMoveDone _ => true
  | .wireClampDone _ => true
  | .stripClampDone _ => true
  | .conditioningMoveDone a _ => a.isTable
  | .driveFault a _ => a.isHead
  | .transducerSample v i _ => fits16 v && fits16 i
  | .lock _ => true
  | .unlock _ => true
  | .sparkOk _ => true
  | .sparkOpen _ => true
  | .wirePresentFalls p => !p.wirePresent
  | .stripInRises p => p.stripIn
  | .stripOutClears p => !p.stripOut
  | .offerTimerExpiry _ => true
  | .arrivalTimerExpiry _ => true
  | .exitTimerExpiry _ => true
  | .beltDone _ => true
  | .beltFault _ => true
  | .inputMagInserted p => p.magPresent
  | .inputMagRemoved p => !p.magPresent
  | .outputMagInserted p => p.magPresent
  | .outputMagRemoved p => !p.magPresent
  | .elevatorDone _ => true
  | .elevatorFault _ => true
  | .pusherDone _ => true
  | .pusherFault _ => true
  | .feedTimerExpiry _ => true
  | .slotSenseRises p => p.slotSense
  | .unloadTimerExpiry _ => true
  | .pullPositioningDone a _ => a.isHead
  | .forceSample f _ => fits16 f
  | .hookRiseDone _ => true
  | .hookReturnDone _ => true
  | .entryWriteDone _ => true
  | .headerWriteDone _ => true
  | .eraseDone _ => true
  | .pullReadSlotDone bytes _ => isSlot bytes
  | .scanReadDone answer _ => answer.wf
  | .storeAnswerTimeout _ => true
  | .keyScan _ _ => true
  | .keyRelease _ => true
  | .holdKey _ => true
  | .menuKey _ => true
  | .backKey _ => true
  | .upKey _ => true
  | .downKey _ => true
  | .digitKey _ _ => true
  | .enterKey _ => true
  | .sendTimerExpiry station seq _ => fits8 station && fits8 seq
  | .deferralTimerExpiry _ => true
  | .standby _ => true

/-- The header of a frame's command, none for a bad frame and for every command that is not a frame. -/
def Instr.header : Instr → Option Hdr
  | .restart h _ | .beacon h _ _ | .offer h _ _ | .take h _ _ | .decline h _ _ _ | .stripRecord h _ _
  | .alarm h _ _ _ _ _ _ | .settled h _ _ _ _ _ | .retry h _ _ _ | .skipUnit h _ _ _ | .passStrip h _ _ _
  | .resume h _ _ _ | .continue_ h _ _ _ | .forward h _ _ _ | .grade h _ _ _ _ | .hold h _ _ | .release h _ _
  | .bypass h _ _ | .resumeBonding h _ _ | .recipeSegment h _ _ | .recipeActivate h _ _ _ | .tallySnapshot h _ _
  | .tallyRead h _ | .pullRead h _ _ _ | .collected h _ _ _ | .skipSlots h _ _ _ | .magazineRead h _
  | .errorDetail h _ | .discardedFrame h _ => some h
  | _ => none

/-- The levels a command carries. -/
def Instr.pins : Instr → Pins
  | .hardwareReset _ p | .listenEnd p | .restart _ p | .beacon _ _ p | .offer _ _ p | .take _ _ p | .decline _ _ _ p
  | .stripRecord _ _ p | .alarm _ _ _ _ _ _ p | .settled _ _ _ _ _ p | .retry _ _ _ p | .skipUnit _ _ _ p
  | .passStrip _ _ _ p | .resume _ _ _ p | .continue_ _ _ _ p | .forward _ _ _ p | .grade _ _ _ _ p | .hold _ _ p
  | .release _ _ p | .bypass _ _ p | .resumeBonding _ _ p | .recipeSegment _ _ p | .recipeActivate _ _ _ p
  | .tallySnapshot _ _ p | .tallyRead _ p | .pullRead _ _ _ p | .collected _ _ _ p | .skipSlots _ _ _ p
  | .magazineRead _ p | .errorDetail _ p | .discardedFrame _ p | .badFrame p | .quietGapExpiry p | .readbackMismatch p
  | .frameSent p | .presenceTimeout _ p | .beaconTimerExpiry p | .homingMoveDone _ p | .positioningMoveDone _ p
  | .contact _ p | .searchLimitReached p | .ballDownDone p | .loopingMoveDone _ p | .stitchDownDone p | .tailMoveDone p
  | .wireClampDone p | .stripClampDone p | .conditioningMoveDone _ p | .driveFault _ p | .transducerSample _ _ p
  | .lock p | .unlock p | .sparkOk p | .sparkOpen p | .wirePresentFalls p | .stripInRises p | .stripOutClears p
  | .offerTimerExpiry p | .arrivalTimerExpiry p | .exitTimerExpiry p | .beltDone p | .beltFault p
  | .inputMagInserted p | .inputMagRemoved p | .outputMagInserted p | .outputMagRemoved p | .elevatorDone p
  | .elevatorFault p | .pusherDone p | .pusherFault p | .feedTimerExpiry p | .slotSenseRises p | .unloadTimerExpiry p
  | .pullPositioningDone _ p | .forceSample _ p | .hookRiseDone p | .hookReturnDone p | .entryWriteDone p
  | .headerWriteDone p | .eraseDone p | .pullReadSlotDone _ p | .scanReadDone _ p | .storeAnswerTimeout p
  | .keyScan _ p | .keyRelease p | .holdKey p | .menuKey p | .backKey p | .upKey p | .downKey p | .digitKey _ p
  | .enterKey p | .sendTimerExpiry _ _ p | .deferralTimerExpiry p | .standby p => p

/-- Parts of the state that only few commands can change. -/
inductive Kept where
  | snapshot | holdSet | bypass | blockHeaders | recordStore | lockSense | badRecords | lineFaults | withdrawn | segments
  deriving DecidableEq, Repr

/-- Which of these a command can change (R20, R47, R105, R154, R161, R169 to R171, R173, R188, R190, R196, R197; a scan
can accept a key, log entry 10). A hardware reset changes all of them. -/
def Instr.mayChange : Instr → List Kept
  | .tallySnapshot _ _ _ => [.snapshot]
  | .enterKey _ => [.snapshot, .bypass]
  | .keyScan _ _ => [.snapshot, .bypass, .holdSet]
  | .beacon _ _ _ | .hold _ _ _ | .release _ _ _ | .presenceTimeout _ _ | .holdKey _ => [.holdSet]
  | .restart _ _ => [.holdSet, .bypass]
  | .bypass _ _ _ | .resumeBonding _ _ _ | .passStrip _ _ _ _ => [.bypass]
  | .headerWriteDone _ | .eraseDone _ => [.blockHeaders]
  | .scanReadDone _ _ | .storeAnswerTimeout _ => [.blockHeaders, .recordStore]
  | .lock _ | .unlock _ => [.lockSense]
  | .stripRecord _ _ _ => [.badRecords]
  | .readbackMismatch _ => [.lineFaults]
  | .arrivalTimerExpiry _ => [.withdrawn]
  | .recipeSegment _ _ _ => [.segments]
  | _ => []

/-- The key that a command of the key rows presses (log entry 10). -/
def Instr.key : Instr → Option Key
  | .holdKey _ => some .hold
  | .menuKey _ => some .menu
  | .backKey _ => some .back
  | .upKey _ => some .up
  | .downKey _ => some .down
  | .digitKey d _ => some (.digit d)
  | .enterKey _ => some .enter
  | _ => none

/-- A scan of the key matrix or a key row (R176). -/
def Instr.ofKeys (c : Instr) : Bool :=
  match c with
  | .keyScan _ _ | .keyRelease _ => true
  | c => c.key.isSome

/-- A completion of an operation of the record port, other than the start-up scan's (R163). -/
def Instr.ofPort : Instr → Bool
  | .entryWriteDone _ | .headerWriteDone _ | .eraseDone _ | .pullReadSlotDone _ _ => true
  | _ => false

end Sys2Proof
end

