-- ==== Sys2Proof/Safety.lean ====
section
/-! DEFINITION. What counts as a lawful state, in the terms the statements use, and the frames of a command. -/

namespace Sys2Proof.Machine

/-! ### Laws of the parts of a state -/

/-- Ascending ranges of slots 1..20, none touching the next (R126). -/
def rangesLawful : List (Nat × Nat) → Bool
  | [] => true
  | [a] => 1 ≤ a.1 && a.1 ≤ a.2 && a.2 ≤ Config.slots
  | a :: b :: rest => 1 ≤ a.1 && a.1 ≤ a.2 && a.2 + 1 < b.1 && rangesLawful (b :: rest)

/-- At most four skip ranges are held, and they are lawful (R117, R126). -/
def InMag.rangesOk (m : InMag) : Bool := m.ranges.length ≤ Config.rangePlaces && rangesLawful m.ranges

/-- Numbers strictly ascending. -/
def risingNats : List Nat → Bool
  | [] => true
  | [_] => true
  | a :: b :: rest => a < b && risingNats (b :: rest)

/-- The hold set holds station numbers 1..7, each at most once (R170). -/
def Alarms.holdOk (a : Alarms) : Bool := risingNats a.hold && a.hold.all (fun n => within n 1 7)

/-- No two open alarms share a kind or a sequence, sequences are 1..255, and so is the counter (R164). -/
def Alarms.idsOk (a : Alarms) : Bool :=
  decide (a.queue.map (·.kind)).Nodup && decide (a.queue.map (·.seq)).Nodup
    && a.queue.all (fun e => within e.seq 1 255) && within a.counter 1 255

/-- A frame is a BEACON. -/
def Frame.isBeacon (f : Frame) : Bool := f.kind == .beacon

/-- BEACONs queued, and beacon-due marks that wait. -/
def Line.beacons (l : Line) : Nat :=
  l.txQueue.countP (fun t => t.frame.isBeacon) + l.waiting.countP (fun w => w == .beaconDue)

/-- At most 8 frames are queued and at most one BEACON among them, or waiting (R191); no other waiting frame is a
BEACON. -/
def Line.queueOk (l : Line) : Bool :=
  l.txQueue.length ≤ Config.txPlaces && l.beacons ≤ 1
    && l.waiting.all (fun w => match w with | .beaconDue => true | .frame _ f => !f.isBeacon)

/-- Every unit of a record names a bonder exactly where it is DONE, REJECT or PULLED (R2, R3). -/
def StripRecord.bondersOk (r : StripRecord) : Bool := r.units.all bonderFits

/-- The bonders of the records that the window holds. -/
def Window.bondersOk (w : Window) : Bool :=
  (match w.record with | some r => r.bondersOk | none => true)
    && (match w.inbound with | some r => r.bondersOk | none => true)

/-- Nineteen counters, none above its 32 bits (R196). -/
def countersOk (cs : List Counter) : Bool := cs.length == 19 && cs.all (fun c => c.value ≤ Config.max32)

/-- The STN strap of a part that has no strap fault is 1..6 (R192). -/
def State.strapOk (s : State) : Bool := s.phase == .strapFault || within s.straps.stn 1 6

/-- A screen stack has HOME at its bottom and at most 6 screens (R175, R177); the panel alarm list at most 16 entries,
of distinct ids (R180). -/
def Panel.shapeOk (q : Panel) : Bool :=
  q.stack.head? == some .home && q.stack.length ≤ Config.stackPlaces && q.list.length ≤ Config.panelPlaces
    && decide (q.list.map (fun e => (e.station, e.seq))).Nodup

/-! ### Laws of the head (R39, R50, R68, R81) -/

/-- The use of the answers that the head waits for where it stands (R37 to R45, R55, R83, R138, R140). -/
def State.headUse (s : State) : Option Use :=
  match s.head.state with
  | .parked | .held | .firstBond | .secondBond => none
  | .homing => some .homing
  | .searching => some (if s.head.stage = .search then .search else .positioning)
  | .ballDown => some (if s.head.stage = .lower then .lower else .positioning)
  | .looping => some .looping
  | .stitchDown => some .stitch
  | .tail => some (if s.head.stage = .clearClamp ∨ s.head.stage = .clearTear then .clearing else .tail)
  | .sparking => some .fire
  | .conditioning => some (if s.head.stage = .condFire then .fire else .conditioning)
  | .pulling =>
    match s.pull.phase with
    | .positioning => some .pullMove
    | .rising => some .rise
    | .returning => some .hookReturn
    | .none | .placing => none

/-- The stages that wait for several answers at once (R37, R40, R43, R83, R138). -/
def State.waitsForAll (s : State) : Bool :=
  [Stage.homingTable, .posTable, .loopLead, .condTable].contains s.head.stage
    || (s.head.state == .pulling && s.pull.phase == .positioning)

/-- The answers due to the head that are acted on. -/
def State.headDues (s : State) : List Due := s.due.filter (fun d => d.live && d.use.ofHead)

/-- The stages that wait for the wire clamp (R37, R43, R45, R55, R83). -/
def State.waitsForClamp (s : State) : Bool :=
  [Stage.homingClamp, .loopClamp, .tailClamp, .clearClamp, .condClamp].contains s.head.stage

/-- The stage is one of the head state's own (R37, R40 to R45, R55, R83, R138). -/
def State.stageOk (s : State) : Bool :=
  (match s.head.state with
    | .parked | .held => [Stage.idle]
    | .homing => [.homingClamp, .homingZ, .homingTable]
    | .searching => [.posZ, .posTable, .posApproach, .search]
    | .ballDown => [.posZ, .posTable, .posApproach, .lower]
    | .firstBond | .secondBond => [.bond]
    | .looping => [.loopClamp, .loopKink, .loopReverse, .loopHeight, .loopLead]
    | .stitchDown => [.stitch]
    | .tail => [.tailPay, .tailClamp, .tailTear, .clearClamp, .clearTear]
    | .sparking => [.fire]
    | .conditioning => [.condZ, .condTable, .condClamp, .condFire]
    | .pulling => if s.pull.phase == WirePhase.positioning then [.posZ, .posTable] else [.idle]).contains s.head.stage

/-- Only a head that is HELD or HOMING has a next work (R35), and only a homing is to end in PARKED whatever stops it
(R58). -/
def Head.nextOk (h : Head) : Bool :=
  (h.state == .held || h.state == .homing || h.next == .none) && (h.state == .homing || !h.homingParks)

/-- Every answer due to the head is one it waits for, one at a time but where it waits for several. -/
def State.duesOk (s : State) : Bool :=
  s.headDues.all (fun d => s.headUse == some d.use && (d.port == .spark) == (d.use == .fire)
      && (d.port != .wireClamp || s.waitsForClamp))
    && (s.waitsForAll || s.headDues.length ≤ 1)

/-- A bond is open in FIRST BOND or SECOND BOND only (R68). -/
def State.bondOk (s : State) : Bool :=
  match s.energy.status with
  | .closed => s.energy.params.isNone
  | .openFirst => s.head.state == .firstBond
  | .openSecond => s.head.state == .secondBond

/-- At most one alarm that holds the head is open, and the head is HELD for it (R50). During the listen the head is
PARKED, or HELD for a DRIVE FAULT. -/
def State.headAlarmsOk (s : State) : Bool :=
  s.alarms.queue.countP (fun e => e.kind.holdsHead) ≤ 1
    && (!s.alarms.queue.any (fun e => e.kind.holdsHead) || (s.head.state == .held && s.head.heldFor == .alarm))
    && (s.phase != .listening || ((s.head.state == .parked || (s.head.state == .held && s.head.heldFor == .alarm))
      && s.alarms.queue.all (fun e => !e.kind.holdsHead || e.kind == .driveFault)))

/-- The next work of a head that is HELD or HOMING is one of these. -/
def State.goesOnWith (s : State) (which : NextWork → Bool) : Bool :=
  (s.head.state == .held || s.head.state == .homing) && which s.head.next

/-- A wire has begun and has not completed (R39, R51): in its steps, or stopped and to be resumed inside it. -/
def State.wireInFlight (s : State) : Bool :=
  [HeadState.searching, .ballDown, .firstBond, .looping, .stitchDown, .secondBond, .sparking].contains s.head.state
    || (s.head.state == .tail && s.headUse == some .tail) || s.alarmOpen .noBall
    || s.goesOnWith (fun n => match n with | .step w => w != .positioning | .refire => true | _ => false)

/-- A cycle has begun or is the head's next work (R83, R84). -/
def State.cycleInFlight (s : State) : Bool :=
  s.head.state == .conditioning || s.alarmOpen .conditioningFault
    || s.goesOnWith (fun n => match n with | .cycle _ => true | _ => false)

/-- The debt lies in −8..+8, below +8 while a wire is in flight and above −8 while a cycle is (R39, R81, R83), and the
head of a part that operates stands at a stage of its state and waits for the answers of the step it is in. -/
def State.headOk (s : State) : Bool :=
  -8 ≤ s.head.debt && s.head.debt ≤ 8
    && (!s.operating || ((!s.wireInFlight || s.head.debt ≤ 7) && (!s.cycleInFlight || -7 ≤ s.head.debt)
      && s.stageOk && s.head.nextOk && s.duesOk && s.bondOk && s.headAlarmsOk))

/-- A feed search, a push or RETRY's move is under way (R119, R120, R123). -/
def InMag.feeding (m : InMag) : Bool := m.feed == .searching || m.feed == .pushing || m.retrying

/-- A wire stands at its positioning's first move (R40). -/
def Head.atFirstMove (h : Head) : Bool := (h.state == .searching || h.state == .ballDown) && h.stage == .posZ

/-- A frame is queued or waits for room. -/
def Line.carries (l : Line) (f : Frame) : Bool :=
  l.txQueue.any (fun q => q.frame == f)
    || l.waiting.any (fun w => match w with | .frame _ g => g == f | .beaconDue => false)

/-! ### Laws of the pull records (R145, R152 to R155) -/

/-- A LogEntry is a pull record's. -/
def LogEntry.isRecord : LogEntry → Bool
  | .record _ => true
  | .mark _ => false

/-- The pull records that the station holds, in the pending-grade list, the write queue or the log (R145, R153). -/
def State.recordCount (s : State) : Nat :=
  s.pull.list.length + s.log.queue.countP LogEntry.isRecord + s.log.newest

/-- The pending-grade list holds at most 16, and fewer while a plan wire's record is still to come (R137, R145); the write
queue holds at most four entries, the one being written at its front (R153, R154); the block being erased is erasable
(R155); before start-up is finished the record port runs nothing but the scan (R161). -/
def State.recordsOk (s : State) : Bool :=
  s.pull.list.length ≤ Config.pendingPlaces
    && (!(s.pull.phase == .positioning || s.pull.phase == .rising) || s.pull.list.length < Config.pendingPlaces)
    && s.log.queue.length ≤ Config.writePlaces
    && (match s.log.op with
      | .entryWrite e => s.log.queue.head? == some e
      | .erase b => s.log.erasable b
      | _ => true)
    && (s.running || s.log.op == .none)

/-! ### Frames -/

/-- `t` is `u`, but for the GRADE line selected, which follows what the screen shows (R182; log entry 13). -/
def SameButLine (t u : State) : Prop := t = { u with panel.gradeLine := t.panel.gradeLine }

/-- `t` is `u`, but for the station line and the panel: what a beacon placed at the end of the event changes. -/
def SameButNews (t u : State) : Prop := t = { u with line := t.line, panel := t.panel, out := t.out }

/-- The part hears a frame of another station that is addressed to it or to all (R186, R189). -/
def State.hears (s : State) (h : Hdr) : Bool :=
  s.operating && within h.sender 1 7 && h.sender != s.stn && (h.target == 0 || h.target == s.stn)

/-- The part hears such a frame, and not as the first one of the downstream station (R96). -/
def State.hearsAgain (s : State) (h : Hdr) : Bool := s.hears h && (s.isPresent h.sender || h.sender != s.stn + 1)

/-- The six RESPONSE commands with the choices they carry (R186). -/
def responses (h : Hdr) (station seq : Nat) (p : Pins) : List (Instr × Choice) :=
  [(.retry h station seq p, .retry), (.skipUnit h station seq p, .skipUnit), (.passStrip h station seq p, .passStrip),
   (.resume h station seq p, .resume), (.continue_ h station seq p, .cont), (.forward h station seq p, .forward)]

/-- The head is HELD for an alarm, homed, and the station is not in BYPASS (R50, R52). -/
def State.heldForAlarm (s : State) : Bool :=
  s.head.state == .held && s.head.heldFor == .alarm && s.head.homed && !s.alarms.bypass

/-- The wire-out test passes: the latch is clear and the level is high (R47). -/
def State.wireFine (s : State) (p : Pins) : Bool := !s.head.wireOut && p.wirePresent

/-- The strip's set, the current wire's entry and the unit in progress (R10, R18). -/
def State.onWire (s : State) (r : Recipe) (w : WireEntry) (n : Nat) : Prop :=
  s.stripSet = some r ∧ s.wireEntry = some w ∧ s.head.unit = some n

/-- A slot lies in one of the ranges. -/
def covered (rs : List (Nat × Nat)) (n : Nat) : Bool := rs.any (fun r => r.1 ≤ n && n ≤ r.2)

/-- A service request reaches its owner (R186, R192). -/
def State.serves (s : State) (h : Hdr) : Bool := s.hears h && h.sender == 7 && s.phase != .listening

/-- The transmit queue can take `n` frames and nothing waits for it (R191). -/
def State.lineFree (s : State) (n : Nat) : Bool :=
  s.line.txQueue.length + n ≤ Config.txPlaces && s.line.waiting.isEmpty && s.operating && s.phase != .listening

/-- The state right after a good frame of station `n` has been heard, its own content not yet taken (R188, R190). -/
def State.afterHearing (s : State) (p : Pins) (n : Nat) : State := { (s.begin_ p).heard n with agenda := Agenda.none }

/-- A frame just placed at the end of the queue. -/
def State.placed (s : State) (f : Frame) : List TxFrame := s.line.txQueue ++ [⟨f, 0⟩]

end Sys2Proof.Machine
end

