-- ==== Sys2Proof/Certificates/Slice0/Obligations.lean ====
section
/-! DEFINITION. The statements for the provers. A next state is described by what the spec names and by what stays;
`SameButLine` and `SameButNews` (Safety.lean) say that everything else is as before. -/

open Sys2Proof Sys2Proof.Machine

/-! ### The block as a whole -/

/-- The command at the front of the queue runs on the state with the queue's rest; an empty queue idles (DESIGN
CHOICE, log entry 2). No command ends in a fault or a refusal: no rule leaves one without an effect (DESIGN CHOICE,
log entry 9). -/
def Obligations.StepRunsFrontCommand : Prop :=
  (∀ (s : State) (c : Instr) (rest : List Instr), s.pending = c :: rest →
    step s = exec c { s with pending := rest })
  ∧ (∀ s : State, s.pending = [] → step s = .next s)
  ∧ ∀ (c : Instr) (s : State), ∃ t, exec c s = .next t

/-- R61, R115, R134, R149, R163, R174, R184, R189: a station with a strap fault or a duplicate-station fault acts on
nothing until hardware reset, and no request goes out. Only the levels of the sense inputs follow (log entry 3).
Under the duplicate-station fault an operation of the record port in progress still completes, which changes the log
only and leaves the port without one (R149, R163), and the key matrix is still scanned (R176): that moves the key
scan state and the idle timer, and an accepted key can do no more than end standby, which a key row does (R176
against R184: DEDUCED, log entry 34). -/
def Obligations.FaultedStationActsOnNothing : Prop :=
  ∀ (c : Instr) (s : State), (∀ x p, c ≠ .hardwareReset x p) →
    (let still := { s with pins := c.pins, out := [], agenda := Agenda.none }
     (s.phase = .strapFault ∨ s.dup = true ∧ c.ofKeys = false ∧ c.ofPort = false → exec c s = .next still)
     ∧ (s.phase ≠ .strapFault → s.dup = true → c.ofPort = true →
        ∃ t, exec c s = .next t ∧ t = { still with log := t.log } ∧ (t.log.op = .none ∨ t.log = s.log))
     ∧ (s.phase ≠ .strapFault → s.dup = true → c.ofKeys = true →
        ∃ t, exec c s = .next t
          ∧ t = { still with
              panel.pattern := t.panel.pattern, panel.runLength := t.panel.runLength
              panel.accepted := t.panel.accepted, panel.lockout := t.panel.lockout
              panel.idleMs := t.panel.idleMs, panel.standby := t.panel.standby }
          ∧ (t.panel.standby = true → s.panel.standby = true) ∧ (s.hasPanel = false → t.panel = s.panel)
          ∧ (s.hasPanel = true → c.key.isSome = true →
              t.panel.standby = false ∧ t.panel.idleMs = 0 ∧ t.panel.accepted = c.key)))

/-- R61, R115, R134, R189: a good frame whose sender is this station's number declares the duplicate-station fault,
for every kind of frame: the head is HELD with no bond open and the transducer disabled, no send goes on, the timers
stop, and the records, recipes, alarms, queue and tables stay. -/
def Obligations.OwnNumberDeclaresDuplicate : Prop :=
  ∀ (c : Instr) (h : Hdr) (s : State), c.header = some h → s.operating = true → h.sender = s.stn →
    1 ≤ s.stn → s.stn ≤ 7 →
    ∃ t, exec c s = .next t ∧ t.dup = true ∧ t.operating = false ∧ t.head.state = .held
      ∧ t.head.heldFor = .duplicate ∧ t.head.enabled = false ∧ t.energy.status = .closed ∧ t.line.sending = none
      ∧ t.window.offerTimer = none ∧ t.window.arrivalTimer = none ∧ t.window.exitTimer = none
      ∧ t.inMag.feedTimer = none ∧ t.outMag.unloadTimer = none
      ∧ t.line.txQueue = s.line.txQueue ∧ t.line.peers = s.line.peers
      ∧ t.window.record = s.window.record ∧ t.recipes = s.recipes ∧ t.alarms = s.alarms ∧ t.log = s.log
      ∧ t.pull = s.pull ∧ t.panel = s.panel

/-- R186, R188, R190: a good frame that is not for this station, and a frame that routing discards, counts for L and
presence and changes nothing else. (The first frame of the downstream station also lets a waiting strip be evaluated,
R96, and is left to that rule.) A bad frame is tallied and makes L unknown (R189). -/
def Obligations.FrameForOthersCountsForPresence : Prop :=
  (∀ (c : Instr) (h : Hdr) (s : State), c.header = some h → (∀ g b p, c ≠ .beacon g b p) →
    (h.target ≠ 0 ∧ h.target ≠ s.stn ∨ ∃ p, c = .discardedFrame h p) →
    s.operating = true → 1 ≤ h.sender → h.sender ≤ 7 → h.sender ≠ s.stn →
    (s.isPresent h.sender = true ∨ h.sender ≠ s.stn + 1) →
    ∃ t, exec c s = .next t ∧ SameButLine t { s with
      pins := c.pins, out := [], agenda := Agenda.none
      line.last := some h.sender
      line.peers := s.line.peers.modify (h.sender - 1) (fun q => { q with present := true }) })
  ∧ ∀ (p : Pins) (s : State), s.operating = true →
    ∃ t, exec (.badFrame p) s = .next t ∧ SameButLine t { s with
      pins := p, out := [], agenda := Agenda.none
      line.last := none
      tally.counters := s.tally.counters.modify 18 Counter.bump }

/-- R33, R35, R62, R81, R90, R117, R127, R135, R174, R175, R190, R192, R196: a hardware reset gives every block its
reset values, reads the straps, and begins the listen or, with STN 0 or 7, stays at rest. The commands that wait are
outside the part. -/
def Obligations.HardwareResetValues : Prop :=
  ∀ (x : Straps) (p : Pins) (s : State), ∃ t, exec (.hardwareReset x p) s = .next t
    ∧ t.straps = x ∧ t.pending = s.pending ∧ t.dup = false ∧ t.out = [] ∧ t.due = []
    ∧ t.phase = (if x.stn = 0 ∨ 7 ≤ x.stn then Phase.strapFault else Phase.listening)
    ∧ t.head.state = .parked ∧ t.head.homed = false ∧ t.head.unit = none ∧ t.head.surface = none
    ∧ t.head.wireOut = false ∧ t.head.locked = true ∧ t.head.untrackedRun = 0 ∧ t.head.debt = 0 ∧ t.head.wireCount = 0
    ∧ t.recipes.pending.generation = 0 ∧ t.recipes.active = none ∧ t.recipes.prior = none
    ∧ t.energy.status = .closed ∧ t.energy.rings = List.replicate 8 ⟨0, []⟩ ∧ t.energy.table = none
    ∧ t.window.state = .empty ∧ t.window.record = none ∧ t.window.inbound = none ∧ t.window.doneHere = 0
    ∧ t.inMag.slots = List.replicate 20 .unknown ∧ t.inMag.ranges = [] ∧ t.inMag.feed = .idle
    ∧ t.inMag.serialCounter = 1 ∧ t.outMag.slots = List.replicate 20 .unknown ∧ t.outMag.unloader = .absent
    ∧ t.pull.list = [] ∧ t.pull.refCounter = 1 ∧ t.pull.sample = none ∧ t.log.queue = []
    ∧ t.alarms.queue = [] ∧ t.alarms.counter = 1 ∧ t.alarms.bypass = false ∧ t.alarms.hold = []
    ∧ t.panel.stack = [.home] ∧ t.panel.list = [] ∧ t.panel.buffer = .empty ∧ t.panel.standby = false
    ∧ t.line.txQueue = [] ∧ t.line.waiting = [] ∧ t.line.last = none ∧ t.line.beaconTimer = none
    ∧ t.line.lastRefusal = none ∧ (∀ n, t.isPresent n = false)
    ∧ t.tally.counters = List.replicate 19 ⟨0, false⟩ ∧ t.tally.snapNumber = 0

/-! ### The station line -/

/-- R185, R188: after its quiet gap the station sends the head of its transmit queue, one frame at a time. A frame
read back whole leaves the queue and L is this station; at a mismatch the send stops, L is unknown and the frame's
abort count rises, and the third abort removes the frame as a line fault. With L known the gaps of stations 1..7 are
8 to 26 µs, with L unknown 29 to 47, and no two stations wait equally long. -/
def Obligations.FramesAreSentInTurn : Prop :=
  (∀ (p : Pins) (s : State) (q : TxFrame) (rest : List TxFrame), s.operating = true → s.line.txQueue = q :: rest →
    (s.line.sending = none →
      ∃ t, exec (.quietGapExpiry p) s = .next t ∧ SameButLine t { s with
        pins := p, agenda := Agenda.none
        out := [.lineSend (quietGap s.line.last s.stn) (frameBytes s.stn q.frame)]
        line.sending := some ⟨q.frame, true⟩ })
    ∧ ∀ f, s.line.sending = some ⟨f, true⟩ →
      (∃ t, exec (.quietGapExpiry p) s = .next t ∧ SameButLine t (s.begin_ p))
      ∧ (s.line.waiting = [] →
        (∃ t, exec (.frameSent p) s = .next t ∧ SameButLine t { s with
          pins := p, out := [], agenda := Agenda.none
          line.sending := none, line.last := some s.stn, line.txQueue := rest })
        ∧ (q.aborts < 2 → ∃ t, exec (.readbackMismatch p) s = .next t ∧ SameButLine t { s with
          pins := p, out := [.lineStop], agenda := Agenda.none
          line.sending := none, line.last := none, line.txQueue := ⟨q.frame, q.aborts + 1⟩ :: rest })
        ∧ (2 ≤ q.aborts → s.line.lineFaults < 65535 → ∃ t, exec (.readbackMismatch p) s = .next t ∧ SameButLine t { s with
          pins := p, out := [.lineStop], agenda := Agenda.none
          line.sending := none, line.last := none, line.txQueue := rest, line.lineFaults := s.line.lineFaults + 1 })))
  ∧ (∀ (l : Nat) (n m : Nat), 1 ≤ l → l ≤ 7 → 1 ≤ n → n ≤ 7 → 1 ≤ m → m ≤ 7 →
    8 ≤ quietGap (some l) n ∧ quietGap (some l) n ≤ 26 ∧ (quietGap (some l) n = quietGap (some l) m → n = m))
  ∧ ∀ (n m : Nat), 1 ≤ n → n ≤ 7 → quietGap none n = 26 + 3 * n ∧ 29 ≤ quietGap none n ∧ quietGap none n ≤ 47
    ∧ (quietGap none n = quietGap none m → n = m)

/-- R191: at the beacon timer's expiry a queued BEACON's payload is replaced in place by the station's state at that
event, and the timer is left as it is (DEDUCED, log entry 25); with none queued and room, a BEACON is placed at the
end of the queue and the timer restarts; with the queue full, the beacon waits. -/
def Obligations.BeaconTimerPlacesBeacon : Prop :=
  ∀ (p : Pins) (s : State), s.operating = true → s.phase ≠ .listening → s.line.beaconTimer.isSome = true →
    s.line.waiting = [] →
    ∃ t, exec (.beaconTimerExpiry p) s = .next t ∧ SameButNews t { s with pins := p, agenda := Agenda.none }
      ∧ (s.line.hasBeacon = true → t.line = { s.line with
          txQueue := s.line.txQueue.map (fun q =>
            if q.frame.kind = .beacon then { q with frame := ⟨0, .beacon, encodeBeacon s.beaconView⟩ } else q) })
      ∧ (s.line.hasBeacon = false → s.line.txQueue.length < 8 → t.line = { s.line with
          txQueue := s.line.txQueue ++ [⟨⟨0, .beacon, encodeBeacon s.beaconView⟩, 0⟩], beaconTimer := some 50 })
      ∧ (s.line.hasBeacon = false → 8 ≤ s.line.txQueue.length → t.line = { s.line with waiting := [.beaconDue] })

/-! ### Frames of stations -/

/-- R170, R180, R190: a beacon's content is kept as its station's latest, an alarm count above 4 read as four (R191 is
silent: DESIGN CHOICE, unsafe, log entry 71). Where it is addressed to this station or to
all, its holding flag decides whether the sender is in the hold set; no other number enters or leaves it. A station
silent for 250 ms is absent, with no beacon content, out of the hold set, and without an entry in the panel's alarm
list. -/
def Obligations.PresenceFollowsFrames : Prop :=
  (∀ (h : Hdr) (payload : List Byte) (p : Pins) (s : State), s.operating = true → 1 ≤ h.sender → h.sender ≤ 7 →
    h.sender ≠ s.stn → payload.length = 26 → s.line.peers.length = 7 →
    ∃ t, exec (.beacon h payload p) s = .next t ∧ t.isPresent h.sender = true
      ∧ t.beaconOf h.sender = some (readBeacon payload) ∧ t.line.last = some h.sender
      ∧ (∀ m, m ≠ h.sender → (m ∈ t.alarms.hold ↔ m ∈ s.alarms.hold))
      ∧ (h.target = 0 ∨ h.target = s.stn → (h.sender ∈ t.alarms.hold ↔ (readBeacon payload).holding = true))
      ∧ (h.target ≠ 0 → h.target ≠ s.stn → t.alarms.hold = s.alarms.hold))
  ∧ ∀ (n : Nat) (p : Pins) (s : State), s.operating = true → 1 ≤ n → n ≤ 7 → n ≠ s.stn → s.isPresent n = true →
    ∃ t, exec (.presenceTimeout n p) s = .next t ∧ t.line.peers = s.line.peers.set (n - 1) ⟨false, none⟩
      ∧ t.isPresent n = false ∧ t.beaconOf n = none ∧ (∀ m, m ∈ t.alarms.hold ↔ m ∈ s.alarms.hold ∧ m ≠ n)
      ∧ (s.hasPanel = true → ∀ e ∈ t.panel.list, e.station ≠ n)

/-- R99: an OFFER from the upstream station is answered by the first line of its table that applies: DECLINE with
FAULT (4), NO RECIPE (3) or HOLD (2); TAKE with the window INBOUND for the serial and the arrival timer started or
restarted; else DECLINE with NOT EMPTY (1). The answer joins the transmit queue, and nothing but the window, the line
and the panel changes. -/
def Obligations.OfferIsAnsweredByTable : Prop :=
  ∀ (h : Hdr) (serial : Nat) (p : Pins) (s : State), s.hears h = true → h.sender + 1 = s.stn → s.lineFree 2 = true →
    ∃ t, exec (.offer h serial p) s = .next t
      ∧ SameButNews t { s with pins := p, agenda := Agenda.none, window := t.window }
      ∧ (let declined := fun (reason : Nat) =>
            t.line.txQueue = s.placed ⟨h.sender, .decline, beBytes 4 serial ++ [byteOf reason]⟩ ∧ t.window = s.window
         let taken := ⟨⟨h.sender, .take, beBytes 4 serial⟩, 0⟩ ∈ t.line.txQueue
         if s.running = false ∨ s.alarmOpen .transferJam = true then declined 4
         else if s.recipes.active = none then declined 3
         else if s.alarms.hold ≠ [] then declined 2
         else if s.window.state = .empty then
           taken ∧ t.window = { s.window with
             state := .inbound, inbound := none, inboundSerial := some serial, arrivalTimer := some 2000 }
         else if s.window.state = .inbound ∧ s.window.inboundSerial = some serial then
           taken ∧ t.window = { s.window with arrivalTimer := some 2000 }
         else declined 1)

/-- R100: a TAKE of the downstream station for the serial offered makes the window OUTBOUND with the exit timer
started; STRIP RECORD with the window record joins the queue, and with it placed the strip clamp is opened and the
belt runs.
R101: a DECLINE of the downstream station for the serial offered, and the offer timer's expiry, end the offer: the
window is CLAMPED again with the fresh-beacon wait set and its offer timer stopped, and nothing else of it changes. A
TAKE or DECLINE that does not match is ignored (R100, R101). -/
def Obligations.OfferEndsInTakeOrDecline : Prop :=
  (∀ (h : Hdr) (p : Pins) (s : State) (r : StripRecord), s.hears h = true → h.sender = s.stn + 1 →
    s.lineFree 2 = true → s.window.state = .offered → s.window.record = some r →
    ∃ t, exec (.take h r.serial p) s = .next t
      ∧ ⟨⟨h.sender, .stripRecord, encodeRecord r⟩, 0⟩ ∈ t.line.txQueue
      ∧ .stripClamp false ∈ t.out ∧ .beltOut ∈ t.out
      ∧ SameButNews t { s with
        pins := p, agenda := Agenda.none
        due := s.due ++ [⟨.stripClamp, .clampStrip, true⟩, ⟨.axis .b, .belt, true⟩]
        window.state := .outbound, window.offerTimer := none, window.exitTimer := some 2000
        window.recordQueued := true })
  ∧ (∀ (h : Hdr) (serial reason : Nat) (p : Pins) (s : State), s.isEnd = false →
    (s.hears h = true → h.sender = s.stn + 1 → s.window.state = .offered → serial = s.windowSerial →
      ∃ t, exec (.decline h serial reason p) s = .next t
        ∧ t.window = { s.window with state := .clamped, freshWait := true, offerTimer := none })
    ∧ (s.operating = true → s.window.state = .offered → s.window.offerTimer.isSome = true →
      ∃ t, exec (.offerTimerExpiry p) s = .next t
        ∧ t.window = { s.window with state := .clamped, freshWait := true, offerTimer := none })
    ∧ (s.hearsAgain h = true → (h.sender ≠ s.stn + 1 ∨ s.window.state ≠ .offered ∨ serial ≠ s.windowSerial) →
      (∃ t, exec (.decline h serial reason p) s = .next t ∧ SameButLine t (s.afterHearing p h.sender))
      ∧ ∃ t, exec (.take h serial p) s = .next t ∧ SameButLine t (s.afterHearing p h.sender)))

/-- R15, R92, R102: a STRIP RECORD of the upstream station for the inbound serial of an INBOUND window is checked: a
record that passes becomes the inbound record, one that fails is counted as a bad record. Any other is discarded. -/
def Obligations.StripRecordIsChecked : Prop :=
  ∀ (h : Hdr) (payload : List Byte) (p : Pins) (s : State), s.hearsAgain h = true →
    ∃ t, exec (.stripRecord h payload p) s = .next t ∧
      if h.sender + 1 = s.stn ∧ 4 ≤ payload.length ∧ payload.length ≤ 64 ∧ s.window.state = .inbound
          ∧ s.window.inboundSerial = some (field payload 0 4) then
        match checkRecord payload with
        | some r => SameButLine t { s.afterHearing p h.sender with window.inbound := some r }
        | none => SameButLine t { s.afterHearing p h.sender with line.badRecords := bump16 s.line.badRecords }
      else SameButLine t (s.afterHearing p h.sender)

/-- R175, R180, R181, R183: an ALARM not listed joins the panel's alarm list as OPEN while it has room, with a long
buzz; a listed one gives its entry the context. A SETTLED removes the entry, and with the last DEFERRED one the
deferral timer stops. A SENT entry returns to OPEN at its send timer's expiry, DEFERRED entries at the deferral
timer's, and entries returning to OPEN wake the panel; the idle time reached with no OPEN entry begins standby, and
with an idle time of 0 never (STANDBY is the idle timer's expiry: DEDUCED, log entry 11). -/
def Obligations.PanelListIsKept : Prop :=
  (∀ (h : Hdr) (seq code choice responder serial unit wire : Nat) (k : AlarmKind) (p : Pins) (s : State),
    s.hearsAgain h = true → s.hasPanel = true → AlarmKind.ofCode code = some k →
    (∃ t, exec (.alarm h seq code serial unit wire p) s = .next t ∧ t.panel.list =
      (if s.panel.list.any (fun e => e.isId h.sender seq) then
        s.panel.list.map (fun e => if e.isId h.sender seq then { e with context := some ⟨serial, unit, wire⟩ } else e)
      else if s.panel.list.length < 16 then
        s.panel.list ++ [⟨h.sender, seq, k, some ⟨serial, unit, wire⟩, .opened, false, none⟩]
      else s.panel.list)
      ∧ (s.panel.list.any (fun e => e.isId h.sender seq) = false → s.panel.list.length < 16 →
        t.out = [.buzz true] ∧ t.panel.standby = false ∧ t.panel.overlay = true))
    ∧ ∃ t, exec (.settled h seq code choice responder p) s = .next t
      ∧ t.panel.list = s.panel.list.filter (fun e => !e.isId h.sender seq)
      ∧ ((∀ e ∈ t.panel.list, e.state ≠ .deferred) → t.panel.deferTimer = none)
      ∧ SameButNews t (s.afterHearing p h.sender))
  ∧ (∀ (p : Pins) (s : State) (station seq : Nat), s.operating = true → s.hasPanel = true →
    (∃ t, exec (.sendTimerExpiry station seq p) s = .next t ∧ t.panel.list = s.panel.list.map (fun e =>
        if e.isId station seq && e.state == .sent && e.sendTimer.isSome then { e with state := .opened, sendTimer := none }
        else e)
      ∧ (s.panel.list.any (fun e => e.isId station seq && e.state == .sent && e.sendTimer.isSome) = true →
        t.panel.standby = false ∧ t.panel.idleMs = 0 ∧ t.panel.overlay = true))
    ∧ (s.panel.deferTimer.isSome = true →
      ∃ t, exec (.deferralTimerExpiry p) s = .next t ∧ t.panel.deferTimer = none
        ∧ t.panel.list = s.panel.list.map (fun e =>
          if e.state = .deferred then { e with state := .opened, sendTimer := none } else e)
        ∧ (s.panel.list.any (fun e => e.state == .deferred) = true →
          t.panel.standby = false ∧ t.panel.idleMs = 0 ∧ t.panel.overlay = true))
    ∧ ∃ t, exec (.standby p) s = .next t
      ∧ t.panel.standby = (s.panel.standby || (decide (s.idleLimitMs ≠ 0) && !s.panel.overlay))
      ∧ t.panel.list = s.panel.list ∧ t.panel.stack = s.panel.stack)

/-! ### Answers to alarms -/

/-- R166: a response is without effect unless its id is open at this station and its choice is valid for the kind. -/
def Obligations.InvalidResponseIsIgnored : Prop :=
  ∀ (h : Hdr) (station seq : Nat) (p : Pins) (s : State) (c : Instr × Choice), c ∈ responses h station seq p →
    s.hearsAgain h = true →
    (station ≠ s.stn ∨ ∀ e ∈ s.alarms.queue, e.seq = seq → c.2 ∉ e.kind.choices) →
    ∃ t, exec c.1 s = .next t ∧ SameButLine t (s.afterHearing p h.sender)

/-- R55 to R58, R5, R6: the choices of an alarm of a bond or of touch learn, at a head HELD for it. RETRY discards the
surface height and clears the wire to restart it; SKIP UNIT makes the unit in progress
REJECT here, counts it and clears on to the unit boundary; PASS STRIP sets the bypass flag, changes the unit as R5
specifies and clears on to PARKED. Each settles the alarm, with SETTLED
joining the queue where it has room (R167). -/
def Obligations.WireAlarmChoices : Prop :=
  ∀ (h : Hdr) (seq : Nat) (p : Pins) (s : State) (e : AlarmEntry), s.hearsAgain h = true → s.heldForAlarm = true →
    s.alarmOf seq = some e → e.kind ∈ [.nonStickPad, .nonStickLead, .contactNotFound] →
    (∃ t, exec (.retry h s.stn seq p) s = .next t
      ∧ t.alarms = { s.alarms with queue := s.alarms.queue.filter (fun x => x.seq != seq) }
      ∧ t.head = { s.head with
        surface := none, state := .tail, stage := .clearClamp, intent := .wireRestart, next := .none
        heldFor := .nothing }
      ∧ .wireClamp true ∈ t.out ∧ t.window.record = s.window.record
      ∧ (s.lineFree 2 = true → ⟨settledFrame e .retry h.sender, 0⟩ ∈ t.line.txQueue))
    ∧ (∀ (u : Nat) (r : StripRecord) (n : UnitEntry), s.head.unit = some u → s.window.record = some r →
      r.entry u = some n → (n.state = .opened ∨ n.state = .partialDone) →
      (∃ t r', exec (.skipUnit h s.stn seq p) s = .next t ∧ t.window.record = some r'
        ∧ r'.entry u = some ⟨.reject, s.stn⟩ ∧ (∀ m, m ≠ u → r'.entry m = r.entry m)
        ∧ r'.partials = r.partials.filter (fun x => x.1 != u)
        ∧ t.tally.counters = s.tally.counters.modify 11 Counter.bump
        ∧ t.head.state = .tail ∧ t.head.stage = .clearClamp ∧ t.head.intent = .boundary ∧ t.head.unit = none
        ∧ t.head.doneUnit = none ∧ t.alarms.queue = s.alarms.queue.filter (fun x => x.seq != seq)
        ∧ (s.lineFree 2 = true → ⟨settledFrame e .skipUnit h.sender, 0⟩ ∈ t.line.txQueue))
      ∧ (s.pull.sample = none →
        ∃ t r', exec (.passStrip h s.stn seq p) s = .next t ∧ t.alarms.bypass = true ∧ t.head.unit = none
        ∧ e ∉ t.alarms.queue ∧ (s.alarms.queue.filter (fun x => x.seq != seq)) <+: t.alarms.queue
        ∧ (s.isEnd = false → t.alarms.queue = s.alarms.queue.filter (fun x => x.seq != seq))
        ∧ (s.lineFree 2 = true → ⟨settledFrame e .passStrip h.sender, 0⟩ ∈ t.line.txQueue)
        ∧ t.head.state = .tail ∧ t.head.stage = .clearClamp ∧ t.head.intent = .park
        ∧ t.window.record = some r' ∧ (∀ m, m ≠ u → r'.entry m = r.entry m)
        ∧ (let here := s.head.firstWire < s.head.wire
           if ¬ here then r' = r
           else if n.state = .partialDone then r' = { r with
             partials := r.partials.map (fun x => if x.1 = u then (u, s.head.wire) else x) }
           else if r.partials.length < 4 then
             r'.entry u = some ⟨.partialDone, 0⟩ ∧ (u, s.head.wire) ∈ r'.partials
               ∧ r'.partials.length = r.partials.length + 1
           else r'.entry u = some ⟨.reject, s.stn⟩ ∧ r'.partials = r.partials)))

/-- R59, R108: RESUME of NO BALL fires again; RESUME of TRANSFER JAM at a station other than END reads STRIP OUT for
an OUTBOUND window: a strip shown is CLAMPED again with its record and the fresh-beacon wait set, none shown leaves
the window EMPTY with its record given up and the strip counted as passed. -/
def Obligations.ResumeGoesOn : Prop :=
  ∀ (h : Hdr) (seq : Nat) (p : Pins) (s : State) (e : AlarmEntry), s.hearsAgain h = true → s.alarmOf seq = some e →
    (∀ r w n, e.kind = .noBall → s.heldForAlarm = true → s.onWire r w n →
      ∃ t, exec (.resume h s.stn seq p) s = .next t ∧ t.out.contains (.fire r.sparkCurrent r.sparkTime) = true
        ∧ t.head = { s.head with state := .sparking, stage := .fire, next := .none, heldFor := .nothing }
        ∧ t.alarms.queue = s.alarms.queue.filter (fun x => x.seq != seq))
    ∧ (e.kind = .transferJam → s.window.state = .outbound → s.isEnd = false →
      ∃ t, exec (.resume h s.stn seq p) s = .next t
        ∧ if p.stripOut = true then t.window.state = .clamped ∧ t.window.record = s.window.record
            ∧ t.window.doneHere = s.window.doneHere ∧ t.window.freshWait = true ∧ t.window.exitTimer = none
          else t.window.state = .empty ∧ t.window.record = none ∧ t.window.doneHere = 0 ∧ t.window.exitTimer = none
            ∧ t.tally.counters = s.tally.counters.modify 13 Counter.bump)

/-- R84, R111, R156, R167: CONTINUE of CONDITIONING FAULT credits the cycle: the debt falls by one and the tally
counts it. CONTINUE of LOG FULL settles the alarm and changes nothing else. FORWARD marks the strip in the window. -/
def Obligations.ContinueAndForward : Prop :=
  ∀ (h : Hdr) (seq : Nat) (p : Pins) (s : State) (e : AlarmEntry), s.hearsAgain h = true → s.alarmOf seq = some e →
    (e.kind = .conditioningFault → s.heldForAlarm = true → s.head.winding = false →
      ∃ t, exec (.continue_ h s.stn seq p) s = .next t ∧ t.head.debt = s.head.debt - 1
        ∧ t.tally.counters = s.tally.counters.modify 14 Counter.bump)
    ∧ (e.kind = .logFull → s.line.waiting = [] →
      ∃ t, exec (.continue_ h s.stn seq p) s = .next t ∧ SameButNews t { s.afterHearing p h.sender with
        alarms.queue := s.alarms.queue.filter (fun x => x.seq != seq) })
    ∧ ((e.kind = .recordLost ∨ e.kind = .staleGeneration) → s.window.record.isSome = true →
      ∃ t, exec (.forward h s.stn seq p) s = .next t ∧ t.window.forward = true
        ∧ t.window.record = s.window.record ∧ t.alarmOpen e.kind = (s.alarms.queue.filter
          (fun x => x.seq != seq)).any (fun x => x.kind == e.kind))

/-! ### Grades, holds, bypass and restart -/

/-- R146, R147: a GRADE for this station closes the OPEN entry with its reference. With no place in the write queue
the entry stays, CLOSED with the mode given; with a place, and no entry CLOSED before, it leaves the list for the
queue. Any other GRADE is ignored. -/
def Obligations.GradeClosesEntry : Prop :=
  ∀ (h : Hdr) (ref mode : Nat) (p : Pins) (s : State) (a b : List PendingEntry) (r : PullRecord),
    s.hearsAgain h = true →
    (s.pull.capable = true → 1 ≤ mode → mode ≤ 6 → s.pull.list = a ++ ⟨r, false⟩ :: b → r.ref = ref →
      (∀ e ∈ a ++ b, e.closed = false ∧ e.record.ref ≠ ref) →
      (s.log.hasRoom = false → s.line.waiting = [] →
        ∃ t, exec (.grade h s.stn ref mode p) s = .next t ∧ SameButNews t { s.afterHearing p h.sender with
          pull.list := a ++ ⟨{ r with mode := .graded mode }, true⟩ :: b })
      ∧ (s.log.hasRoom = true → s.pull.phase ≠ .placing →
        ∃ t, exec (.grade h s.stn ref mode p) s = .next t ∧ t.pull.list = a ++ b
          ∧ t.log.queue = s.log.queue ++ [.record { r with mode := .graded mode }]))
    ∧ ∀ station, (station ≠ s.stn ∨ s.pull.capable = false ∨ mode = 0 ∨ 6 < mode
        ∨ ∀ e ∈ s.pull.list, e.record.ref = ref → e.closed = true) →
      ∃ t, exec (.grade h station ref mode p) s = .next t ∧ SameButLine t (s.afterHearing p h.sender)

/-- R170: a HOLD naming a present station other than this one adds it to the hold set, a RELEASE removes it; a HOLD
or RELEASE naming this station, or a number outside 1..7, is ignored.
R171, R176, R183: the HOLD key in standby only wakes the panel; else it toggles the own hold, whatever the screen,
and its frame joins the queue: HOLD naming this station where it sets the hold, RELEASE where it clears it. -/
def Obligations.HoldSetFollowsFramesAndKey : Prop :=
  (∀ (h : Hdr) (n : Nat) (p : Pins) (s : State), s.hears h = true →
    (1 ≤ n → n ≤ 7 → n ≠ s.stn → s.isPresent n = true →
      ∃ t, exec (.hold h n p) s = .next t ∧ ∀ m, m ∈ t.alarms.hold ↔ m ∈ s.alarms.hold ∨ m = n)
    ∧ (1 ≤ n → n ≤ 7 → n ≠ s.stn →
      ∃ t, exec (.release h n p) s = .next t ∧ ∀ m, m ∈ t.alarms.hold ↔ m ∈ s.alarms.hold ∧ m ≠ n)
    ∧ (n = 0 ∨ 7 < n ∨ n = s.stn →
      (∃ t, exec (.hold h n p) s = .next t ∧ t.alarms.hold = s.alarms.hold)
      ∧ ∃ t, exec (.release h n p) s = .next t ∧ t.alarms.hold = s.alarms.hold))
  ∧ (∀ (p : Pins) (s : State), s.operating = true → s.hasPanel = true →
    (s.panel.standby = true →
      ∃ t, exec (.holdKey p) s = .next t ∧ t.panel.standby = false ∧ t.alarms = s.alarms ∧ t.panel.stack = s.panel.stack)
    ∧ (s.panel.standby = false →
      ∃ t, exec (.holdKey p) s = .next t
        ∧ (∀ m, m ≠ s.stn → (m ∈ t.alarms.hold ↔ m ∈ s.alarms.hold))
        ∧ (s.stn ∈ t.alarms.hold ↔ s.stn ∉ s.alarms.hold)
        ∧ (s.head.state ≠ .held → s.head.state ≠ .parked → s.window.state = .empty → s.isFirst = false →
          s.inMag.waiting = none → s.lineFree 2 = true →
          ⟨⟨0, if s.ownHold then .release else .hold, [byteOf s.stn]⟩, 0⟩ ∈ t.line.txQueue)))

/-- R52, R169: a BYPASS request naming this station sets the flag; a head HELD for line hold or at a boundary parks,
one HELD for an alarm stays as it is, and other work in flight but a pull winds down. RESUME BONDING clears the flag,
and a PARKED head that is not homed homes. -/
def Obligations.BypassAndResumeBonding : Prop :=
  ∀ (h : Hdr) (p : Pins) (s : State), s.hears h = true →
    (s.alarms.bypass = false →
      ∃ t, exec (.bypass h s.stn p) s = .next t ∧ t.alarms.bypass = true
        ∧ (s.head.state = .held → s.head.heldFor = .lineHold ∨ s.head.heldFor = .boundary →
            t.head.state = .parked ∧ t.head.unit = none)
        ∧ (s.head.state = .held → s.head.heldFor = .alarm → t.head = s.head)
        ∧ (s.head.state ≠ .held → s.head.state ≠ .parked → s.head.state ≠ .pulling →
            t.head = { s.head with winding := true }))
    ∧ (s.alarms.bypass = true →
      ∃ t, exec (.resumeBonding h s.stn p) s = .next t ∧ t.alarms.bypass = false
        ∧ (s.head.state = .parked → s.head.homed = false → s.running = true →
            t.head.state = .homing ∧ t.head.stage = .homingClamp ∧ .wireClamp true ∈ t.out))

/-- R60, R62, R114, R148, R163, R173, R184, R190, R194, R195: a warm restart empties the transmit queue and settles
every alarm, their SETTLED frames the first of the new queue; an alarm open after it is one its own tests raise. It
clears the bypass flag and the own hold, keeps the rest of the hold set, the alarm counter, the debt, the recipes,
the presence table and L, makes the unit in progress REJECT, sets the last refusal to none, empties the energy rows
and drift rings, ends the sample and the read in service, returns the panel to HOME, and begins homing. While
STARTING, RESTART is refused with NOT READY. That nothing but the beacon follows the SETTLED frames, with an
EMPTY window and the log not FULL, rests on the model's choice for a STRIP RECORD, MAGAZINE DATA, SKIP DATA, HOLD or
RELEASE that waited: all are dropped (R195 against R114, R133, R173: DEDUCED, unsafe, log entry 64). -/
def Obligations.WarmRestart : Prop :=
  ∀ (h : Hdr) (p : Pins) (s : State), s.serves h = true →
    (s.running = true →
      ∃ t, exec (.restart h p) s = .next t ∧ t.phase = .running
        ∧ t.head.state = .homing ∧ t.head.stage = .homingClamp ∧ .wireClamp true ∈ t.out
        ∧ t.head.unit = none ∧ t.head.wire = 0 ∧ t.head.surface = none ∧ t.head.wireOut = false
        ∧ t.head.untrackedRun = 0 ∧ t.head.debt = s.head.debt ∧ t.head.wireCount = s.head.wireCount
        ∧ t.head.locked = s.head.locked ∧ t.head.homed = s.head.homed ∧ t.head.enabled = false
        ∧ t.energy.status = .closed ∧ t.energy.working = none ∧ t.energy.table = none
        ∧ t.energy.rings = List.replicate 8 ⟨0, []⟩
        ∧ t.pull.sample = none ∧ (s.pull.sample.isSome = true → t.pull.phase = .none) ∧ t.pull.refCounter = s.pull.refCounter
        ∧ t.pull.capable = s.pull.capable ∧ (∀ e ∈ t.pull.list, e.closed = true)
        ∧ t.log.service = none ∧ t.log.newest = s.log.newest ∧ t.log.spanEnd = s.log.spanEnd
        ∧ t.log.headers = s.log.headers ∧ t.alarms.bypass = false
        ∧ t.alarms.hold = s.alarms.hold.filter (fun n => n != s.stn)
        ∧ t.recipes = s.recipes ∧ t.line.lastRefusal = none ∧ t.line.last = some h.sender
        ∧ t.line.peers = s.line.peers.modify (h.sender - 1) (fun q => { q with present := true })
        ∧ (s.alarms.queue.length ≤ 8 → t.line.txQueue.take s.alarms.queue.length
            = s.alarms.queue.map (fun e => ⟨settledFrame e .restart 0, 0⟩))
        ∧ (∀ e ∈ t.alarms.queue, e.kind ∈ [.recordLost, .staleGeneration, .outputFull, .logFull])
        ∧ (s.window.state = .empty → p.stripIn = false → s.log.full = false →
            t.alarms.queue = [] ∧ t.alarms.counter = s.alarms.counter
            ∧ (s.alarms.queue.length < 8 → t.line.waiting = [] ∧ t.line.txQueue.drop s.alarms.queue.length
              = [⟨⟨0, .beacon, encodeBeacon t.beaconView⟩, 0⟩]))
        ∧ (∀ u r e, s.head.unit = some u → s.window.record = some r → r.entry u = some e →
            (e.state = .opened ∨ e.state = .partialDone) → s.window.state = .clamped → p.stripOut = true →
            s.pull.sample = none → ∃ r', t.window.record = some r' ∧ r'.entry u = some ⟨.reject, s.stn⟩
              ∧ ∀ m, m ≠ u → r'.entry m = r.entry m)
        ∧ (s.hasPanel = true → t.panel.stack = [.home] ∧ t.panel.buffer = .empty))
    ∧ (s.running = false →
      ∃ t, exec (.restart h p) s = .next t ∧ t.line.lastRefusal = some ⟨.restart, 9, 0⟩ ∧ t.head = s.head
        ∧ t.window.record = s.window.record ∧ t.alarms = s.alarms ∧ t.phase = s.phase)

/-! ### Service requests -/

/-- R20 to R22: a RECIPE SEGMENT that fails a test of R20 is refused by it and changes no set. One that passes is
held at its index in the pending set of its generation, the other segments of that generation staying, but for those
at or above the count that a segment 0 brings where a higher count was held before, those of another generation
discarded; a set left complete is checked, one left incomplete is LOADING. Active and prior set stay. -/
def Obligations.SegmentJoinsPendingSet : Prop :=
  ∀ (h : Hdr) (payload : List Byte) (p : Pins) (s : State), s.serves h = true → payload.length ≤ 64 →
    ∃ t, exec (.recipeSegment h payload p) s = .next t
      ∧ t.recipes.active = s.recipes.active ∧ t.recipes.prior = s.recipes.prior
      ∧ match s.segmentRefusal payload with
        | some r => t.recipes = s.recipes ∧ t.line.lastRefusal = some ⟨.recipeSegment, r.1, r.2⟩
        | none =>
          let index := field payload 1 1
          let q := t.recipes.pending
          q.generation = field payload 0 1
          ∧ (index = 0 → q.count = some (field payload 2 1) ∧ q.segments.lookup 0 = some (payload.drop 3))
          ∧ (index ≠ 0 → q.segments.lookup index = some (payload.drop 2))
          ∧ (let lower := index = 0 ∧ s.recipes.pending.count.any (fun m => field payload 2 1 < m) = true
             ∀ j, j ≠ index → q.segments.lookup j =
              if s.recipes.pending.generation ≠ q.generation ∨ lower ∧ field payload 2 1 ≤ j then none
              else s.recipes.pending.segments.lookup j)
          ∧ q.status = (if q.complete then checkImage q.generation q.image else .loading)

/-- R19, R24, R43: a set is READY only with every one of the fourteen items of the validity check passed: its length
and generation, its counts, the grid, the wire table with its sites, targets and reverse moves on every unit, the
bond parameter sets with their termination modes, the loop profiles, the heights, the tail and the spark, the
intervals, the pull wires and the pull plan. -/
def Obligations.ReadyRecipeIsWithinLimits : Prop :=
  ∀ (gen : Nat) (bs : List Byte) (r : Recipe), checkImage gen bs = .ready r →
    bs.length = 201 + 11 * r.wires ∧ r.generation = gen ∧ 1 ≤ r.units ∧ r.units ≤ 48 ∧ 1 ≤ r.wires ∧ r.wires ≤ 48
    ∧ r.wireTable.length = r.wires ∧ r.sets.length = 8 ∧ r.profiles.length = 4
    ∧ (1 ≤ r.columns ∧ r.columns ≤ r.units ∧ 1 ≤ r.pitchX ∧ r.pitchX ≤ 20000 ∧ 1 ≤ r.pitchY ∧ r.pitchY ≤ 20000
      ∧ r.originX ≤ 120000 ∧ r.originY ≤ 60000)
    ∧ (∀ w ∈ r.wireTable, (w.profile ≤ 3 ∧ w.firstSet ≤ 7 ∧ w.secondSet ≤ 7)
      ∧ (∀ x ∈ [w.padX, w.padY, w.leadX, w.leadY], -10000 ≤ x ∧ x ≤ 10000)
      ∧ ∀ n, 1 ≤ n → n ≤ r.units → (∀ x ∈ [r.padTarget n w, r.leadTarget n w],
          0 ≤ x.1 ∧ x.1 ≤ 120000 ∧ 0 ≤ x.2 ∧ x.2 ≤ 60000) ∧ 0 ≤ r.reverseX n w ∧ r.reverseX n w ≤ 120000)
    ∧ (∀ b ∈ r.sets, 50 ≤ b.impact ∧ b.impact ≤ 2000 ∧ 1 ≤ b.power ∧ b.power ≤ 2000 ∧ 3 ≤ b.time ∧ b.time ≤ 100
        ∧ 1 ≤ b.eTarget ∧ b.eTarget ≤ 65535 ∧ b.eLo ≤ b.eHi ∧ 1 ≤ b.band ∧ b.band ≤ 50 ∧ b.iFloor ≤ 16383)
    ∧ (∀ i, i < 8 → field bs (77 + 16 * i) 1 ≤ 1)
    ∧ (∀ q ∈ r.profiles, q.height ≤ 5000 ∧ q.reverse ≤ 5000 ∧ q.kink ≤ 5000 ∧ q.kink ≤ q.height)
    ∧ r.approach < r.searchLimit ∧ r.searchLimit ≤ 20000
    ∧ (50 ≤ r.tail ∧ r.tail ≤ 2000 ∧ 5 ≤ r.sparkCurrent ∧ r.sparkCurrent ≤ 100 ∧ 50 ≤ r.sparkTime ∧ r.sparkTime ≤ 5000)
    ∧ 10 ≤ r.interval ∧ r.interval ≤ 5000
    ∧ (r.pullInterval ≤ 1000 ∧ r.pullWires.length ≤ 8 ∧ (r.pullInterval ≠ 0 → r.pullWires ≠ []))
    ∧ (r.pullWires.Nodup ∧ ∀ k ∈ r.pullWires, 1 ≤ k ∧ k ≤ r.wires)
    ∧ (1 ≤ r.armForce ∧ r.armForce ≤ 65535 ∧ 1 ≤ r.travel ∧ r.travel ≤ 5000 ∧ 10 ≤ r.hookSpeed ∧ r.hookSpeed ≤ 5000
      ∧ r.idleTime ≤ 255)

/-- R25, R26, R28: RECIPE ACTIVATE of a READY set makes its activation due; at a PARKED head, not deferred, it is
applied at once: the active set becomes prior, the set becomes active with the run, the pending set is NONE and every
drift ring is empty. A set that is not READY, another generation, and a part that is STARTING refuse it. -/
def Obligations.ActivationIsAppliedOrDue : Prop :=
  ∀ (h : Hdr) (gen run : Nat) (p : Pins) (s : State), s.serves h = true →
    (∀ r, s.running = true → s.recipes.pending.generation = gen → s.recipes.pending.status = .ready r →
      (s.head.state = .parked → s.deferred = false →
        ∃ t, exec (.recipeActivate h gen run p) s = .next t
          ∧ t.recipes = ⟨⟨0, none, [], .loading, none⟩, some ⟨r, run⟩, s.recipes.active⟩
          ∧ t.energy.rings = List.replicate 8 ⟨0, []⟩)
      ∧ ((s.head.state ≠ .parked ∧ s.head.state ≠ .held) ∨ s.deferred = true →
        ∃ t, exec (.recipeActivate h gen run p) s = .next t
          ∧ t.recipes = { s.recipes with pending.due := some run }))
    ∧ (∀ code detail, (s.running = false ∧ code = 9 ∧ detail = 0
        ∨ s.running = true ∧ s.recipes.pending.generation ≠ gen ∧ code = 1 ∧ detail = s.recipes.pending.generation
        ∨ s.running = true ∧ s.recipes.pending.generation = gen ∧ s.recipes.pending.status = .loading ∧ code = 1
          ∧ detail = gen
        ∨ s.running = true ∧ s.recipes.pending.generation = gen ∧ s.recipes.pending.status = .invalid detail
          ∧ code = 2) →
      ∃ t, exec (.recipeActivate h gen run p) s = .next t ∧ t.recipes = s.recipes
        ∧ t.line.lastRefusal = some ⟨.recipeActivate, code, detail⟩)

/-- R132, R187, R193, R194, R197: TALLY SNAPSHOT copies the running counters with the generations and the snapshot
number, mode 2 zeroing them too; another mode is refused. TALLY READ answers the snapshot's two frames and changes no
counter. MAGAZINE READ answers the input map at station 1, the output map in four frames at END, and is refused
elsewhere; ERROR DETAIL answers the last refusal, or six zero bytes for none. The replies go to the sender, and a
refusal is kept; a request refused to one station is answered REFUSED. -/
def Obligations.TalliesAndReadoutsAreAnswered : Prop :=
  ∀ (h : Hdr) (p : Pins) (s : State), s.serves h = true → s.hearsAgain h = true →
    (∀ mode, mode = 1 ∨ mode = 2 →
      ∃ t, exec (.tallySnapshot h mode p) s = .next t ∧ SameButLine t { s.afterHearing p h.sender with
        tally := {
          counters := if mode = 2 then List.replicate 19 ⟨0, false⟩ else s.tally.counters
          snapCounters := s.tally.counters
          snapGen := s.activeGen
          snapPrevGen := s.tally.snapGen
          snapNumber := if s.tally.snapNumber < 65535 then s.tally.snapNumber + 1 else 0 } })
    ∧ (∀ mode, mode ≠ 1 → mode ≠ 2 →
      ∃ t, exec (.tallySnapshot h mode p) s = .next t ∧ t.tally = s.tally
        ∧ t.line.lastRefusal = some ⟨.tallySnapshot, 3, mode⟩)
    ∧ (s.lineFree 2 = true →
      ∃ t f g, exec (.tallyRead h p) s = .next t ∧ s.tallyFrames h.sender = [f, g] ∧ t.tally = s.tally
        ∧ t.line.txQueue = s.line.txQueue ++ [⟨f, 0⟩, ⟨g, 0⟩] ∧ f.kind = .tallyData ∧ g.kind = .tallyData
        ∧ f.target = h.sender ∧ f.payload.take 1 = [1] ∧ g.payload.take 1 = [2])
    ∧ (s.isFirst = true → s.lineFree 1 = true →
      ∃ t f, exec (.magazineRead h p) s = .next t ∧ t.line.txQueue = s.placed f ∧ f.target = h.sender
        ∧ f.kind = .magazineData ∧ f = ({ s with pins := p } : State).inputMapFrame h.sender ∧ t.inMag = s.inMag)
    ∧ (s.isFirst = false → s.isEnd = true → s.lineFree 4 = true →
      ∃ t, exec (.magazineRead h p) s = .next t ∧ t.outMag = s.outMag ∧ t.line.txQueue = s.line.txQueue ++
        [0, 1, 2, 3].map (fun i => ⟨({ s with pins := p } : State).outputMapFrame h.sender i, 0⟩))
    ∧ (s.isFirst = false → s.isEnd = false →
      ∃ t, exec (.magazineRead h p) s = .next t ∧ t.line.lastRefusal = some ⟨.magazineRead, 8, s.stn⟩
        ∧ (h.target ≠ 0 → s.lineFree 1 = true →
          t.line.txQueue = s.placed ⟨h.sender, .refused, [21, 8] ++ beBytes 4 s.stn⟩)
        ∧ (h.target = 0 → t.line.txQueue = s.line.txQueue))
    ∧ (s.lineFree 1 = true →
      ∃ t, exec (.errorDetail h p) s = .next t ∧ t.line.txQueue = s.placed ⟨h.sender, .detail,
        match s.line.lastRefusal with
        | some r => [byteOf r.kind.code, byteOf r.code] ++ beBytes 4 r.detail
        | none => [0, 0, 0, 0, 0, 0]⟩ ∧ t.line.lastRefusal = s.line.lastRefusal)

/-- R153, R158, R159: PULL READ and COLLECTED by their tables. A PULL READ taken is in service with its count cut to
8, or its answer is already placed, the log summary first; a COLLECTED taken raises the span end to the last number,
not above the newest, and queues a SPAN MARK. -/
def Obligations.LogRequestsByTable : Prop :=
  ∀ (h : Hdr) (first count last : Nat) (p : Pins) (s : State), s.serves h = true → s.line.waiting = [] →
    (∃ t, exec (.pullRead h first count p) s = .next t ∧
      let refused := fun (code detail : Nat) =>
        t.line.lastRefusal = some ⟨.pullRead, code, detail⟩ ∧ t.log = s.log
      if s.running = false then refused 9 0
      else if s.log.present = false then refused 7 0
      else if count = 0 then refused 3 0
      else match s.log.service with
        | some v => refused 6 v.first
        | none => t.line.lastRefusal = s.line.lastRefusal
            ∧ (s.log.op ≠ .none → t.log = { s.log with service := some ⟨first, min count 8, .waiting⟩ })
            ∧ (s.log.op = .none → t.log.newest = s.log.newest ∧ t.log.spanEnd = s.log.spanEnd
              ∧ ((∃ ph, t.log.service = some ⟨first, min count 8, ph⟩)
                ∨ t.log.service = none ∧ ∃ f, ⟨f, 0⟩ ∈ t.line.txQueue ∧ f.kind = .pullData ∧ f.target = h.sender
                  ∧ f.payload.take 1 = [0])))
    ∧ ∃ t, exec (.collected h first last p) s = .next t ∧
      let upTo := min last s.log.newest
      let refused := fun (code detail : Nat) =>
        t.line.lastRefusal = some ⟨.collected, code, detail⟩ ∧ t.log = s.log
      if s.running = false then refused 9 0
      else if s.log.present = false then refused 7 0
      else if first = 0 ∨ last < first then refused 3 first
      else if s.log.spanEnd + 1 < first then refused 4 s.log.spanEnd
      else if upTo ≤ s.log.spanEnd then t.log = s.log ∧ t.line.lastRefusal = s.line.lastRefusal
      else if 4 ≤ s.log.queue.length then refused 6 upTo
      else t.log.spanEnd = upTo ∧ t.log.queue = s.log.queue ++ [.mark upTo] ∧ t.log.newest = s.log.newest
        ∧ t.line.lastRefusal = s.line.lastRefusal

/-- R125, R126: SKIP SLOTS at station 1, its last clamped to 20: exactly the slots of the range and of the ranges held
before lie in the ranges held after, each slot of the range that is not FED becomes SKIP, no FED slot and no slot
outside every range changes, and SKIP DATA answers. Where four other ranges are held, and with a bad range, or at
another station, the request is refused. -/
def Obligations.SkipSlotsMergesRanges : Prop :=
  ∀ (h : Hdr) (first last : Nat) (p : Pins) (s : State), s.serves h = true → s.inMag.rangesOk = true →
    (s.isFirst = true → s.running = true → 1 ≤ first → first ≤ 20 → first ≤ last →
      (s.inMag.ranges.length < 4 ∨ s.inMag.ranges.any (fun r => touches (first, min last 20) r) = true) →
      ∃ t, exec (.skipSlots h first last p) s = .next t ∧ t.inMag.rangesOk = true
        ∧ (∀ n, covered t.inMag.ranges n
            = (covered s.inMag.ranges n || (decide (first ≤ n) && decide (n ≤ min last 20))))
        ∧ t.inMag.slots.length = s.inMag.slots.length
        ∧ (∀ n x, 1 ≤ n → s.inMag.slots[n - 1]? = some x →
            (first ≤ n → n ≤ min last 20 → x ≠ .fed → t.inMag.slots[n - 1]? = some .skip)
            ∧ (x = .fed ∨ covered t.inMag.ranges n = false → t.inMag.slots[n - 1]? = some x))
        ∧ (s.lineFree 1 = true →
            ⟨⟨h.sender, .skipData, rangeBytes t.inMag.ranges⟩, 0⟩ ∈ t.line.txQueue))
    ∧ (∀ code detail, (s.isFirst = false ∧ code = 8 ∧ detail = s.stn
        ∨ s.isFirst = true ∧ s.running = false ∧ code = 9 ∧ detail = 0
        ∨ s.isFirst = true ∧ s.running = true ∧ (first = 0 ∨ 20 < first) ∧ code = 3 ∧ detail = first
        ∨ s.isFirst = true ∧ s.running = true ∧ 1 ≤ first ∧ first ≤ 20 ∧ last < first ∧ code = 3 ∧ detail = last
        ∨ s.isFirst = true ∧ s.running = true ∧ 1 ≤ first ∧ first ≤ 20 ∧ first ≤ last ∧ s.inMag.ranges.length = 4
          ∧ s.inMag.ranges.all (fun r => !touches (first, min last 20) r) ∧ code = 5 ∧ detail = 4) →
      ∃ t, exec (.skipSlots h first last p) s = .next t ∧ t.inMag = s.inMag
        ∧ t.line.lastRefusal = some ⟨.skipSlots, code, detail⟩)

/-! ### Start-up -/

/-- R37, R191, R192: the end of the listen places a STARTING beacon, starts the beacon timer and begins homing with
wire clamp CLOSE.
R37: homing's stages. The clamp's DONE requests MOVE(Z, 0); the Z DONE requests X and Y to 0, H with the PULL strap,
and E at start-up's homing of a station that drives an elevator; the last answer sets homed, and at start-up the log
scan then begins. -/
def Obligations.StartUpHomesInStages : Prop :=
  (∀ (p : Pins) (s : State), s.operating = true → s.phase = .listening → s.line.txQueue = [] → s.line.waiting = [] →
    s.head.state = .parked →
    ∃ t, exec (.listenEnd p) s = .next t ∧ t.phase = .homing ∧ t.line.beaconTimer = some 50
      ∧ t.line.txQueue = [⟨⟨0, .beacon, encodeBeacon t.beaconView⟩, 0⟩] ∧ t.stationCode = 0
      ∧ t.head = { s.head with
        state := .homing, stage := .homingClamp, next := .park, heldFor := .nothing, intent := .none,
        homingParks := false }
      ∧ .wireClamp true ∈ t.out ∧ t.due = s.due ++ [⟨.wireClamp, .homing, true⟩])
  ∧ (∀ (p : Pins) (s : State) (rest : List Due), s.operating = true → s.line.waiting = [] →
    (takeAnswer .wireClamp (fun _ => true) s.due = some (⟨.wireClamp, .homing, true⟩, rest) →
      ∃ t, exec (.wireClampDone p) s = .next t ∧ t.head = { s.head with state := .homing, stage := .homingZ }
        ∧ t.due = rest ++ [⟨.axis .z, .homing, true⟩] ∧ .move .z 0 .plain ∈ t.out)
    ∧ (takeAnswer (.axis .z) (fun u => u == .homing) s.due = some (⟨.axis .z, .homing, true⟩, rest) →
      s.head.stage = .homingZ →
      ∃ t, exec (.homingMoveDone .z p) s = .next t ∧ t.head = { s.head with state := .homing, stage := .homingTable }
        ∧ .move .x 0 .plain ∈ t.out ∧ .move .y 0 .plain ∈ t.out
        ∧ (.move .h 0 .plain ∈ t.out ↔ s.straps.pullFitted = true)
        ∧ (.move .e 0 .plain ∈ t.out ↔ s.phase = .homing ∧ (s.isFirst = true ∨ s.isEnd = true)))
    ∧ (∀ a, takeAnswer (.axis a) (fun u => u == .homing) s.due = some (⟨.axis a, .homing, true⟩, rest) →
      s.head.stage = .homingTable → ({ s with due := rest } : State).awaiting .homing = false →
      ∃ t, exec (.homingMoveDone a p) s = .next t ∧ t.head.homed = true
        ∧ (s.phase = .homing → t.phase = .scanning ∧ t.log.scan = .header 0 ∧ .slotRead 0 0 ∈ t.out)
        ∧ (s.phase = .homing → s.head.next = .park → t.head.state = .parked)))

/-- R49, R60, R91 and log entry 4: a DONE or FAULT that answers no request changes nothing, and one that answers a
request made before a fault or restart only takes that request's place; the answers that the strip clamp and the belt
give are noted only. -/
def Obligations.StrayAnswersChangeNothing : Prop :=
  ∀ (a : Axis) (n : Nat) (p : Pins) (s : State) (c : Instr) (pt : Port) (ok : Use → Bool), s.operating = true →
    ((c, pt, ok) ∈ ([
      (.homingMoveDone a p, .axis a, (fun u => u == .homing)),
      (.positioningMoveDone a p, .axis a, (fun u => u == .positioning)),
      (.contact n p, .axis .z, (fun u => u == .search)),
      (.searchLimitReached p, .axis .z, (fun u => u == .search)),
      (.ballDownDone p, .axis .z, (fun u => u == .lower)),
      (.loopingMoveDone a p, .axis a, (fun u => u == .looping)),
      (.stitchDownDone p, .axis .z, (fun u => u == .stitch)),
      (.tailMoveDone p, .axis .z, (fun u => u == .tail || u == .clearing)),
      (.wireClampDone p, .wireClamp, (fun _ => true)),
      (.stripClampDone p, .stripClamp, (fun _ => true)),
      (.conditioningMoveDone a p, .axis a, (fun u => u == .conditioning)),
      (.sparkOk p, .spark, (fun _ => true)),
      (.sparkOpen p, .spark, (fun _ => true)),
      (.beltDone p, .axis .b, (fun u => u == .belt)),
      (.beltFault p, .axis .b, (fun u => u == .belt)),
      (.elevatorDone p, .axis .e, (fun _ => true)),
      (.elevatorFault p, .axis .e, (fun _ => true)),
      (.pusherDone p, .axis .p, (fun _ => true)),
      (.pusherFault p, .axis .p, (fun _ => true)),
      (.pullPositioningDone a p, .axis a, (fun u => u == .pullMove)),
      (.hookRiseDone p, .axis .h, (fun u => u == .rise)),
      (.hookReturnDone p, .axis .h, (fun u => u == .hookReturn))] : List (Instr × Port × (Use → Bool)))) →
    (takeAnswer pt ok s.due = none → ∃ t, exec c s = .next t ∧ SameButLine t (s.begin_ p))
    ∧ (∀ d rest, takeAnswer pt ok s.due = some (d, rest) →
      d.live = false ∨ c = .stripClampDone p ∨ c = .beltDone p →
      ∃ t, exec c s = .next t ∧ SameButLine t { s.begin_ p with due := rest })

/-- R161, R162: the start-up scan. A store that does not answer, or answers that none is fitted, ends it: the station
leaves STARTING without a store and not pull-capable. A header read goes on to the next block, its sequence and first
record number kept where its slot is a good header. -/
def Obligations.ScanReadsHeaders : Prop :=
  ∀ (p : Pins) (s : State), s.operating = true → s.phase = .scanning →
    (s.log.scan = .header 0 →
      (∃ t, exec (.storeAnswerTimeout p) s = .next t ∧ t.phase = .running ∧ t.log.present = false
        ∧ t.pull.capable = false ∧ t.log.scan = .idle)
      ∧ ∃ t, exec (.scanReadDone .noStore p) s = .next t ∧ t.phase = .running ∧ t.log.present = false
        ∧ t.pull.capable = false ∧ t.log.scan = .idle)
    ∧ (∀ b bytes, s.log.scan = .header b → b < 63 →
      ∃ t, exec (.scanReadDone (.slot bytes) p) s = .next t ∧ SameButLine t { s with
        pins := p, agenda := Agenda.none, out := [.slotRead (b + 1) 0]
        log.scan := .header (b + 1), log.headers := s.log.headers.set b (readHeader bytes) })
    ∧ (∀ b n bytes, s.log.scan = .upward n → s.log.writeBlock = some b → n < 127 → judgeSlot bytes ≠ .erased →
      ∃ t, exec (.scanReadDone (.slot bytes) p) s = .next t ∧ t.log.scan = .upward (n + 1)
        ∧ t.out = [.slotRead b (n + 1)] ∧ t.log.headers = s.log.headers
        ∧ t.log.newest = (match judgeSlot bytes with
          | .good 1 m | .readable 1 m => max s.log.newest m
          | _ => s.log.newest))

/-! ### The head: a wire's steps -/

/-- R40, R41, R47: positioning moves the table to the pad target, then Z to the approach height; with the wire-out
test passed, touch learn or the ball's lowering follows. CONTACT learns the surface height and lowers the ball to it
with the first-bond set's impact force. -/
def Obligations.WireIsPositioned : Prop :=
  ∀ (p : Pins) (s : State) (a : Axis) (rest : List Due) (r : Recipe) (w : WireEntry) (n : Nat), s.operating = true →
    s.line.waiting = [] → s.onWire r w n →
    (takeAnswer (.axis a) (fun u => u == .positioning) s.due = some (⟨.axis a, .positioning, true⟩, rest) →
      (s.head.stage = .posZ →
        ∃ t, exec (.positioningMoveDone a p) s = .next t ∧ SameButLine t { s with
          pins := p, agenda := Agenda.none, head.stage := .posTable
          out := [.move .x (r.padTarget n w).1 .plain, .move .y (r.padTarget n w).2 .plain]
          due := rest ++ [⟨.axis .x, .positioning, true⟩, ⟨.axis .y, .positioning, true⟩] })
      ∧ (s.head.stage = .posTable → ({ s with due := rest } : State).awaiting .positioning = false →
        ∃ t, exec (.positioningMoveDone a p) s = .next t ∧ SameButLine t { s with
          pins := p, agenda := Agenda.none, head.stage := .posApproach
          out := [.move .z r.approach .plain], due := rest ++ [⟨.axis .z, .positioning, true⟩] })
      ∧ (s.head.stage = .posApproach → s.wireFine p = true → s.head.state = .searching →
        ∃ t, exec (.positioningMoveDone a p) s = .next t ∧ t.head.state = .searching ∧ t.head.stage = .search
          ∧ .zSearch r.approach r.searchLimit 2 ∈ t.out ∧ t.due = rest ++ [⟨.axis .z, .search, true⟩])
      ∧ (s.head.stage = .posApproach → s.wireFine p = true → s.head.state = .ballDown →
        ∃ t, exec (.positioningMoveDone a p) s = .next t ∧ t.head.state = .ballDown ∧ t.head.stage = .lower
          ∧ .move .z (s.head.surface.getD 0) (.force (r.setAt w.firstSet).impact) ∈ t.out
          ∧ t.due = rest ++ [⟨.axis .z, .lower, true⟩]))
    ∧ (∀ height, takeAnswer (.axis .z) (fun u => u == .search) s.due = some (⟨.axis .z, .search, true⟩, rest) →
      s.wireFine p = true →
      ∃ t, exec (.contact height p) s = .next t ∧ t.head = { s.head with
          surface := some height, state := .ballDown, stage := .lower, next := .none, heldFor := .nothing }
        ∧ .move .z height (.force (r.setAt w.firstSet).impact) ∈ t.out
        ∧ t.due = rest ++ [⟨.axis .z, .lower, true⟩])

/-- R42, R44, R48, R63: with the ball or stitch down and the wire-out test passed, the transducer is enabled with the
set's power and a bond opens with the accumulator, count and sums at zero; it is untracked while the generator is
unlocked. -/
def Obligations.BondOpensWithEnable : Prop :=
  ∀ (p : Pins) (s : State) (rest : List Due) (r : Recipe) (w : WireEntry) (n : Nat), s.operating = true →
    s.line.waiting = [] → s.onWire r w n → s.wireFine p = true → s.energy.status = .closed →
    (takeAnswer (.axis .z) (fun u => u == .lower) s.due = some (⟨.axis .z, .lower, true⟩, rest) →
      ∃ t, exec (.ballDownDone p) s = .next t ∧ t.head.state = .firstBond ∧ t.head.enabled = true
        ∧ .enable (r.setAt w.firstSet).power ∈ t.out ∧ t.energy.status = .openFirst
        ∧ t.energy.params = some ⟨w.firstSet, r.generation, r.setAt w.firstSet⟩ ∧ t.energy.sum = 0
        ∧ t.energy.count = 0 ∧ t.energy.refSum = 0 ∧ t.energy.tail = [] ∧ t.energy.tailSum = 0
        ∧ t.energy.rings = s.energy.rings ∧ t.head.untrackedBond = !s.head.locked ∧ t.due = rest)
    ∧ (takeAnswer (.axis .z) (fun u => u == .stitch) s.due = some (⟨.axis .z, .stitch, true⟩, rest) →
      ∃ t, exec (.stitchDownDone p) s = .next t ∧ t.head.state = .secondBond ∧ t.head.enabled = true
        ∧ .enable (r.setAt w.secondSet).power ∈ t.out ∧ t.energy.status = .openSecond
        ∧ t.energy.params = some ⟨w.secondSet, r.generation, r.setAt w.secondSet⟩ ∧ t.energy.sum = 0
        ∧ t.energy.count = 0 ∧ t.energy.refSum = 0 ∧ t.energy.tail = [] ∧ t.energy.tailSum = 0
        ∧ t.energy.rings = s.energy.rings ∧ t.head.untrackedBond = !s.head.locked ∧ t.due = rest)

/-- R64, R65: what the open bond holds after any run of samples: their number, the sum of the clamped products, the
sum of the first 200 currents, and in the tail store the latest quarter of the currents with their sum. -/
def Obligations.SamplesAccumulate : Prop :=
  ∀ (e : Energy) (l : List (Nat × Nat)),
    let i := l.map (fun x => clampSample x.2)
    let t := l.foldl (fun e x => e.addSample x.1 x.2) e.cleared
    t.count = l.length ∧ t.sum = (l.map (fun x => clampSample x.1 * clampSample x.2)).sum
      ∧ t.refSum = (i.take 200).sum ∧ t.tail = i.drop (l.length - l.length / 4) ∧ t.tailSum = t.tail.sum
      ∧ t.status = e.status ∧ t.params = e.params ∧ t.rings = e.rings ∧ t.working = e.working ∧ t.table = e.table

/-- R63 to R70, R76: a sample of no bond is ignored. A sample of the open bond joins its count and sums, and nothing
else changes while the bond goes on. The bond ends by energy in energy mode, from 300 samples on, when the energy
target is reached, else when its set's time is full: it closes, the transducer is disabled, the attempt is counted,
and the energy, rounded and held at 65,535 µJ, stands in the working row. -/
def Obligations.SampleGoesOnOrEndsBond : Prop :=
  ∀ (v i : Nat) (p : Pins) (s : State), s.operating = true →
    (s.energy.params = none → ∃ t, exec (.transducerSample v i p) s = .next t ∧ SameButLine t (s.begin_ p))
    ∧ ∀ q, s.energy.params = some q →
      (let e := s.energy.addSample v i
       let full := q.params.time * 100 ≤ e.count
       let reached := q.params.energyMode = true ∧ 300 ≤ e.count ∧ 2000000 * q.params.eTarget ≤ e.sum + 1000000
       let energy := min 65535 ((e.sum + 1000000) / 2000000)
       (¬ full → ¬ reached →
          ∃ t, exec (.transducerSample v i p) s = .next t ∧ SameButLine t { s.begin_ p with energy := e })
       ∧ (full ∨ reached → s.energy.status ≠ .closed →
          ∃ t, exec (.transducerSample v i p) s = .next t ∧ t.energy.status = .closed ∧ t.energy.params = none
            ∧ t.head.enabled = false ∧ (s.head.enabled = true → .disable ∈ t.out)
            ∧ (s.tally.counters.length = 19 →
                t.tallyOf (if s.energy.status = .openFirst then .firstAttempted else .secondAttempted)
                  = ((s.tally.counters.getD (if s.energy.status = .openFirst then 1 else 6) ⟨0, false⟩).bump).value)
            ∧ (s.head.unit.isSome = true → 1 ≤ s.head.wire →
                t.energy.working = s.energy.working.map (fun row => { row with
                  wires := row.wires.modify (s.head.wire - 1) (fun x =>
                    if s.energy.status = .openFirst then (some energy, x.2) else (x.1, some energy)) }))))

/-- R42, R44, R48, R69 to R75, R196: the outcome of a bond that ends. It is FLAGGED outside its set's energy limits,
short or saturated. A first bond stuck by the pad check, no minimum or a drop of the current that reaches it over the
floor, a second by FRAME CONTACT. Each class has its tally. A stuck bond joins its set's ring, afresh where the
ring's tag names another generation; drift over the full ring of 8 raises ENERGY DRIFT and empties it, its tag kept
(DESIGN CHOICE, log entry 47). An untracked bond is counted and the sixteenth in a row raises GENERATOR UNLOCK. The
loop or the tail follows with its first request, the wire-out test passed, or NON-STICK holds the head.
R47, R48: LOCK and UNLOCK set the lock indication; LOCK ends the untracked run, UNLOCK makes an open bond untracked. -/
def Obligations.BondEndIsJudged : Prop :=
  (∀ (v i : Nat) (p : Pins) (s : State) (q : OpenParams) (r : Recipe) (w : WireEntry) (n : Nat), s.operating = true →
    s.energy.params = some q → s.energy.status ≠ .closed → s.onWire r w n → s.line.waiting = [] →
    (let e := s.energy.addSample v i
     let first := s.energy.status = .openFirst
     let full := q.params.time * 100 ≤ e.count
     let reached := q.params.energyMode = true ∧ 300 ≤ e.count ∧ 2000000 * q.params.eTarget ≤ e.sum + 1000000
     let exact := (e.sum + 1000000) / 2000000
     let energy := min 65535 exact
     let flagged := energy < q.params.eLo ∨ q.params.eHi < energy ∨ 65535 < exact
       ∨ (q.params.energyMode = true ∧ ¬ reached)
     let iRef := e.refSum / 200
     let iFin := e.tailSum / (e.count / 4)
     let drop := if iFin < iRef then min 255 ((iRef - iFin) * 256 / iRef) else 0
     let stuck := if first then q.params.dMin = 0 ∨ (q.params.iFloor ≤ iRef ∧ q.params.dMin ≤ drop)
       else p.frameContact = true
     let held := s.energy.rings.getD q.set ⟨0, []⟩
     let old := if held.tag = q.generation then held.energies else []
     let ring := (old ++ [energy]).drop (old.length + 1 - 8)
     let mean := ring.sum / 8
     let middle := (q.params.eLo + q.params.eHi) / 2
     let drift := ring.length = 8
       ∧ q.params.band * middle < (if mean < middle then middle - mean else mean - middle) * 100
     full ∨ reached →
     ∃ t, exec (.transducerSample v i p) s = .next t ∧ t.head.unit = some n ∧ t.head.wire = s.head.wire
       ∧ t.window.record = s.window.record
       ∧ (let tries := s.tally.counters.modify (if first then 1 else 6) Counter.bump
          let classed := tries.modify ((if first then 1 else 6)
            + (if ¬ stuck then 3 else if flagged then 2 else 1)) Counter.bump
          t.tally.counters = (if s.head.untrackedBond then classed.modify 17 Counter.bump else classed))
       ∧ t.head.untrackedBond = false
       ∧ t.head.untrackedRun = (if s.head.untrackedBond then min 16 (s.head.untrackedRun + 1) else s.head.untrackedRun)
       ∧ (s.head.untrackedBond = true → s.head.untrackedRun = 15 → t.alarmOpen .generatorUnlock = true)
       ∧ (stuck →
           t.energy.rings = s.energy.rings.set q.set ⟨q.generation, if drift then [] else ring⟩
           ∧ t.alarmOpen .energyDrift = (s.alarmOpen .energyDrift || decide drift)
           ∧ (s.wireFine p = true → t.head.enabled = false ∧
               if first then t.head.state = .looping ∧ t.head.stage = .loopClamp ∧ .wireClamp false ∈ t.out
                 ∧ t.due = s.due ++ [⟨.wireClamp, .looping, true⟩]
               else t.head.state = .tail ∧ t.head.stage = .tailPay ∧ .move .z (zTarget s.surfaceHeight r.tail) .plain ∈ t.out
                 ∧ t.due = s.due ++ [⟨.axis .z, .tail, true⟩]))
       ∧ (¬ stuck → t.energy.rings = s.energy.rings ∧ t.alarmOpen .energyDrift = s.alarmOpen .energyDrift
           ∧ t.head.state = .held ∧ t.head.heldFor = .alarm ∧ t.head.next = .wire ∧ t.head.enabled = false
           ∧ t.alarmOpen (if first then .nonStickPad else .nonStickLead) = true)))
  ∧ ∀ (p : Pins) (s : State), s.operating = true →
    (∃ t, exec (.lock p) s = .next t ∧ SameButLine t { s.begin_ p with head.locked := true, head.untrackedRun := 0 })
    ∧ ∃ t, exec (.unlock p) s = .next t ∧ SameButLine t { s.begin_ p with
        head.locked := false
        head.untrackedBond := (s.head.untrackedBond || decide (s.energy.status ≠ .closed)) }

/-- R43, R45, R47, R55: the loop's requests one by one, then STITCH DOWN; the tail's, then FIRE; each on the answer
before. (The first requests of loop and tail stand where the bond before them ends: BondEndIsJudged.)
R52, R55, R85: a clearing closes the clamp, tears the wire at Z home and carries out its intent: the wire starts
anew, or the unit boundary begins, with a conditioning cycle where the debt is above 0; under BYPASS the head parks
with no unit. -/
def Obligations.LoopAndTailRunInOrder : Prop :=
  (∀ (p : Pins) (s : State) (a : Axis) (rest : List Due) (r : Recipe) (w : WireEntry) (n : Nat), s.operating = true →
    s.line.waiting = [] → s.onWire r w n →
    (let base := s.head.surface.getD 0
     let f := r.profileOf w
     (takeAnswer .wireClamp (fun _ => true) s.due = some (⟨.wireClamp, .looping, true⟩, rest) →
        ∃ t, exec (.wireClampDone p) s = .next t ∧ SameButLine t { s with
          pins := p, agenda := Agenda.none, head.stage := .loopKink
          out := [.move .z (zTarget base f.kink) .plain], due := rest ++ [⟨.axis .z, .looping, true⟩] })
     ∧ (takeAnswer (.axis a) (fun u => u == .looping) s.due = some (⟨.axis a, .looping, true⟩, rest) →
        (s.head.stage = .loopKink → ∃ t, exec (.loopingMoveDone a p) s = .next t ∧ SameButLine t { s with
          pins := p, agenda := Agenda.none, head.stage := .loopReverse
          out := [.move .x (r.reverseX n w) .plain], due := rest ++ [⟨.axis .x, .looping, true⟩] })
        ∧ (s.head.stage = .loopReverse → ∃ t, exec (.loopingMoveDone a p) s = .next t ∧ SameButLine t { s with
          pins := p, agenda := Agenda.none, head.stage := .loopHeight
          out := [.move .z (zTarget base f.height) .plain], due := rest ++ [⟨.axis .z, .looping, true⟩] })
        ∧ (s.head.stage = .loopHeight → ∃ t, exec (.loopingMoveDone a p) s = .next t ∧ SameButLine t { s with
          pins := p, agenda := Agenda.none, head.stage := .loopLead
          out := [.move .x (r.leadTarget n w).1 .plain, .move .y (r.leadTarget n w).2 .plain]
          due := rest ++ [⟨.axis .x, .looping, true⟩, ⟨.axis .y, .looping, true⟩] })
        ∧ (s.head.stage = .loopLead → ({ s with due := rest } : State).awaiting .looping = false →
          s.wireFine p = true →
          ∃ t, exec (.loopingMoveDone a p) s = .next t ∧ t.head.state = .stitchDown ∧ t.head.stage = .stitch
            ∧ .move .z base (.force (r.setAt w.secondSet).impact) ∈ t.out)))
    ∧ (takeAnswer (.axis .z) (fun u => u == .tail || u == .clearing) s.due = some (⟨.axis .z, .tail, true⟩, rest) →
      (s.head.stage = .tailPay → ∃ t, exec (.tailMoveDone p) s = .next t ∧ SameButLine t { s with
        pins := p, agenda := Agenda.none, head.stage := .tailClamp
        out := [.wireClamp true], due := rest ++ [⟨.wireClamp, .tail, true⟩] })
      ∧ (s.head.stage = .tailTear → s.wireFine p = true →
        ∃ t, exec (.tailMoveDone p) s = .next t ∧ t.head.state = .sparking ∧ t.head.stage = .fire
          ∧ .fire r.sparkCurrent r.sparkTime ∈ t.out ∧ t.due = rest ++ [⟨.spark, .fire, true⟩]))
    ∧ (takeAnswer .wireClamp (fun _ => true) s.due = some (⟨.wireClamp, .tail, true⟩, rest) →
      ∃ t, exec (.wireClampDone p) s = .next t ∧ SameButLine t { s with
        pins := p, agenda := Agenda.none, head.stage := .tailTear
        out := [.move .z 0 .plain], due := rest ++ [⟨.axis .z, .tail, true⟩] }))
  ∧ ∀ (p : Pins) (s : State) (rest : List Due), s.operating = true →
    (takeAnswer .wireClamp (fun _ => true) s.due = some (⟨.wireClamp, .clearing, true⟩, rest) →
      ∃ t, exec (.wireClampDone p) s = .next t ∧ SameButLine t { s with
        pins := p, agenda := Agenda.none, head.stage := .clearTear
        out := [.move .z 0 .plain], due := rest ++ [⟨.axis .z, .clearing, true⟩] })
    ∧ (takeAnswer (.axis .z) (fun u => u == .tail || u == .clearing) s.due = some (⟨.axis .z, .clearing, true⟩, rest) →
      (s.windsDown = false → s.alarms.hold = [] →
        (∀ r w n, s.onWire r w n → s.head.intent = .wireRestart → s.head.debt ≠ 8 → s.wireFine p = true →
          ∃ t, exec (.tailMoveDone p) s = .next t ∧ t.head.intent = .none ∧ t.head.stage = .posZ
            ∧ .move .z 0 .plain ∈ t.out ∧ t.head.unit = s.head.unit ∧ t.head.wire = s.head.wire)
        ∧ (s.head.intent = .boundary → s.head.doneUnit = none → s.recipes.pending.due = none → 1 ≤ s.head.debt →
          ∃ t, exec (.tailMoveDone p) s = .next t ∧ t.head.state = .conditioning ∧ t.head.stage = .condZ
            ∧ t.head.occasion = .boundary ∧ t.head.sparks = 0 ∧ .move .z 0 .plain ∈ t.out))
      ∧ (s.alarms.bypass = true →
        ∃ t, exec (.tailMoveDone p) s = .next t ∧ t.head.state = .parked ∧ t.head.unit = none ∧ t.head.intent = .none))

/-! ### The head: conditioning, completion and faults -/

/-- R83, R84: the cycle's moves one after another, Z, the table, clamp CLOSE, FIRE with the settings taken at its
start; a spark below the fourth fires again, the fourth credits the cycle. -/
def Obligations.CycleFiresFourTimes : Prop :=
  ∀ (p : Pins) (s : State) (a : Axis) (rest : List Due), s.operating = true →
    (takeAnswer (.axis a) (fun u => u == .conditioning) s.due = some (⟨.axis a, .conditioning, true⟩, rest) →
      (s.head.stage = .condZ → ∃ t, exec (.conditioningMoveDone a p) s = .next t ∧ SameButLine t { s with
        pins := p, agenda := Agenda.none, head.stage := .condTable, out := [.move .x 0 .plain, .move .y 0 .plain]
        due := rest ++ [⟨.axis .x, .conditioning, true⟩, ⟨.axis .y, .conditioning, true⟩] })
      ∧ (s.head.stage = .condTable → ({ s with due := rest } : State).awaiting .conditioning = false →
        ∃ t, exec (.conditioningMoveDone a p) s = .next t ∧ SameButLine t { s with
          pins := p, agenda := Agenda.none, head.stage := .condClamp, out := [.wireClamp true]
          due := rest ++ [⟨.wireClamp, .conditioning, true⟩] }))
    ∧ (takeAnswer .wireClamp (fun _ => true) s.due = some (⟨.wireClamp, .conditioning, true⟩, rest) →
      ∃ t, exec (.wireClampDone p) s = .next t ∧ SameButLine t { s with
        pins := p, agenda := Agenda.none, head.stage := .condFire
        out := [.fire s.head.cycleSpark.1 s.head.cycleSpark.2], due := rest ++ [⟨.spark, .fire, true⟩] })
    ∧ (takeAnswer .spark (fun _ => true) s.due = some (⟨.spark, .fire, true⟩, rest) → s.head.state = .conditioning →
      (s.head.sparks < 3 → ∃ t, exec (.sparkOk p) s = .next t ∧ SameButLine t { s with
        pins := p, agenda := Agenda.none, head.sparks := s.head.sparks + 1
        out := [.fire s.head.cycleSpark.1 s.head.cycleSpark.2], due := rest ++ [⟨.spark, .fire, true⟩] })
      ∧ (3 ≤ s.head.sparks → s.windsDown = false → ∃ t, exec (.sparkOk p) s = .next t
        ∧ t.head.debt = s.head.debt - 1 ∧ t.head.wireCount = s.head.wireCount
        ∧ t.tally.counters = s.tally.counters.modify 14 Counter.bump))

/-- R4, R10, R39, R46, R77, R82: SPARK OK completes the wire: the tally and the wire count advance, and at the
interval the debt rises and the count starts at 0. Short of the last wire, the next one begins with MOVE(Z, 0); with
the last one, the unit becomes DONE by this station, done_here rises and the working row becomes the per-strip energy
table. -/
def Obligations.SparkOkCompletesWire : Prop :=
  ∀ (p : Pins) (s : State) (rest : List Due) (r : Recipe) (w : WireEntry) (n : Nat) (b : Recipe), s.operating = true →
    s.onWire r w n → s.activeSet = some b → s.head.state ≠ .conditioning → s.windsDown = false →
    takeAnswer .spark (fun _ => true) s.due = some (⟨.spark, .fire, true⟩, rest) →
    (let count := if b.interval ≤ s.head.wireCount + 1 then 0 else s.head.wireCount + 1
     let debt := if b.interval ≤ s.head.wireCount + 1 then s.head.debt + 1 else s.head.debt
     (s.head.wire < r.wires → s.alarms.hold = [] → debt ≠ 8 → s.wireFine p = true →
        ∃ t, exec (.sparkOk p) s = .next t ∧ t.head.wire = s.head.wire + 1 ∧ t.head.unit = some n
          ∧ t.head.wireCount = count ∧ t.head.debt = debt ∧ t.head.stage = .posZ ∧ .move .z 0 .plain ∈ t.out
          ∧ t.tally.counters = s.tally.counters.modify 0 Counter.bump ∧ t.window.record = s.window.record)
     ∧ (r.wires ≤ s.head.wire → ∀ rec e, s.window.record = some rec → rec.entry n = some e →
        (e.state = .opened ∨ e.state = .partialDone) →
        ∃ t r', exec (.sparkOk p) s = .next t ∧ t.window.record = some r' ∧ r'.entry n = some ⟨.done, s.stn⟩
          ∧ (∀ m, m ≠ n → r'.entry m = rec.entry m) ∧ r'.partials = rec.partials.filter (fun x => x.1 != n)
          ∧ t.window.doneHere = s.window.doneHere + 1 ∧ t.energy.table = s.energy.working
          ∧ t.head.wireCount = count ∧ t.head.debt = debt
          ∧ t.tally.counters = (s.tally.counters.modify 0 Counter.bump).modify 10 Counter.bump))

/-- R53, R54, R85, R94 to R98, R113, R130, R136: the unit boundary after the wire that completes the strip's unit,
out of line hold. A sample due begins with its first plan wire, or with the log FULL is marked skipped. A debt above
0 has a boundary cycle begin; ENERGY DRIFT or GENERATOR UNLOCK holds the head. Then the pass evaluation: the strip is
ready when no unit is left open, when forwarded, or when this station has made its share with the B_down stations
below. A ready strip is offered downstream, or unloaded at END; one that is not ready, or not offerable with a unit
open and no forward mark, goes on with the lowest unit OPEN or PARTIAL, at its next wire; else the head has no unit
and the strip stays clamped (homingParks holds in HOMING only: HeadStaysLawful). -/
def Obligations.BoundaryRunsInOrder : Prop :=
  ∀ (p : Pins) (s : State) (rest : List Due) (r b : Recipe) (w : WireEntry) (n : Nat) (rec : StripRecord) (e : UnitEntry),
    s.operating = true → s.onWire r w n → s.activeSet = some b → s.head.state ≠ .conditioning → s.windsDown = false →
    takeAnswer .spark (fun _ => true) s.due = some (⟨.spark, .fire, true⟩, rest) → r.wires ≤ s.head.wire →
    s.alarms.hold = [] → s.window.record = some rec → rec.entry n = some e → (e.state = .opened ∨ e.state = .partialDone) →
    (let due := s.pull.capable = true ∧ rec.selected = true ∧ rec.taken = false ∧ rec.skipped = false ∧ r.pullWires ≠ []
     (due → s.log.full = true →
        ∃ t r', exec (.sparkOk p) s = .next t ∧ t.window.record = some r' ∧ r'.skipped = true ∧ r'.taken = false
          ∧ t.head.state ≠ .pulling ∧ t.pull = s.pull)
     ∧ (due → s.log.full = false → s.pull.list.length < 16 →
        ∃ t, exec (.sparkOk p) s = .next t ∧ t.head.state = .pulling ∧ t.head.stage = .posZ ∧ t.pull.phase = .positioning
          ∧ t.pull.sample = some ⟨n, ⟨r.pullWires, r.specMin, r.armForce, r.travel, r.hookSpeed⟩, 0, 0, false, false⟩
          ∧ .move .z 0 .plain ∈ t.out ∧ .move .h 0 .plain ∈ t.out))
    ∧ (rec.selected = false → s.recipes.pending.due = none →
      (let debt := if b.interval ≤ s.head.wireCount + 1 then s.head.debt + 1 else s.head.debt
       let left := s.oNow - 1
       let done := s.window.doneHere + 1
       let ready := left = 0 ∨ s.window.forward = true
         ∨ (1 ≤ s.bDown ∧ (done + left + s.bDown) / (s.bDown + 1) ≤ done)
       (1 ≤ debt → ∃ t, exec (.sparkOk p) s = .next t ∧ t.head.state = .conditioning ∧ t.head.stage = .condZ
          ∧ t.head.occasion = .boundary ∧ t.head.sparks = 0 ∧ .move .z 0 .plain ∈ t.out)
       ∧ (debt ≤ 0 → s.boundaryAlarm = true → ∃ t, exec (.sparkOk p) s = .next t ∧ t.head.state = .held
          ∧ t.head.heldFor = .boundary ∧ t.head.next = .boundary 4 ∧ t.head.unit = none)
       ∧ (debt ≤ 0 → s.boundaryAlarm = false → s.window.state = .clamped →
          (ready → s.offerable = true →
            ∃ t, exec (.sparkOk p) s = .next t ∧ t.window.state = .offered ∧ t.window.offerTimer = some 100
              ∧ t.head.unit = none
              ∧ (s.lineFree 2 = true → ⟨⟨s.stn + 1, .offer, beBytes 4 rec.serial⟩, 0⟩ ∈ t.line.txQueue))
          ∧ (∀ m, ready → s.isEnd = true → s.windowAlarm = false → s.outMag.unloader = .ready → 1 ≤ m →
            s.outMag.slots[m - 1]? = some .empty → (∀ k, k < m - 1 → s.outMag.slots[k]? ≠ some .empty) →
            ∃ t, exec (.sparkOk p) s = .next t ∧ t.window.state = .outbound ∧ t.outMag.unloader = .unloading
              ∧ t.outMag.target = some m ∧ .elevatorSlot m ∈ t.out ∧ t.head.unit = none)
          ∧ (∀ m x, m ≠ n → rec.entry m = some x → (x.state = .opened ∨ x.state = .partialDone) →
            (∀ k y, k < m → k ≠ n → rec.entry k = some y → y.state ≠ .opened ∧ y.state ≠ .partialDone) →
            (¬ ready ∨ (s.offerable = false ∧ s.isEnd = false ∧ s.window.forward = false)) → s.wireFine p = true →
            ∃ t, exec (.sparkOk p) s = .next t ∧ t.head.unit = some m ∧ t.head.wire = rec.startWire m
              ∧ t.head.stage = .posZ ∧ .move .z 0 .plain ∈ t.out ∧ t.window.state = .clamped)
          ∧ (ready → s.offerable = false → s.isEnd = false → left = 0 ∨ s.window.forward = true → s.head.homingParks = false →
            ∃ t, exec (.sparkOk p) s = .next t ∧ t.window.state = .clamped ∧ t.head.unit = none
              ∧ (t.head.state = .parked ∨ t.head.state = .conditioning)))))

/-- R41, R45, R49, R50, R61, R84: SPARK OPEN raises NO BALL, or CONDITIONING FAULT in a cycle; the search limit
raises CONTACT NOT FOUND; a FAULT of X, Y, Z or H raises DRIVE FAULT, clears homed, aborts an open bond and has every
answer due to the head ignored. Each holds the head with the transducer disabled, and the record stays. A FAULT of E,
P or B is no drive fault (log entry 9). R58: under BYPASS the last homing that DRIVE FAULT allows parks the head, not
homed, with no further alarm (DEDUCED, log entry 49).
R47: a fall of WIRE PRESENT sets the wire-out latch whatever the head state. With the latch set or WIRE PRESENT low,
BALL DOWN, FIRST BOND and SECOND BOND are not started by the answer that would: WIRE OUT is raised, the latch is
cleared, the step is the head's next work, and the head is HELD with the transducer disabled. -/
def Obligations.FaultsHoldTheHead : Prop :=
  (∀ (p : Pins) (s : State) (rest : List Due) (a : Axis), s.operating = true →
    (takeAnswer .spark (fun _ => true) s.due = some (⟨.spark, .fire, true⟩, rest) →
      ∃ t, exec (.sparkOpen p) s = .next t ∧ t.head.state = .held ∧ t.head.heldFor = .alarm ∧ t.head.enabled = false
        ∧ t.window.record = s.window.record ∧ t.head.unit = s.head.unit
        ∧ (if s.head.state = .conditioning then
            t.alarmOpen .conditioningFault = true ∧ t.head.next = .cycle s.head.occasion
          else t.alarmOpen .noBall = true ∧ t.head.next = .refire))
    ∧ (takeAnswer (.axis .z) (fun u => u == .search) s.due = some (⟨.axis .z, .search, true⟩, rest) →
      ∃ t, exec (.searchLimitReached p) s = .next t ∧ t.head.state = .held ∧ t.head.heldFor = .alarm
        ∧ t.head.next = .wire ∧ t.head.enabled = false ∧ t.alarmOpen .contactNotFound = true ∧ t.window.record = s.window.record
        ∧ t.head.unit = s.head.unit ∧ t.head.surface = s.head.surface)
    ∧ (isHeadAxis a = true → takeAnswer (.axis a) (fun _ => true) s.due = none ∨
        (∃ u, takeAnswer (.axis a) (fun _ => true) s.due = some (⟨.axis a, u, true⟩, rest)) →
      (¬ (s.head.state = .held ∧ s.head.heldFor = .alarm) → ¬ (s.head.state = .homing ∧ s.head.homingParks = true) →
      ∃ t, exec (.driveFault a p) s = .next t ∧ t.head.homed = false ∧ t.head.state = .held
        ∧ t.head.heldFor = .alarm ∧ t.head.enabled = false ∧ t.energy.status = .closed
        ∧ t.alarmOpen .driveFault = true ∧ t.head.unit = s.head.unit
        ∧ t.window.record = s.window.record ∧ (∀ d ∈ t.due, d.use.ofHead = true → d.live = false))
      ∧ (s.head.state = .homing → s.head.homingParks = true → s.alarms.bypass = true →
        ∃ t, exec (.driveFault a p) s = .next t ∧ t.head.homed = false ∧ t.head.state = .parked
          ∧ t.head.unit = s.head.unit ∧ t.alarmOpen .driveFault = s.alarmOpen .driveFault
          ∧ (∀ d ∈ t.due, d.use.ofHead = true → d.live = false)))
    ∧ (isHeadAxis a = false →
      ∃ t, exec (.driveFault a p) s = .next t ∧ SameButLine t (s.begin_ p))
    ∧ ∃ t, exec (.wirePresentFalls p) s = .next t ∧ SameButLine t { s.begin_ p with head.wireOut := true })
  ∧ (∀ (p : Pins) (s : State) (rest : List Due) (n : Nat) (c : Instr) (u : Use) (w : WireStep), s.operating = true →
    s.wireFine p = false →
    (c, u, w) ∈ [(.contact n p, Use.search, WireStep.ballDown), (.ballDownDone p, .lower, .firstBond),
      (.stitchDownDone p, .stitch, .secondBond)] →
    takeAnswer (.axis .z) (fun x => x == u) s.due = some (⟨.axis .z, u, true⟩, rest) →
    ∃ t, exec c s = .next t ∧ t.head.state = .held ∧ t.head.heldFor = .alarm ∧ t.head.next = .step w
      ∧ t.head.wireOut = false ∧ t.head.enabled = false ∧ t.alarmOpen .wireOut = true ∧ t.energy.status = s.energy.status ∧ t.head.unit = s.head.unit
      ∧ t.window.record = s.window.record)

/-! ### The window -/

/-- R8, R103, R104, R109: STRIP IN rising clamps the strip: with the inbound record in an INBOUND window, with an
unknown-strip record and RECORD LOST in an EMPTY one and in an INBOUND one that holds none; the arrival is counted.
R112, R120, R122: at station 1 a strip fed receives a new record: the next serial, the active set's generation and
run, every unit OPEN, selected at each pull interval's serial. Its slot is FED, the feed timer stops and the pusher
retracts; one that arrives late also settles FEED JAM (a retract already answered leaves the feed IDLE: log entry
50). STRIP OUT clearing at a station other than END gives the record of an OUTBOUND window up and counts the strip as
passed. Under TRANSFER JAM neither has an effect (R107). -/
def Obligations.StripSensorsMoveTheWindow : Prop :=
  ∀ (p : Pins) (s : State), s.operating = true → s.running = true →
    (s.alarmOpen .transferJam = false →
      (∀ r, s.window.state = .inbound → s.isFirst = false → s.window.inbound = some r →
        ∃ t, exec (.stripInRises p) s = .next t ∧ t.window.record = some r ∧ t.window.doneHere = 0
          ∧ t.window.inbound = none ∧ t.window.inboundSerial = none ∧ t.window.arrivalTimer = none
          ∧ t.window.state ≠ .inbound ∧ t.window.state ≠ .empty ∧ .stripClamp true ∈ t.out
          ∧ t.tally.counters = s.tally.counters.modify 12 Counter.bump)
      ∧ (s.window.state = .empty ∨ (s.window.state = .inbound ∧ s.isFirst = false ∧ s.window.inbound = none) →
        ∃ t, exec (.stripInRises p) s = .next t ∧ t.window.record = some (unknownRecord
            (match s.recipes.active with | some h => h.recipe.units | none => 48))
          ∧ t.window.state = .clamped ∧ t.alarmOpen .recordLost = true ∧ .stripClamp true ∈ t.out
          ∧ t.tally.counters = s.tally.counters.modify 12 Counter.bump)
      ∧ (∀ h n, s.window.state = .inbound → s.isFirst = true → s.recipes.active = some h → s.inMag.feedSlot = some n →
        1 ≤ n → n ≤ 20 → s.inMag.slots.length = 20 →
        s.inMag.feed = .pushing ∨ (s.inMag.feed = .jammed ∧ s.alarms.idsOk = true) →
        ∃ t, exec (.stripInRises p) s = .next t
          ∧ t.window.record = some {
              serial := s.inMag.serialCounter, generation := h.recipe.generation, run := h.run
              units := List.replicate h.recipe.units ⟨.opened, 0⟩, partials := []
              selected := decide (h.recipe.pullInterval ≠ 0 ∧ s.inMag.serialCounter % h.recipe.pullInterval = 0)
              taken := false, skipped := false }
          ∧ t.window.state ≠ .inbound ∧ t.window.state ≠ .empty ∧ .stripClamp true ∈ t.out
          ∧ t.inMag.serialCounter = (if 4294967295 ≤ s.inMag.serialCounter then 1 else s.inMag.serialCounter + 1)
          ∧ t.inMag.slot n = .fed ∧ t.inMag.fed = s.inMag.fed + 1 ∧ t.inMag.feedTimer = none
          ∧ t.tally.counters = s.tally.counters.modify 12 Counter.bump
          ∧ (s.inMag.feed = .pushing → t.inMag.feed = .retracting ∧ (s.awaiting .push = false → .move .p 0 .plain ∈ t.out))
          ∧ (s.inMag.feed = .jammed → t.alarmOpen .feedJam = false ∧ t.inMag.waiting = none ∧ t.inMag.retrying = false
              ∧ t.inMag.feed = (if s.awaiting .retract then .retracting else .idle)))
      ∧ (s.window.state = .outbound → s.isEnd = false →
        ∃ t, exec (.stripOutClears p) s = .next t ∧ t.window.state = .empty ∧ t.window.record = none
          ∧ t.window.doneHere = 0 ∧ t.window.exitTimer = none ∧ t.window.forward = false
          ∧ t.window.freshWait = false ∧ t.head.surface = none ∧ t.energy.table = none
          ∧ t.tally.counters = s.tally.counters.modify 13 Counter.bump))
    ∧ (s.alarmOpen .transferJam = true →
      (∃ t, exec (.stripInRises p) s = .next t ∧ SameButLine t (s.begin_ p))
      ∧ ∃ t, exec (.stripOutClears p) s = .next t ∧ SameButLine t (s.begin_ p))

/-- R105, R106: the arrival timer's expiry withdraws an INBOUND window without a record to EMPTY, counted, and raises
TRANSFER JAM with a record held; the exit timer's expiry, and a belt FAULT answering MOVE(B, OUT), raise TRANSFER JAM
for an OUTBOUND window. A jam stops the window's timers and keeps its state and record. (A FAULT answers the oldest
MOVE(B, OUT) still due, one of an earlier transfer that is live among them: log entries 4 and 68.) -/
def Obligations.TransferTimersExpire : Prop :=
  ∀ (p : Pins) (s : State), s.operating = true →
    (s.window.state = .inbound → s.window.arrivalTimer.isSome = true →
      (s.window.inbound = none → s.line.withdrawn < 65535 →
        ∃ t, exec (.arrivalTimerExpiry p) s = .next t ∧ t.window.state = .empty ∧ t.window.inboundSerial = none
          ∧ t.window.arrivalTimer = none ∧ t.line.withdrawn = s.line.withdrawn + 1)
      ∧ (∀ r, s.window.inbound = some r →
        ∃ t, exec (.arrivalTimerExpiry p) s = .next t ∧ t.alarmOpen .transferJam = true ∧ t.window = { s.window with
          offerTimer := none, arrivalTimer := none, exitTimer := none }))
    ∧ (s.window.state = .outbound → s.line.waiting = [] →
      (s.window.exitTimer.isSome = true →
        ∃ t, exec (.exitTimerExpiry p) s = .next t ∧ t.alarmOpen .transferJam = true ∧ t.window = { s.window with
          offerTimer := none, arrivalTimer := none, exitTimer := none })
      ∧ (∀ rest, takeAnswer (.axis .b) (fun u => u == .belt) s.due = some (⟨.axis .b, .belt, true⟩, rest) →
        s.isEnd = false ∨ s.outMag.unloader = .unloading →
        ∃ t, exec (.beltFault p) s = .next t ∧ t.alarmOpen .transferJam = true ∧ t.due = rest
          ∧ t.window = { s.window with offerTimer := none, arrivalTimer := none, exitTimer := none }))

/-! ### The magazines -/

/-- R118, R119, R121, R128, R131: an inserted magazine starts its map afresh, every slot UNKNOWN, and is counted; at
END it is scanned from slot 1, one inserted while UNLOADING once the unload is settled. A removed one leaves its map
OUT OF DATE: a search is given up, a push is jammed; an unloader not UNLOADING becomes ABSENT, and an unload is held
by TRANSFER JAM. -/
def Obligations.MagazinesComeAndGo : Prop :=
  ∀ (p : Pins) (s : State), s.operating = true → s.running = true →
    (s.isFirst = true →
      (∃ t, exec (.inputMagInserted p) s = .next t ∧ t.inMag.slots = List.replicate 20 .unknown
        ∧ t.inMag.ranges = [] ∧ t.inMag.current = true ∧ t.inMag.fed = 0
        ∧ t.inMag.inserted = (if s.inMag.inserted < 65535 then s.inMag.inserted + 1 else 0)
        ∧ t.inMag.serialCounter = s.inMag.serialCounter)
      ∧ ∃ t, exec (.inputMagRemoved p) s = .next t ∧ t.inMag.current = false ∧ t.inMag.slots = s.inMag.slots
        ∧ (s.inMag.feed = .searching → p.magPresent = false → t.inMag.feed = .idle)
        ∧ (s.inMag.feed = .pushing → t.inMag.feed = .jammed ∧ t.alarmOpen .feedJam = true
            ∧ t.inMag.feedSlot = s.inMag.feedSlot ∧ .move .p 0 .plain ∈ t.out))
    ∧ (s.isEnd = true →
      (s.outMag.unloader ≠ .unloading →
        (∃ t, exec (.outputMagInserted p) s = .next t ∧ t.outMag.slots = List.replicate 20 .unknown
          ∧ t.outMag.current = true ∧ t.outMag.filled = 0 ∧ t.outMag.unloader = .scanning ∧ t.outMag.target = some 1
          ∧ t.outMag.inserted = (if s.outMag.inserted < 65535 then s.outMag.inserted + 1 else 0)
          ∧ .elevatorSlot 1 ∈ t.out)
        ∧ ∃ t, exec (.outputMagRemoved p) s = .next t ∧ t.outMag.current = false ∧ t.outMag.unloader = .absent
          ∧ t.outMag.target = none ∧ t.outMag.slots = s.outMag.slots)
      ∧ (s.outMag.unloader = .unloading →
        (∃ t, exec (.outputMagInserted p) s = .next t ∧ t.outMag = { s.outMag with
          inserted := if s.outMag.inserted < 65535 then s.outMag.inserted + 1 else 0, lateInsertion := true })
        ∧ ∃ t, exec (.outputMagRemoved p) s = .next t ∧ t.outMag.current = false ∧ t.outMag.unloader = .unloading
          ∧ t.alarmOpen .transferJam = true ∧ t.window.record = s.window.record))

/-- R119, R123, R124, R128, R130, R131: what the elevator's answer does, by what it was asked for. A search finds its
slot LOADED and pushes; past an EMPTY or SKIP one it goes on to the next slot UNKNOWN or LOADED, or ends with INPUT
EMPTY. A retry with its window EMPTY or INBOUND (that guard: DEDUCED, log entry 51) pushes a LOADED slot again and
gives an EMPTY one up; a slot become SKIP stays SKIP whichever way SLOT SENSE reads, is pushed where a strip is sensed,
and a magazine removed meanwhile changes none of this (DEDUCED, unsafe, log entry 20). A scan files the slot and goes
on, and ends after slot 20; an unload opens the clamp and runs the belt. Its FAULT jams a search or a retry with the
pusher retracted, ends a scan and jams an unload. -/
def Obligations.ElevatorAnswers : Prop :=
  ∀ (p : Pins) (s : State) (rest : List Due) (n : Nat) (u : Use), s.operating = true →
    takeAnswer (.axis .e) (fun _ => true) s.due = some (⟨.axis .e, u, true⟩, rest) →
    (u = .feedSearch → s.inMag.feed = .searching → s.inMag.feedSlot = some n → 1 ≤ n → n ≤ 20 → s.inMag.slots.length = 20 →
      (s.inMag.slot n ≠ .skip → p.slotSense = true →
        ∃ t, exec (.elevatorDone p) s = .next t ∧ t.inMag.slot n = .loaded ∧ t.inMag.feed = .pushing
          ∧ t.inMag.feedSlot = some n ∧ t.inMag.feedTimer = some 1000 ∧ t.window.state = .inbound
          ∧ .pusherPush ∈ t.out ∧ (∀ m, 1 ≤ m → m ≠ n → t.inMag.slot m = s.inMag.slot m))
      ∧ (s.inMag.slot n = .skip ∨ p.slotSense = false →
        ∃ t, exec (.elevatorDone p) s = .next t
          ∧ t.inMag.slot n = (if s.inMag.slot n = .skip then .skip else .empty)
          ∧ (∀ m, 1 ≤ m → m ≠ n → t.inMag.slot m = s.inMag.slot m) ∧ .pusherPush ∉ t.out
          ∧ (∀ m, n < m → m ≤ 20 → (s.inMag.slot m = .unknown ∨ s.inMag.slot m = .loaded) →
              (∀ k, n < k → k < m → s.inMag.slot k ≠ .unknown ∧ s.inMag.slot k ≠ .loaded) →
              t.inMag.feed = .searching ∧ t.inMag.feedSlot = some m ∧ .elevatorSlot m ∈ t.out)
          ∧ ((∀ k, n < k → k ≤ 20 → s.inMag.slot k ≠ .unknown ∧ s.inMag.slot k ≠ .loaded) →
              t.inMag.feed = .idle ∧ (s.inMag.emptyAnswered = false → t.alarmOpen .inputEmpty = true))))
    ∧ (u = .feedRetry → s.inMag.retrying = true → s.inMag.feedSlot = some n → 1 ≤ n → n ≤ 20 → s.inMag.slots.length = 20 →
      s.window.state = .empty ∨ s.window.state = .inbound →
      ∃ t, exec (.elevatorDone p) s = .next t
        ∧ t.inMag.slot n = (if s.inMag.slot n = .skip then .skip else if p.slotSense then .loaded else .empty)
        ∧ (∀ m, 1 ≤ m → m ≠ n → t.inMag.slot m = s.inMag.slot m) ∧ t.inMag.retrying = false
        ∧ (if p.slotSense then t.inMag.feed = .pushing ∧ t.inMag.feedSlot = some n ∧ t.inMag.feedTimer = some 1000
              ∧ t.window.state = .inbound ∧ .pusherPush ∈ t.out
            else t.inMag.feed ≠ .pushing ∧ t.window.state = .empty ∧ .pusherPush ∉ t.out))
    ∧ (u = .feedSearch ∨ u = .feedRetry →
      ∃ t, exec (.elevatorFault p) s = .next t ∧ t.inMag.feed = .jammed ∧ t.alarmOpen .feedJam = true
        ∧ t.inMag.feedSlot = s.inMag.feedSlot ∧ t.inMag.retrying = false ∧ .move .p 0 .plain ∈ t.out
        ∧ t.inMag.slots = s.inMag.slots)
    ∧ (u = .outScan → s.outMag.unloader = .scanning →
      (s.outMag.target = some n → n < 20 →
        ∃ t, exec (.elevatorDone p) s = .next t
          ∧ t.outMag.slots = s.outMag.slots.set (n - 1) (if p.slotSense then .sensedFull else .empty)
          ∧ t.outMag.unloader = .scanning ∧ t.outMag.target = some (n + 1) ∧ .elevatorSlot (n + 1) ∈ t.out)
      ∧ (s.outMag.target = some 20 →
        let slots := s.outMag.slots.set 19 (if p.slotSense then .sensedFull else .empty)
        ∃ t, exec (.elevatorDone p) s = .next t ∧ t.outMag.slots = slots ∧ t.outMag.unloader ≠ .scanning
          ∧ (s.window.state ≠ .clamped → t.outMag.unloader = .ready ∧ t.outMag.target = none
              ∧ (s.alarms.idsOk = true → .empty ∈ slots → t.alarmOpen .outputFull = false)))
      ∧ ∃ t, exec (.elevatorFault p) s = .next t ∧ t.outMag.slots = s.outMag.slots ∧ t.outMag.unloader ≠ .scanning)
    ∧ (u = .unloadMove → s.outMag.unloader = .unloading →
      (s.alarmOpen .transferJam = false →
        ∃ t, exec (.elevatorDone p) s = .next t ∧ .stripClamp false ∈ t.out ∧ .beltOut ∈ t.out
          ∧ t.outMag = { s.outMag with unloadTimer := some 2000 })
      ∧ ∃ t, exec (.elevatorFault p) s = .next t ∧ t.alarmOpen .transferJam = true
        ∧ t.outMag = { s.outMag with unloadTimer := none } ∧ t.window.record = s.window.record)

/-- R120, R121, R130, R131: the pusher's answers, and the magazines' timers and slot sensor. A retract answered
leaves the feed IDLE, or, by a FAULT, raises FEED JAM; a push answered by a FAULT, and the feed timer's expiry, jam
the feed with the pusher retracted; SLOT SENSE rising once the strip has left the window files it in the target slot
with its summary; the unload timer's expiry raises TRANSFER JAM. -/
def Obligations.FeedAndUnloadEnd : Prop :=
  ∀ (p : Pins) (s : State) (rest : List Due) (u : Use), s.operating = true →
    (takeAnswer (.axis .p) (fun _ => true) s.due = some (⟨.axis .p, u, true⟩, rest) →
      (u = .retract → s.inMag.feed = .retracting → s.isFirst = true → s.window.state ≠ .empty →
        (∃ t, exec (.pusherDone p) s = .next t ∧ t.inMag.feed = .idle ∧ t.inMag.feedSlot = none
          ∧ t.inMag.slots = s.inMag.slots)
        ∧ ∃ t, exec (.pusherFault p) s = .next t ∧ t.inMag.feed = .retracting ∧ t.alarmOpen .feedJam = true
          ∧ t.inMag.slots = s.inMag.slots)
      ∧ (u = .push → s.inMag.feed = .pushing →
        (∃ t, exec (.pusherDone p) s = .next t ∧ SameButLine t { s.begin_ p with due := rest })
        ∧ ∃ t, exec (.pusherFault p) s = .next t ∧ t.inMag.feed = .jammed ∧ t.alarmOpen .feedJam = true
          ∧ t.inMag.feedTimer = none ∧ t.inMag.feedSlot = s.inMag.feedSlot ∧ .move .p 0 .plain ∈ t.out))
    ∧ (s.inMag.feedTimer.isSome = true → s.inMag.feed = .pushing →
      ∃ t, exec (.feedTimerExpiry p) s = .next t ∧ t.inMag.feed = .jammed ∧ t.alarmOpen .feedJam = true
        ∧ t.inMag.feedTimer = none ∧ t.inMag.feedSlot = s.inMag.feedSlot ∧ .move .p 0 .plain ∈ t.out)
    ∧ (∀ n r, s.isEnd = true → s.outMag.unloader = .unloading → s.outMag.leftWindow = true →
      s.alarmOpen .transferJam = false → s.outMag.target = some n → s.window.record = some r →
      ∃ t, exec (.slotSenseRises p) s = .next t ∧ t.outMag.slots = s.outMag.slots.set (n - 1)
          (.filled r.serial r.summary) ∧ t.outMag.filled = s.outMag.filled + 1 ∧ t.outMag.unloader = .ready
        ∧ t.outMag.target = none ∧ t.outMag.unloadTimer = none ∧ t.window.state = .empty ∧ t.window.record = none
        ∧ t.tally.counters = s.tally.counters.modify 13 Counter.bump)
    ∧ (s.outMag.unloadTimer.isSome = true → s.outMag.unloader = .unloading →
      ∃ t, exec (.unloadTimerExpiry p) s = .next t ∧ t.alarmOpen .transferJam = true
        ∧ t.outMag = { s.outMag with unloadTimer := none } ∧ t.window.record = s.window.record
        ∧ t.window.state = s.window.state)

/-! ### Pull testing and the log -/

/-- R137, R138, R140, R142: a plan wire's moves, Z and H home, then the table to the loop midpoint, then the rise at
the hook speed, which makes the wire stressed and starts filter, count, peak and arming afresh. The travel limit
reached without a break gives a NO BREAK record, CLOSED, at the travel's height; the return answered ends the plan
wire, and with the last one the sample, whose unit becomes PULLED with sample taken set. -/
def Obligations.PlanWireIsPulled : Prop :=
  ∀ (p : Pins) (s : State) (a : Axis) (rest : List Due) (m : Sample), s.operating = true → s.pull.sample = some m →
    (takeAnswer (.axis a) (fun u => u == .pullMove) s.due = some (⟨.axis a, .pullMove, true⟩, rest) →
      ({ s with due := rest } : State).awaiting .pullMove = false →
      (∀ r w, s.head.stage = .posZ → s.stripSet = some r → s.planEntry m = some w →
        ∃ t, exec (.pullPositioningDone a p) s = .next t ∧ SameButLine t { s with
          pins := p, agenda := Agenda.none, head.stage := .posTable
          out := [.move .x (r.midTarget m.unit w).1 .plain, .move .y (r.midTarget m.unit w).2 .plain]
          due := rest ++ [⟨.axis .x, .pullMove, true⟩, ⟨.axis .y, .pullMove, true⟩] })
      ∧ (s.head.stage = .posTable →
        ∃ t, exec (.pullPositioningDone a p) s = .next t ∧ SameButLine t { s with
          pins := p, agenda := Agenda.none, head.stage := .idle
          pull.sample := some { m with stressed := m.stressed + 1 }, pull.phase := .rising, pull.ring := []
          pull.k := 0, pull.peak := 0, pull.armed := false
          out := [.move .h m.plan.travel (.speed m.plan.speed)], due := rest ++ [⟨.axis .h, .rise, true⟩] }))
    ∧ (takeAnswer (.axis .h) (fun u => u == .rise) s.due = some (⟨.axis .h, .rise, true⟩, rest) →
      s.pull.phase = .rising →
      ∃ t, exec (.hookRiseDone p) s = .next t ∧ t.pull.phase = .returning
        ∧ (let r := s.pullRecord m m.plan.travel .noBreak
           (s.log.hasRoom = false → t.pull.list = s.pull.list ++ [⟨r, true⟩])
           ∧ (s.log.hasRoom = true → (∀ x ∈ s.pull.list, x.closed = false) →
             t.pull.list = s.pull.list ∧ t.log.queue = s.log.queue ++ [.record r]))
        ∧ t.pull.refCounter = (if 255 ≤ s.pull.refCounter then 1 else s.pull.refCounter + 1)
        ∧ t.tally.counters = s.tally.counters.modify 15 Counter.bump ∧ .move .h 0 .plain ∈ t.out)
    ∧ (takeAnswer (.axis .h) (fun u => u == .hookReturn) s.due = some (⟨.axis .h, .hookReturn, true⟩, rest) →
      m.plan.wires.length ≤ m.index + 1 → 1 ≤ m.stressed → ∀ r e, s.window.record = some r →
      r.entry m.unit = some e → e.state = .done →
      ∃ t r', exec (.hookReturnDone p) s = .next t ∧ t.pull.sample = none ∧ t.pull.phase = .none
        ∧ t.window.record = some r' ∧ r'.taken = true ∧ r'.entry m.unit = some ⟨.pulled, e.bonder⟩
        ∧ (∀ n, n ≠ m.unit → r'.entry n = r.entry n))

/-- R139 to R141: a force sample while rising joins the filter ring of at most eight; the peak and the arming follow
the filtered force. A sample that is no break changes nothing else; the break, the first filtered force below half
the peak once armed, ends the rise with an OPEN record, PASS or LOW by the spec minimum, at the height of its sample
number. A sample that comes while no wire rises is ignored. -/
def Obligations.ForceSamplesFindTheBreak : Prop :=
  ∀ (f : Nat) (p : Pins) (s : State), s.operating = true →
    (s.head.state ≠ .pulling ∨ s.pull.phase ≠ .rising →
      ∃ t, exec (.forceSample f p) s = .next t ∧ SameButLine t (s.begin_ p))
    ∧ ∀ m, s.pull.sample = some m → s.head.state = .pulling → s.pull.phase = .rising →
      let ring := (s.pull.ring ++ [f]).drop (s.pull.ring.length + 1 - 8)
      let mean := ring.sum / ring.length
      let peak := max s.pull.peak mean
      let armed := s.pull.armed || decide (m.plan.armForce ≤ peak)
      let after := { s.pull with k := s.pull.k + 1, ring := ring, peak := peak, armed := armed }
      (¬ (armed = true ∧ mean < peak / 2) →
        ∃ t, exec (.forceSample f p) s = .next t ∧ SameButLine t { s.begin_ p with pull := after })
      ∧ (armed = true → mean < peak / 2 → (s.log.hasRoom = false ∨ ∀ x ∈ s.pull.list, x.closed = false) →
        ∃ t, exec (.forceSample f p) s = .next t ∧ t.pull.phase = .returning ∧ .move .h 0 .plain ∈ t.out
          ∧ t.pull.list = s.pull.list ++ [⟨({ s with pull := after } : State).pullRecord m
              (min ((s.pull.k + 1) * m.plan.speed / 10000) m.plan.travel)
              (if m.plan.specMin ≤ peak then .pass else .low), false⟩]
          ∧ t.tally.counters = (if m.plan.specMin ≤ peak then s.tally.counters.modify 15 Counter.bump
              else (s.tally.counters.modify 15 Counter.bump).modify 16 Counter.bump))

/-- R153 to R156, R159, R160: the record port's completions. An entry written leaves the queue, a PULL entry taking
the next record number, and the write position moves on; after slot 127 it needs the ring's next block: it enters one
erased ahead, waits for an erasable one, or FULL is set with LOG FULL. A header written makes its block the write
block, at slot 1; an erased block is not written and stands erased ahead, or is entered where it is the block needed.
A slot read of the read in service, which has at most 8 numbers to return (R159), goes on with the next slot, or,
with no number left, is answered: log summary and entries join the transmit queue and the read is over (what a slot's
bytes add to the read: ReadSpan.take, DEDUCED, log entry 27). -/
def Obligations.RecordPortCompletes : Prop :=
  ∀ (p : Pins) (s : State), s.operating = true →
    (∀ e b n, s.log.op = .entryWrite e → s.log.pos = .slot b n → n < 127 → s.log.newest + 1 < 4294967295 →
      (∀ x ∈ s.pull.list, x.closed = false) →
      ∃ t, exec (.entryWriteDone p) s = .next t ∧ t.log.queue = s.log.queue.tail ∧ t.log.pos = .slot b (n + 1)
        ∧ t.log.newest = (match e with | .record _ => s.log.newest + 1 | .mark _ => s.log.newest)
        ∧ t.log.headers = s.log.headers ∧ t.log.spanEnd = s.log.spanEnd)
    ∧ (∀ e b n, s.log.op = .entryWrite e → s.log.pos = .slot b n → 127 ≤ n → s.log.newest + 1 < 4294967295 →
      (∀ x ∈ s.pull.list, x.closed = false) →
      ∃ t, exec (.entryWriteDone p) s = .next t ∧ t.log.queue = s.log.queue.tail
        ∧ t.log.newest = (match e with | .record _ => s.log.newest + 1 | .mark _ => s.log.newest)
        ∧ t.log.headers = s.log.headers
        ∧ t.log.pos = (if s.log.ahead.contains ((b + 1) % 64) then .entering ((b + 1) % 64) else .need ((b + 1) % 64))
        ∧ (s.log.ahead.contains ((b + 1) % 64) = false → t.log.erasable ((b + 1) % 64) = false →
            t.log.full = true ∧ t.alarmOpen .logFull = true))
    ∧ (∀ b, s.log.op = .headerWrite b →
      ∃ t, exec (.headerWriteDone p) s = .next t ∧ t.log.pos = .slot b 1
        ∧ t.log.headers = s.log.headers.set b (some (s.log.writeSeq + 1, s.log.newest + 1))
        ∧ t.log.ahead = s.log.ahead.filter (fun x => x != b) ∧ t.log.newest = s.log.newest)
    ∧ (∀ b, s.log.op = .erase b →
      ∃ t, exec (.eraseDone p) s = .next t ∧ t.log.headers = s.log.headers.set b none
        ∧ t.log.ahead = s.log.ahead ++ [b]
        ∧ t.log.pos = (if s.log.pos = .need b then .entering b else s.log.pos)
        ∧ (s.log.pos = .need b → s.log.newest ≠ 4294967295 → t.log.full = false))
    ∧ (∀ b n v r bytes, s.log.op = .read b n → s.log.service = some v → v.phase = .reading r → r.block = b →
      r.slot = n →
      (let frames := s.pullSummary (r.take s.log bytes) :: pullDataFrames 1 (r.take s.log bytes).got
       (r.take s.log bytes).last < (r.take s.log bytes).next → s.lineFree frames.length = true →
        ∃ t, exec (.pullReadSlotDone bytes p) s = .next t ∧ t.log.service = none
          ∧ t.line = { s.line with txQueue := s.line.txQueue ++ frames.map (fun f => ⟨f, 0⟩) })
      ∧ ((r.take s.log bytes).next ≤ (r.take s.log bytes).last → r.last < r.next + 8 → s.phase = .running →
        s.log.present = true →
        (∀ x, s.log.pos ≠ .need x) →
        ∃ t, exec (.pullReadSlotDone bytes p) s = .next t
          ∧ t.log.service = some { v with phase := .reading (r.take s.log bytes) }
          ∧ t.log.op = .read (r.take s.log bytes).block (r.take s.log bytes).slot
          ∧ .slotRead (r.take s.log bytes).block (r.take s.log bytes).slot ∈ t.out))

/-! ### The panel -/

/-- R176: a scan extends the run of identical scans, held at 4 (R175 gives no range: DESIGN CHOICE, unsafe, log entry
70), or begins a new one. The third identical scan showing one key
accepts it where none is accepted and the lockout is clear; two or more keys down set the lockout; the third scan
showing no key releases the accepted key and clears the lockout, and so does KEY RELEASE itself. -/
def Obligations.KeyScansAcceptAndRelease : Prop :=
  ∀ (p : Pins) (s : State), s.operating = true → s.hasPanel = true →
    (∀ x, let run := if x = s.panel.pattern then min 4 (s.panel.runLength + 1) else 1
      ∃ t, exec (.keyScan x p) s = .next t ∧ t.panel.pattern = x ∧ t.panel.runLength = run
        ∧ (match x with
          | .one k => t.panel.lockout = s.panel.lockout ∧ t.panel.accepted =
              (if run = 3 ∧ s.panel.accepted = none ∧ s.panel.lockout = false then some k else s.panel.accepted)
          | .many => t.panel.lockout = true ∧ t.panel.accepted = s.panel.accepted
          | .noKey => if 3 ≤ run then t.panel.lockout = false ∧ t.panel.accepted = none
              else t.panel.lockout = s.panel.lockout ∧ t.panel.accepted = s.panel.accepted)
        ∧ (x = .many ∨ x = .noKey → t.panel.list = s.panel.list ∧ t.alarms = s.alarms ∧ t.head = s.head ∧ t.window = s.window ∧ t.out = []))
    ∧ ∃ t, exec (.keyRelease p) s = .next t ∧ SameButLine t { s.begin_ p with
        panel.accepted := none, panel.lockout := false, panel.pattern := .noKey, panel.runLength := 3 }

/-- R177, R178, R181, R182: the keys of a panel out of standby with no overlay. MENU pushes MENU while the stack
holds fewer than 6 screens; BACK pops, HOME excepted, and first cancels a menu action, MENU staying on top (DEDUCED,
log entry 66); digits 1 to 5 on MENU push their screens, 6 to 8 begin an action, 1 to 6 name its target; UP and DOWN
on HOME are refused; ENTER sends BYPASS or RESUME BONDING naming the target as a frame, or takes the snapshot of SHIFT
END. A refused key sounds a short buzz and changes nothing but the key scan. -/
def Obligations.ScreensTakeKeys : Prop :=
  ∀ (p : Pins) (s : State), s.operating = true → s.hasPanel = true → s.panel.standby = false →
    s.panel.overlay = false →
    (let pressed := fun (k : Key) => { s.panel with
        pattern := .one k, runLength := 3, accepted := some k, idleMs := 0 }
     let refused := fun (k : Key) (c : Instr) =>
        ∃ t, exec c s = .next t ∧ SameButLine t { s.begin_ p with panel := pressed k, out := [.buzz false] }
     (s.panel.stack.length < 6 → ∃ t, exec (.menuKey p) s = .next t ∧ SameButLine t { s.begin_ p with
        panel := { pressed .menu with stack := s.panel.stack ++ [.menu], buffer := .empty, scroll := 0 } })
     ∧ (6 ≤ s.panel.stack.length → refused .menu (.menuKey p))
     ∧ (2 ≤ s.panel.stack.length → (s.panel.top ≠ .menu ∨ s.panel.buffer = .empty) →
        ∃ t, exec (.backKey p) s = .next t ∧ SameButLine t { s.begin_ p with
          panel := { pressed .back with stack := s.panel.stack.dropLast, buffer := .empty, scroll := 0 } })
     ∧ (s.panel.top = .menu → s.panel.buffer ≠ .empty →
        ∃ t, exec (.backKey p) s = .next t ∧ SameButLine t { s.begin_ p with
          panel := { pressed .back with buffer := .empty } })
     ∧ (s.panel.stack = [.home] → refused .back (.backKey p) ∧ refused .up (.upKey p) ∧ refused .down (.downKey p)
        ∧ refused .enter (.enterKey p) ∧ ∀ d, refused (.digit d) (.digitKey d p))
     ∧ (s.panel.top = .menu → s.panel.buffer = .empty → s.panel.stack.length < 6 →
        ∀ d x, menuScreen d.val = some x →
        ∃ t, exec (.digitKey d p) s = .next t ∧ SameButLine t { s.begin_ p with
          panel := { pressed (.digit d) with stack := s.panel.stack ++ [x], buffer := .empty, scroll := 0 } })
     ∧ (s.panel.top = .menu → s.panel.buffer = .empty → ∀ d : Fin 10,
        (6 ≤ d.val → d.val ≤ 8 → ∃ t, exec (.digitKey d p) s = .next t ∧ SameButLine t { s.begin_ p with
          panel := { pressed (.digit d) with
            buffer := if d.val = 6 then .bypassTarget none else if d.val = 7 then .resumeTarget none else .shiftEnd } })
        ∧ (d.val = 0 ∨ d.val = 9 → refused (.digit d) (.digitKey d p)))
     ∧ (s.panel.top = .menu → ∀ o, (s.panel.buffer = .bypassTarget o ∨ s.panel.buffer = .resumeTarget o) → ∀ d : Fin 10,
        (1 ≤ d.val → d.val ≤ 6 → ∃ t, exec (.digitKey d p) s = .next t ∧ SameButLine t { s.begin_ p with
          panel := { pressed (.digit d) with
            buffer := if s.panel.buffer = .bypassTarget o then .bypassTarget (some d.val)
              else .resumeTarget (some d.val) } })
        ∧ (d.val = 0 ∨ 7 ≤ d.val → refused (.digit d) (.digitKey d p)))
     ∧ (s.panel.top = .tally → ∃ t, exec (.upKey p) s = .next t ∧ SameButLine t { s.begin_ p with
          panel := { pressed .up with scroll := s.panel.scroll - 1 } })
     ∧ (s.panel.top = .tally → ∃ t, exec (.downKey p) s = .next t ∧ SameButLine t { s.begin_ p with
          panel := { pressed .down with
            scroll := min (s.panel.scroll + 1) (Config.scrollLimit Screen.tally.index) } })
     ∧ (s.panel.top = .menu → ∀ n, n ≠ s.stn → s.lineFree 1 = true → ∀ k,
        (s.panel.buffer = .bypassTarget (some n) ∧ k = FrameKind.bypass
          ∨ s.panel.buffer = .resumeTarget (some n) ∧ k = FrameKind.resumeBonding) →
        ∃ t, exec (.enterKey p) s = .next t ∧ SameButLine t { s.begin_ p with
          panel := { pressed .enter with buffer := .empty }, line.txQueue := s.placed ⟨n, k, [byteOf n]⟩ })
     ∧ (s.panel.top = .menu → s.panel.buffer = .shiftEnd →
        ∃ t, exec (.enterKey p) s = .next t ∧ t.panel = { pressed .enter with
            buffer := .empty, gradeLine := t.panel.gradeLine }
          ∧ t.tally.snapCounters = s.tally.counters ∧ t.tally.counters = List.replicate 19 ⟨0, false⟩
          ∧ t.line = s.line))

/-- R179, R181, R182: the keys of the overlay and of GRADE, out of standby. On the overlay a digit names a choice of
the shown alarm's kind, UP and DOWN show the OPEN entry before or after it, ENTER sends the choice as a RESPONSE, the
entry then SENT with its timer, or hands it to this station's own block, BACK defers every OPEN entry, MENU is
refused. On GRADE digits 1 to 6 hold a mode for the selected line, UP and DOWN select, ENTER sends GRADE, or closes
the own entry, unless the line meanwhile shows another reference, which clears the buffer. A frame to another station
is refused while the panel's outgoing frame waits. Two points are the model's choice: another station's line counts as
another reference whatever number it shows (R182: DEDUCED, unsafe, log entry 61), and a GRADE closes every OPEN entry
of the own list that has its reference (R145, R146: DESIGN CHOICE, unsafe, log entry 53). -/
def Obligations.OverlayAndGradeTakeKeys : Prop :=
  ∀ (p : Pins) (s : State), s.operating = true → s.hasPanel = true → s.panel.standby = false →
    (let pressed := fun (k : Key) => { s.panel with
        pattern := .one k, runLength := 3, accepted := some k, idleMs := 0 }
     let keeps := fun (c : Instr) (q : Panel) => ∃ t, exec c s = .next t ∧ SameButLine t { s.begin_ p with panel := q }
     let refused := fun (k : Key) (c : Instr) =>
        ∃ t, exec c s = .next t ∧ SameButLine t { s.begin_ p with panel := pressed k, out := [.buzz false] }
     (∀ e l₁ l₂, s.panel.shapeOk = true → s.panel.list = l₁ ++ e :: l₂ → e.state = .opened →
        s.panel.shown = some (e.station, e.seq) →
        refused .menu (.menuKey p)
        ∧ (∀ (d : Fin 10) c, c.code = d.val → c ∈ e.kind.choices →
            keeps (.digitKey d p) { pressed (.digit d) with buffer := .choice e.station e.seq c })
        ∧ (∀ d : Fin 10, (∀ c ∈ e.kind.choices, c.code ≠ d.val) → refused (.digit d) (.digitKey d p))
        ∧ (match l₂.find? (fun x => x.state == .opened) with
            | some x => keeps (.downKey p) { pressed .down with shown := some (x.station, x.seq), buffer := .empty }
            | none => refused .down (.downKey p))
        ∧ (match l₁.reverse.find? (fun x => x.state == .opened) with
            | some x => keeps (.upKey p) { pressed .up with shown := some (x.station, x.seq), buffer := .empty }
            | none => refused .up (.upKey p))
        ∧ (∃ t, exec (.backKey p) s = .next t ∧ t.panel.deferTimer = some 30000 ∧ t.panel.overlay = false
            ∧ t.panel.list = s.panel.list.map (fun x => if x.state = .opened then { x with state := .deferred } else x)
            ∧ t.panel.stack = s.panel.stack ∧ t.panel.standby = false ∧ t.line = s.line)
        ∧ (s.panel.buffer = .empty → refused .enter (.enterKey p))
        ∧ (∀ st q c, s.panel.buffer = .choice st q c →
            (st ≠ s.stn → s.lineFree 1 = true →
              ∃ t, exec (.enterKey p) s = .next t ∧ t.panel.buffer = .empty
                ∧ t.panel.list = s.panel.list.map (fun x =>
                    if x.station = st ∧ x.seq = q then { x with state := .sent, sendTimer := some 1000 } else x)
                ∧ t.line = { s.line with
                    txQueue := s.placed ⟨st, .response, [byteOf st, byteOf q, byteOf c.code]⟩ })
            ∧ (st ≠ s.stn → s.outgoingWaits = true → refused .enter (.enterKey p))
            ∧ (∀ a, st = s.stn → s.alarms.idsOk = true → a ∈ s.alarms.queue → a.seq = q → a.kind = .logFull → c = .cont →
              ∃ t, exec (.enterKey p) s = .next t ∧ t.alarms.queue = s.alarms.queue.filter (fun x => x.seq != q)
                ∧ t.panel.buffer = .empty ∧ ∀ x ∈ t.panel.list, ¬ (x.station = st ∧ x.seq = q))))
     ∧ (∀ l l₁ l₂, s.panel.overlay = false → s.panel.top = .grade → s.gradeLines = l₁ ++ l :: l₂ →
        s.selectedLine = some l →
        (∀ d : Fin 10, 1 ≤ d.val → d.val ≤ 6 →
            keeps (.digitKey d p) { pressed (.digit d) with buffer := .mode l.station l.ref d.val })
        ∧ (∀ d : Fin 10, d.val = 0 ∨ 7 ≤ d.val → refused (.digit d) (.digitKey d p))
        ∧ (match l₂.head? with
            | some x => ∃ t, exec (.downKey p) s = .next t ∧ t.panel = { pressed .down with gradeLine := some x.station }
            | none => refused .down (.downKey p))
        ∧ (match l₁.reverse.head? with
            | some x => ∃ t, exec (.upKey p) s = .next t ∧ t.panel = { pressed .up with gradeLine := some x.station }
            | none => refused .up (.upKey p))
        ∧ (s.panel.buffer = .empty → refused .enter (.enterKey p))
        ∧ (∀ st g m, s.panel.buffer = .mode st g m →
            (¬ (l.station = st ∧ l.ref = g) → ∃ t, exec (.enterKey p) s = .next t ∧ SameButLine t { s.begin_ p with
              panel := { pressed .enter with buffer := .empty }, out := [.buzz false] })
            ∧ (l.station = st → l.ref = g → st ≠ s.stn → s.lineFree 1 = true →
              ∃ t, exec (.enterKey p) s = .next t ∧ SameButLine t { s.begin_ p with
                panel := { pressed .enter with buffer := .empty }
                line.txQueue := s.placed ⟨st, .grade, [byteOf st, byteOf g, byteOf m]⟩ })
            ∧ (l.station = st → l.ref = g → st ≠ s.stn → s.outgoingWaits = true → refused .enter (.enterKey p))
            ∧ (l.station = st → l.ref = g → st = s.stn → 1 ≤ m → m ≤ 6 →
              ∃ t, exec (.enterKey p) s = .next t ∧ t.panel.buffer = .empty
                ∧ (∀ x ∈ t.pull.list, x.closed = false → x.record.ref ≠ g)
                ∧ (s.log.hasRoom = false → t.pull.list = s.pull.list.map (fun x =>
                    if x.closed = false ∧ x.record.ref = g then ⟨{ x.record with mode := .graded m }, true⟩ else x))))))

/-! ### Layouts -/

/-- R13 to R15: a lawful strip record is read back from its payload whole, with every unit's state and bonder, every
partial entry and every flag, by a receiver's record check.
R150, R151: what the log controller writes it judges good when it reads it back: a PULL entry and a SPAN MARK with
their number, a header with its sequence and first record number. -/
def Obligations.LayoutsReadBackWhole : Prop :=
  (∀ r : StripRecord, r.lawful = true → r.serial < 4294967296 → r.generation < 256 → r.run < 65536 →
    (encodeRecord r).length = 53 ∧ checkRecord (encodeRecord r) = some r)
  ∧ (∀ (n : Nat) (r : PullRecord), n < 4294967296 →
    (withCrc (pullEntryBytes n r)).length = 32 ∧ judgeSlot (withCrc (pullEntryBytes n r)) = .good 1 n)
  ∧ (∀ n, n < 4294967296 → judgeSlot (withCrc (spanMarkBytes n)) = .good 2 n)
  ∧ ∀ q f, q < 4294967296 → f < 4294967296 → readHeader (withCrc (headerBytes q f)) = some (q, f)

/-! ### Laws of the whole part -/

/-- R15, R20 to R22, R28, R48, R52, R61, R102, R105, R116, R135, R154, R155, R158, R161, R169, R170, R173, R175,
R188, R190, R194, R196, R197: what no command but a hardware reset changes, and what only the named ones do: the
straps and the commands that wait; a panel that is not fitted; the skip ranges and the insertion counts of a magazine
that the station does not have; the presence table, the last refusal and the duplicate-station fault; and each part
of the state that `Kept` names (by `Instr.mayChange`; KEY SCAN stands among them for the key it accepts: DEDUCED, log
entry 10; the commands that wait are the model's own queue: log entry 44). An active set that changes leaves the
former one as the prior set, and the newest record number and the span end of a running part never fall. The model's
agenda of tests is empty after every command (log entry 6).
R30: ENABLE is requested only for a bond with parameters of the generation named in the strip record, while it is the
active or the prior one, at the power of a set of that recipe. -/
def Obligations.EveryCommandKeepsItsBounds : Prop :=
  ∀ (c : Instr) (s t : State), (∀ x p, c ≠ .hardwareReset x p) → exec c s = .next t →
    t.straps = s.straps ∧ t.pending = s.pending ∧ t.agenda = Agenda.none
    ∧ (s.hasPanel = false → t.panel = s.panel)
    ∧ (s.isFirst = false → t.inMag.ranges = s.inMag.ranges ∧ t.inMag.inserted = s.inMag.inserted)
    ∧ (s.isEnd = false → t.outMag.inserted = s.outMag.inserted)
    ∧ (Kept.snapshot ∉ c.mayChange →
        t.tally.snapCounters = s.tally.snapCounters ∧ t.tally.snapNumber = s.tally.snapNumber)
    ∧ (c.header = none → (∀ n p, c ≠ .presenceTimeout n p) →
        t.line.peers = s.line.peers ∧ t.line.lastRefusal = s.line.lastRefusal)
    ∧ (Kept.holdSet ∉ c.mayChange → t.alarms.hold = s.alarms.hold)
    ∧ (Kept.bypass ∉ c.mayChange → t.alarms.bypass = s.alarms.bypass)
    ∧ (Kept.blockHeaders ∉ c.mayChange → t.log.headers = s.log.headers)
    ∧ (Kept.recordStore ∉ c.mayChange → t.pull.capable = s.pull.capable ∧ t.log.present = s.log.present)
    ∧ (Kept.lockSense ∉ c.mayChange → t.head.locked = s.head.locked)
    ∧ (Kept.badRecords ∉ c.mayChange → t.line.badRecords = s.line.badRecords)
    ∧ (Kept.lineFaults ∉ c.mayChange → t.line.lineFaults = s.line.lineFaults)
    ∧ (Kept.withdrawn ∉ c.mayChange → t.line.withdrawn = s.line.withdrawn)
    ∧ (Kept.segments ∉ c.mayChange →
        t.recipes.pending.segments = s.recipes.pending.segments ∨ t.recipes.pending.segments = [])
    ∧ (c.header = none → t.dup = s.dup)
    ∧ (t.recipes.active = s.recipes.active ∨ t.recipes.prior = s.recipes.active)
    ∧ (s.running = true → s.log.newest ≤ t.log.newest ∧ s.log.spanEnd ≤ t.log.spanEnd)
    ∧ (∀ mW, .enable mW ∈ t.out → ∃ q r rec, t.energy.params = some q ∧ t.window.record = some r
        ∧ t.setOf r.generation = some rec ∧ r.generation ≠ 0 ∧ q.generation = r.generation
        ∧ (r.generation = t.activeGen ∨ r.generation = t.priorGen) ∧ rec.generation = r.generation
        ∧ q.params = rec.setAt q.set ∧ mW = q.params.power)

/-! ### Invariants that every step keeps -/

/-- R117, R126, R175, R177, R180, R196, R197: the skip ranges stay at most four, within slots 1..20, ascending and
apart; the panel's screen stack keeps HOME at its bottom and holds at most 6 screens, and its alarm list at most 16
entries of distinct ids; the nineteen counters, running and snapshot, stay within 32 bits. -/
def Obligations.RangesPanelAndTalliesStayLawful : Prop :=
  (∀ s t : State, s.inMag.rangesOk = true → step s = .next t → t.inMag.rangesOk = true)
  ∧ (∀ s t : State, s.panel.shapeOk = true → step s = .next t → t.panel.shapeOk = true)
  ∧ ∀ s t : State, countersOk s.tally.counters = true → countersOk s.tally.snapCounters = true → step s = .next t →
    countersOk t.tally.counters = true ∧ countersOk t.tally.snapCounters = true

/-- R164, R170, R192: no two open alarms share a kind or an id, their sequences are 1..255, and the hold set holds
each of the stations 1..7 at most once; the strap of a part without a strap fault is 1..6. -/
def Obligations.AlarmIdsAndHoldSetStayLawful : Prop :=
  ∀ s t : State, s.alarms.idsOk = true → s.alarms.holdOk = true → s.strapOk = true → step s = .next t →
    t.alarms.idsOk = true ∧ t.alarms.holdOk = true ∧ t.strapOk = true

/-- R191: the transmit queue never holds more than 8 frames nor more than one BEACON, one that waits counted. -/
def Obligations.TransmitQueueStaysLawful : Prop :=
  ∀ s t : State, s.line.queueOk = true → step s = .next t → t.line.queueOk = true

/-- R2, R3: in the strip records that the window holds, exactly the DONE, REJECT and PULLED units name a bonder, and
it is a station 1..6. -/
def Obligations.UnitBondersStayLawful : Prop :=
  ∀ s t : State, s.window.bondersOk = true → s.strapOk = true → step s = .next t →
    t.window.bondersOk = true ∧ t.strapOk = true

/-- R35, R39, R50, R58, R68, R81 to R83: the conditioning debt stays in −8..+8: below +8 while a wire is in flight, so
no first bond starts at +8, and above −8 while a cycle is in flight. With it, the head stands at a stage of its own
state and waits only for the answers of the step it is in; it has a next work only while HELD or HOMING; a bond is
open in FIRST BOND and SECOND BOND only; at most one alarm that holds the head is open, and the head is HELD for it.
(R81's laws rest on these; where the head stands between two answers is the model's own stage, log entries 4 and 48;
the mark homingParks, clear outside HOMING, is log entry 49's.) -/
def Obligations.HeadStaysLawful : Prop :=
  ∀ s t : State, s.headOk = true → s.alarms.idsOk = true → step s = .next t → t.headOk = true

/-- R137, R145, R153 to R155, R161: the pending-grade list never holds more than 16 records nor the write queue more
than four entries; each pull record is in one place, list, write queue or log: their number changes by the one record
that a rise's end assembles, which moves the reference counter on, and by nothing else. A block is erased only while
it is erasable, so none holding a PULL entry above the collected-span end ever is. (headOk, kept by HeadStaysLawful,
puts the answers a plan wire waits for into its positioning.) -/
def Obligations.PullRecordsStaySafe : Prop :=
  ∀ s t : State, s.recordsOk = true → s.headOk = true → s.alarms.idsOk = true → step s = .next t →
    t.recordsOk = true
    ∧ (s.running = true → t.running = true →
        t.recordCount = s.recordCount + (if t.pull.refCounter = s.pull.refCounter then 0 else 1))
    ∧ (s.pending ≠ [] → ∀ b, .blockErase b ∈ t.out → t.log.op = .erase b ∧ t.log.erasable b = true)

/-- R51, R98, R99, R172: while the hold set is not empty no wire, conditioning cycle, pull or feed starts, and no
OFFER or TAKE joins the transmit queue that was not queued or waiting before. A wire's steps, its resuming inside
them, a cycle, the plan wire of a pull and a feed's search and push that are in flight go on. (By headOk only a head
HELD or HOMING has a next work that a stop could leave behind.) -/
def Obligations.HoldStartsNothingNew : Prop :=
  ∀ s t : State, s.alarms.hold ≠ [] → step s = .next t → t.alarms.hold ≠ [] →
    (t.head.atFirstMove = true → t.head.state = s.head.state ∧ s.head.atFirstMove = true)
    ∧ (s.headOk = true → s.alarms.idsOk = true → t.wireInFlight = true → s.wireInFlight = true)
    ∧ (t.head.state = .conditioning → s.head.state = .conditioning ∧ s.head.sparks ≤ t.head.sparks)
    ∧ (t.pull.phase = .positioning → s.pull.phase = .positioning)
    ∧ (t.inMag.feeding = true → s.inMag.feeding = true)
    ∧ ∀ q ∈ t.line.txQueue, (q.frame.kind = .offer ∨ q.frame.kind = .take) → s.line.carries q.frame = true

/-- R3, R35, R81, R117, R126, R135, R145, R164, R170, R175, R191, R192, R196: the state right after hardware reset
meets the invariants, and its tallies are 19 counters at 0. -/
def Obligations.ResetMeetsInvariants : Prop :=
  State.reset.inMag.rangesOk = true ∧ State.reset.alarms.idsOk = true ∧ State.reset.alarms.holdOk = true
    ∧ State.reset.strapOk = true ∧ State.reset.line.queueOk = true ∧ State.reset.window.bondersOk = true
    ∧ State.reset.panel.shapeOk = true ∧ State.reset.headOk = true ∧ State.reset.recordsOk = true
    ∧ countersOk State.reset.tally.counters = true ∧ countersOk State.reset.tally.snapCounters = true
    ∧ State.reset.tally.counters = List.replicate 19 ⟨0, false⟩
end

