-- ==== Sys2Proof/Laws/State.lean ====
section
/-! SUPPORT. What each plain update of the state does to each field: one lemma for each field and update. -/

namespace Sys2Proof.Machine

/-! ### begin_ -/

@[simp] theorem State.begin_straps (s : State) (p : Pins) : (s.begin_ p).straps = s.straps := rfl
@[simp] theorem State.begin_phase (s : State) (p : Pins) : (s.begin_ p).phase = s.phase := rfl
@[simp] theorem State.begin_dup (s : State) (p : Pins) : (s.begin_ p).dup = s.dup := rfl
@[simp] theorem State.begin_pins (s : State) (p : Pins) : (s.begin_ p).pins = p := rfl
@[simp] theorem State.begin_line (s : State) (p : Pins) : (s.begin_ p).line = s.line := rfl
@[simp] theorem State.begin_recipes (s : State) (p : Pins) : (s.begin_ p).recipes = s.recipes := rfl
@[simp] theorem State.begin_window (s : State) (p : Pins) : (s.begin_ p).window = s.window := rfl
@[simp] theorem State.begin_head (s : State) (p : Pins) : (s.begin_ p).head = s.head := rfl
@[simp] theorem State.begin_energy (s : State) (p : Pins) : (s.begin_ p).energy = s.energy := rfl
@[simp] theorem State.begin_inMag (s : State) (p : Pins) : (s.begin_ p).inMag = s.inMag := rfl
@[simp] theorem State.begin_outMag (s : State) (p : Pins) : (s.begin_ p).outMag = s.outMag := rfl
@[simp] theorem State.begin_pull (s : State) (p : Pins) : (s.begin_ p).pull = s.pull := rfl
@[simp] theorem State.begin_log (s : State) (p : Pins) : (s.begin_ p).log = s.log := rfl
@[simp] theorem State.begin_alarms (s : State) (p : Pins) : (s.begin_ p).alarms = s.alarms := rfl
@[simp] theorem State.begin_panel (s : State) (p : Pins) : (s.begin_ p).panel = s.panel := rfl
@[simp] theorem State.begin_tally (s : State) (p : Pins) : (s.begin_ p).tally = s.tally := rfl
@[simp] theorem State.begin_due (s : State) (p : Pins) : (s.begin_ p).due = s.due := rfl
@[simp] theorem State.begin_out (s : State) (p : Pins) : (s.begin_ p).out = [] := rfl
@[simp] theorem State.begin_agenda (s : State) (p : Pins) : (s.begin_ p).agenda = Agenda.none := rfl
@[simp] theorem State.begin_pending (s : State) (p : Pins) : (s.begin_ p).pending = s.pending := rfl

/-! ### askPoint -/

@[simp] theorem State.askPoint_straps (s : State) : (s.askPoint).straps = s.straps := rfl
@[simp] theorem State.askPoint_phase (s : State) : (s.askPoint).phase = s.phase := rfl
@[simp] theorem State.askPoint_dup (s : State) : (s.askPoint).dup = s.dup := rfl
@[simp] theorem State.askPoint_pins (s : State) : (s.askPoint).pins = s.pins := rfl
@[simp] theorem State.askPoint_line (s : State) : (s.askPoint).line = s.line := rfl
@[simp] theorem State.askPoint_recipes (s : State) : (s.askPoint).recipes = s.recipes := rfl
@[simp] theorem State.askPoint_window (s : State) : (s.askPoint).window = s.window := rfl
@[simp] theorem State.askPoint_head (s : State) : (s.askPoint).head = s.head := rfl
@[simp] theorem State.askPoint_energy (s : State) : (s.askPoint).energy = s.energy := rfl
@[simp] theorem State.askPoint_inMag (s : State) : (s.askPoint).inMag = s.inMag := rfl
@[simp] theorem State.askPoint_outMag (s : State) : (s.askPoint).outMag = s.outMag := rfl
@[simp] theorem State.askPoint_pull (s : State) : (s.askPoint).pull = s.pull := rfl
@[simp] theorem State.askPoint_log (s : State) : (s.askPoint).log = s.log := rfl
@[simp] theorem State.askPoint_alarms (s : State) : (s.askPoint).alarms = s.alarms := rfl
@[simp] theorem State.askPoint_panel (s : State) : (s.askPoint).panel = s.panel := rfl
@[simp] theorem State.askPoint_tally (s : State) : (s.askPoint).tally = s.tally := rfl
@[simp] theorem State.askPoint_due (s : State) : (s.askPoint).due = s.due := rfl
@[simp] theorem State.askPoint_out (s : State) : (s.askPoint).out = s.out := rfl
@[simp] theorem State.askPoint_agenda (s : State) : (s.askPoint).agenda = { s.agenda with point := true } := rfl
@[simp] theorem State.askPoint_pending (s : State) : (s.askPoint).pending = s.pending := rfl

/-! ### askHead -/

@[simp] theorem State.askHead_straps (s : State) : (s.askHead).straps = s.straps := rfl
@[simp] theorem State.askHead_phase (s : State) : (s.askHead).phase = s.phase := rfl
@[simp] theorem State.askHead_dup (s : State) : (s.askHead).dup = s.dup := rfl
@[simp] theorem State.askHead_pins (s : State) : (s.askHead).pins = s.pins := rfl
@[simp] theorem State.askHead_line (s : State) : (s.askHead).line = s.line := rfl
@[simp] theorem State.askHead_recipes (s : State) : (s.askHead).recipes = s.recipes := rfl
@[simp] theorem State.askHead_window (s : State) : (s.askHead).window = s.window := rfl
@[simp] theorem State.askHead_head (s : State) : (s.askHead).head = s.head := rfl
@[simp] theorem State.askHead_energy (s : State) : (s.askHead).energy = s.energy := rfl
@[simp] theorem State.askHead_inMag (s : State) : (s.askHead).inMag = s.inMag := rfl
@[simp] theorem State.askHead_outMag (s : State) : (s.askHead).outMag = s.outMag := rfl
@[simp] theorem State.askHead_pull (s : State) : (s.askHead).pull = s.pull := rfl
@[simp] theorem State.askHead_log (s : State) : (s.askHead).log = s.log := rfl
@[simp] theorem State.askHead_alarms (s : State) : (s.askHead).alarms = s.alarms := rfl
@[simp] theorem State.askHead_panel (s : State) : (s.askHead).panel = s.panel := rfl
@[simp] theorem State.askHead_tally (s : State) : (s.askHead).tally = s.tally := rfl
@[simp] theorem State.askHead_due (s : State) : (s.askHead).due = s.due := rfl
@[simp] theorem State.askHead_out (s : State) : (s.askHead).out = s.out := rfl
@[simp] theorem State.askHead_agenda (s : State) : (s.askHead).agenda = { s.agenda with head := true } := rfl
@[simp] theorem State.askHead_pending (s : State) : (s.askHead).pending = s.pending := rfl

/-! ### askStrip -/

@[simp] theorem State.askStrip_straps (s : State) : (s.askStrip).straps = s.straps := rfl
@[simp] theorem State.askStrip_phase (s : State) : (s.askStrip).phase = s.phase := rfl
@[simp] theorem State.askStrip_dup (s : State) : (s.askStrip).dup = s.dup := rfl
@[simp] theorem State.askStrip_pins (s : State) : (s.askStrip).pins = s.pins := rfl
@[simp] theorem State.askStrip_line (s : State) : (s.askStrip).line = s.line := rfl
@[simp] theorem State.askStrip_recipes (s : State) : (s.askStrip).recipes = s.recipes := rfl
@[simp] theorem State.askStrip_window (s : State) : (s.askStrip).window = s.window := rfl
@[simp] theorem State.askStrip_head (s : State) : (s.askStrip).head = s.head := rfl
@[simp] theorem State.askStrip_energy (s : State) : (s.askStrip).energy = s.energy := rfl
@[simp] theorem State.askStrip_inMag (s : State) : (s.askStrip).inMag = s.inMag := rfl
@[simp] theorem State.askStrip_outMag (s : State) : (s.askStrip).outMag = s.outMag := rfl
@[simp] theorem State.askStrip_pull (s : State) : (s.askStrip).pull = s.pull := rfl
@[simp] theorem State.askStrip_log (s : State) : (s.askStrip).log = s.log := rfl
@[simp] theorem State.askStrip_alarms (s : State) : (s.askStrip).alarms = s.alarms := rfl
@[simp] theorem State.askStrip_panel (s : State) : (s.askStrip).panel = s.panel := rfl
@[simp] theorem State.askStrip_tally (s : State) : (s.askStrip).tally = s.tally := rfl
@[simp] theorem State.askStrip_due (s : State) : (s.askStrip).due = s.due := rfl
@[simp] theorem State.askStrip_out (s : State) : (s.askStrip).out = s.out := rfl
@[simp] theorem State.askStrip_agenda (s : State) : (s.askStrip).agenda = { s.agenda with strip := true } := rfl
@[simp] theorem State.askStrip_pending (s : State) : (s.askStrip).pending = s.pending := rfl

/-! ### askFeed -/

@[simp] theorem State.askFeed_straps (s : State) : (s.askFeed).straps = s.straps := rfl
@[simp] theorem State.askFeed_phase (s : State) : (s.askFeed).phase = s.phase := rfl
@[simp] theorem State.askFeed_dup (s : State) : (s.askFeed).dup = s.dup := rfl
@[simp] theorem State.askFeed_pins (s : State) : (s.askFeed).pins = s.pins := rfl
@[simp] theorem State.askFeed_line (s : State) : (s.askFeed).line = s.line := rfl
@[simp] theorem State.askFeed_recipes (s : State) : (s.askFeed).recipes = s.recipes := rfl
@[simp] theorem State.askFeed_window (s : State) : (s.askFeed).window = s.window := rfl
@[simp] theorem State.askFeed_head (s : State) : (s.askFeed).head = s.head := rfl
@[simp] theorem State.askFeed_energy (s : State) : (s.askFeed).energy = s.energy := rfl
@[simp] theorem State.askFeed_inMag (s : State) : (s.askFeed).inMag = s.inMag := rfl
@[simp] theorem State.askFeed_outMag (s : State) : (s.askFeed).outMag = s.outMag := rfl
@[simp] theorem State.askFeed_pull (s : State) : (s.askFeed).pull = s.pull := rfl
@[simp] theorem State.askFeed_log (s : State) : (s.askFeed).log = s.log := rfl
@[simp] theorem State.askFeed_alarms (s : State) : (s.askFeed).alarms = s.alarms := rfl
@[simp] theorem State.askFeed_panel (s : State) : (s.askFeed).panel = s.panel := rfl
@[simp] theorem State.askFeed_tally (s : State) : (s.askFeed).tally = s.tally := rfl
@[simp] theorem State.askFeed_due (s : State) : (s.askFeed).due = s.due := rfl
@[simp] theorem State.askFeed_out (s : State) : (s.askFeed).out = s.out := rfl
@[simp] theorem State.askFeed_agenda (s : State) : (s.askFeed).agenda = { s.agenda with feed := true } := rfl
@[simp] theorem State.askFeed_pending (s : State) : (s.askFeed).pending = s.pending := rfl

/-! ### askPlace -/

@[simp] theorem State.askPlace_straps (s : State) : (s.askPlace).straps = s.straps := rfl
@[simp] theorem State.askPlace_phase (s : State) : (s.askPlace).phase = s.phase := rfl
@[simp] theorem State.askPlace_dup (s : State) : (s.askPlace).dup = s.dup := rfl
@[simp] theorem State.askPlace_pins (s : State) : (s.askPlace).pins = s.pins := rfl
@[simp] theorem State.askPlace_line (s : State) : (s.askPlace).line = s.line := rfl
@[simp] theorem State.askPlace_recipes (s : State) : (s.askPlace).recipes = s.recipes := rfl
@[simp] theorem State.askPlace_window (s : State) : (s.askPlace).window = s.window := rfl
@[simp] theorem State.askPlace_head (s : State) : (s.askPlace).head = s.head := rfl
@[simp] theorem State.askPlace_energy (s : State) : (s.askPlace).energy = s.energy := rfl
@[simp] theorem State.askPlace_inMag (s : State) : (s.askPlace).inMag = s.inMag := rfl
@[simp] theorem State.askPlace_outMag (s : State) : (s.askPlace).outMag = s.outMag := rfl
@[simp] theorem State.askPlace_pull (s : State) : (s.askPlace).pull = s.pull := rfl
@[simp] theorem State.askPlace_log (s : State) : (s.askPlace).log = s.log := rfl
@[simp] theorem State.askPlace_alarms (s : State) : (s.askPlace).alarms = s.alarms := rfl
@[simp] theorem State.askPlace_panel (s : State) : (s.askPlace).panel = s.panel := rfl
@[simp] theorem State.askPlace_tally (s : State) : (s.askPlace).tally = s.tally := rfl
@[simp] theorem State.askPlace_due (s : State) : (s.askPlace).due = s.due := rfl
@[simp] theorem State.askPlace_out (s : State) : (s.askPlace).out = s.out := rfl
@[simp] theorem State.askPlace_agenda (s : State) : (s.askPlace).agenda = { s.agenda with place := true } := rfl
@[simp] theorem State.askPlace_pending (s : State) : (s.askPlace).pending = s.pending := rfl

/-! ### askFull -/

@[simp] theorem State.askFull_straps (s : State) : (s.askFull).straps = s.straps := rfl
@[simp] theorem State.askFull_phase (s : State) : (s.askFull).phase = s.phase := rfl
@[simp] theorem State.askFull_dup (s : State) : (s.askFull).dup = s.dup := rfl
@[simp] theorem State.askFull_pins (s : State) : (s.askFull).pins = s.pins := rfl
@[simp] theorem State.askFull_line (s : State) : (s.askFull).line = s.line := rfl
@[simp] theorem State.askFull_recipes (s : State) : (s.askFull).recipes = s.recipes := rfl
@[simp] theorem State.askFull_window (s : State) : (s.askFull).window = s.window := rfl
@[simp] theorem State.askFull_head (s : State) : (s.askFull).head = s.head := rfl
@[simp] theorem State.askFull_energy (s : State) : (s.askFull).energy = s.energy := rfl
@[simp] theorem State.askFull_inMag (s : State) : (s.askFull).inMag = s.inMag := rfl
@[simp] theorem State.askFull_outMag (s : State) : (s.askFull).outMag = s.outMag := rfl
@[simp] theorem State.askFull_pull (s : State) : (s.askFull).pull = s.pull := rfl
@[simp] theorem State.askFull_log (s : State) : (s.askFull).log = s.log := rfl
@[simp] theorem State.askFull_alarms (s : State) : (s.askFull).alarms = s.alarms := rfl
@[simp] theorem State.askFull_panel (s : State) : (s.askFull).panel = s.panel := rfl
@[simp] theorem State.askFull_tally (s : State) : (s.askFull).tally = s.tally := rfl
@[simp] theorem State.askFull_due (s : State) : (s.askFull).due = s.due := rfl
@[simp] theorem State.askFull_out (s : State) : (s.askFull).out = s.out := rfl
@[simp] theorem State.askFull_agenda (s : State) : (s.askFull).agenda = { s.agenda with full := true } := rfl
@[simp] theorem State.askFull_pending (s : State) : (s.askFull).pending = s.pending := rfl

/-! ### askPort -/

@[simp] theorem State.askPort_straps (s : State) : (s.askPort).straps = s.straps := rfl
@[simp] theorem State.askPort_phase (s : State) : (s.askPort).phase = s.phase := rfl
@[simp] theorem State.askPort_dup (s : State) : (s.askPort).dup = s.dup := rfl
@[simp] theorem State.askPort_pins (s : State) : (s.askPort).pins = s.pins := rfl
@[simp] theorem State.askPort_line (s : State) : (s.askPort).line = s.line := rfl
@[simp] theorem State.askPort_recipes (s : State) : (s.askPort).recipes = s.recipes := rfl
@[simp] theorem State.askPort_window (s : State) : (s.askPort).window = s.window := rfl
@[simp] theorem State.askPort_head (s : State) : (s.askPort).head = s.head := rfl
@[simp] theorem State.askPort_energy (s : State) : (s.askPort).energy = s.energy := rfl
@[simp] theorem State.askPort_inMag (s : State) : (s.askPort).inMag = s.inMag := rfl
@[simp] theorem State.askPort_outMag (s : State) : (s.askPort).outMag = s.outMag := rfl
@[simp] theorem State.askPort_pull (s : State) : (s.askPort).pull = s.pull := rfl
@[simp] theorem State.askPort_log (s : State) : (s.askPort).log = s.log := rfl
@[simp] theorem State.askPort_alarms (s : State) : (s.askPort).alarms = s.alarms := rfl
@[simp] theorem State.askPort_panel (s : State) : (s.askPort).panel = s.panel := rfl
@[simp] theorem State.askPort_tally (s : State) : (s.askPort).tally = s.tally := rfl
@[simp] theorem State.askPort_due (s : State) : (s.askPort).due = s.due := rfl
@[simp] theorem State.askPort_out (s : State) : (s.askPort).out = s.out := rfl
@[simp] theorem State.askPort_agenda (s : State) : (s.askPort).agenda = { s.agenda with port := true } := rfl
@[simp] theorem State.askPort_pending (s : State) : (s.askPort).pending = s.pending := rfl

/-! ### askBeacon -/

@[simp] theorem State.askBeacon_straps (s : State) : (s.askBeacon).straps = s.straps := rfl
@[simp] theorem State.askBeacon_phase (s : State) : (s.askBeacon).phase = s.phase := rfl
@[simp] theorem State.askBeacon_dup (s : State) : (s.askBeacon).dup = s.dup := rfl
@[simp] theorem State.askBeacon_pins (s : State) : (s.askBeacon).pins = s.pins := rfl
@[simp] theorem State.askBeacon_line (s : State) : (s.askBeacon).line = s.line := rfl
@[simp] theorem State.askBeacon_recipes (s : State) : (s.askBeacon).recipes = s.recipes := rfl
@[simp] theorem State.askBeacon_window (s : State) : (s.askBeacon).window = s.window := rfl
@[simp] theorem State.askBeacon_head (s : State) : (s.askBeacon).head = s.head := rfl
@[simp] theorem State.askBeacon_energy (s : State) : (s.askBeacon).energy = s.energy := rfl
@[simp] theorem State.askBeacon_inMag (s : State) : (s.askBeacon).inMag = s.inMag := rfl
@[simp] theorem State.askBeacon_outMag (s : State) : (s.askBeacon).outMag = s.outMag := rfl
@[simp] theorem State.askBeacon_pull (s : State) : (s.askBeacon).pull = s.pull := rfl
@[simp] theorem State.askBeacon_log (s : State) : (s.askBeacon).log = s.log := rfl
@[simp] theorem State.askBeacon_alarms (s : State) : (s.askBeacon).alarms = s.alarms := rfl
@[simp] theorem State.askBeacon_panel (s : State) : (s.askBeacon).panel = s.panel := rfl
@[simp] theorem State.askBeacon_tally (s : State) : (s.askBeacon).tally = s.tally := rfl
@[simp] theorem State.askBeacon_due (s : State) : (s.askBeacon).due = s.due := rfl
@[simp] theorem State.askBeacon_out (s : State) : (s.askBeacon).out = s.out := rfl
@[simp] theorem State.askBeacon_agenda (s : State) : (s.askBeacon).agenda = { s.agenda with beacon := true } := rfl
@[simp] theorem State.askBeacon_pending (s : State) : (s.askBeacon).pending = s.pending := rfl

/-! ### issue -/

@[simp] theorem State.issue_straps (s : State) (r : Request) : (s.issue r).straps = s.straps := rfl
@[simp] theorem State.issue_phase (s : State) (r : Request) : (s.issue r).phase = s.phase := rfl
@[simp] theorem State.issue_dup (s : State) (r : Request) : (s.issue r).dup = s.dup := rfl
@[simp] theorem State.issue_pins (s : State) (r : Request) : (s.issue r).pins = s.pins := rfl
@[simp] theorem State.issue_line (s : State) (r : Request) : (s.issue r).line = s.line := rfl
@[simp] theorem State.issue_recipes (s : State) (r : Request) : (s.issue r).recipes = s.recipes := rfl
@[simp] theorem State.issue_window (s : State) (r : Request) : (s.issue r).window = s.window := rfl
@[simp] theorem State.issue_head (s : State) (r : Request) : (s.issue r).head = s.head := rfl
@[simp] theorem State.issue_energy (s : State) (r : Request) : (s.issue r).energy = s.energy := rfl
@[simp] theorem State.issue_inMag (s : State) (r : Request) : (s.issue r).inMag = s.inMag := rfl
@[simp] theorem State.issue_outMag (s : State) (r : Request) : (s.issue r).outMag = s.outMag := rfl
@[simp] theorem State.issue_pull (s : State) (r : Request) : (s.issue r).pull = s.pull := rfl
@[simp] theorem State.issue_log (s : State) (r : Request) : (s.issue r).log = s.log := rfl
@[simp] theorem State.issue_alarms (s : State) (r : Request) : (s.issue r).alarms = s.alarms := rfl
@[simp] theorem State.issue_panel (s : State) (r : Request) : (s.issue r).panel = s.panel := rfl
@[simp] theorem State.issue_tally (s : State) (r : Request) : (s.issue r).tally = s.tally := rfl
@[simp] theorem State.issue_due (s : State) (r : Request) : (s.issue r).due = s.due := rfl
@[simp] theorem State.issue_out (s : State) (r : Request) : (s.issue r).out = s.out ++ [r] := rfl
@[simp] theorem State.issue_agenda (s : State) (r : Request) : (s.issue r).agenda = s.agenda := rfl
@[simp] theorem State.issue_pending (s : State) (r : Request) : (s.issue r).pending = s.pending := rfl

/-! ### request -/

@[simp] theorem State.request_straps (s : State) (r : Request) (pt : Port) (u : Use) :
    (s.request r pt u).straps = s.straps := rfl
@[simp] theorem State.request_phase (s : State) (r : Request) (pt : Port) (u : Use) :
    (s.request r pt u).phase = s.phase := rfl
@[simp] theorem State.request_dup (s : State) (r : Request) (pt : Port) (u : Use) :
    (s.request r pt u).dup = s.dup := rfl
@[simp] theorem State.request_pins (s : State) (r : Request) (pt : Port) (u : Use) :
    (s.request r pt u).pins = s.pins := rfl
@[simp] theorem State.request_line (s : State) (r : Request) (pt : Port) (u : Use) :
    (s.request r pt u).line = s.line := rfl
@[simp] theorem State.request_recipes (s : State) (r : Request) (pt : Port) (u : Use) :
    (s.request r pt u).recipes = s.recipes := rfl
@[simp] theorem State.request_window (s : State) (r : Request) (pt : Port) (u : Use) :
    (s.request r pt u).window = s.window := rfl
@[simp] theorem State.request_head (s : State) (r : Request) (pt : Port) (u : Use) :
    (s.request r pt u).head = s.head := rfl
@[simp] theorem State.request_energy (s : State) (r : Request) (pt : Port) (u : Use) :
    (s.request r pt u).energy = s.energy := rfl
@[simp] theorem State.request_inMag (s : State) (r : Request) (pt : Port) (u : Use) :
    (s.request r pt u).inMag = s.inMag := rfl
@[simp] theorem State.request_outMag (s : State) (r : Request) (pt : Port) (u : Use) :
    (s.request r pt u).outMag = s.outMag := rfl
@[simp] theorem State.request_pull (s : State) (r : Request) (pt : Port) (u : Use) :
    (s.request r pt u).pull = s.pull := rfl
@[simp] theorem State.request_log (s : State) (r : Request) (pt : Port) (u : Use) :
    (s.request r pt u).log = s.log := rfl
@[simp] theorem State.request_alarms (s : State) (r : Request) (pt : Port) (u : Use) :
    (s.request r pt u).alarms = s.alarms := rfl
@[simp] theorem State.request_panel (s : State) (r : Request) (pt : Port) (u : Use) :
    (s.request r pt u).panel = s.panel := rfl
@[simp] theorem State.request_tally (s : State) (r : Request) (pt : Port) (u : Use) :
    (s.request r pt u).tally = s.tally := rfl
@[simp] theorem State.request_due (s : State) (r : Request) (pt : Port) (u : Use) :
    (s.request r pt u).due = s.due ++ [⟨pt, u, true⟩] := rfl
@[simp] theorem State.request_out (s : State) (r : Request) (pt : Port) (u : Use) :
    (s.request r pt u).out = s.out ++ [r] := rfl
@[simp] theorem State.request_agenda (s : State) (r : Request) (pt : Port) (u : Use) :
    (s.request r pt u).agenda = s.agenda := rfl
@[simp] theorem State.request_pending (s : State) (r : Request) (pt : Port) (u : Use) :
    (s.request r pt u).pending = s.pending := rfl

/-! ### ignoreDue -/

@[simp] theorem State.ignoreDue_straps (s : State) (w : Due → Bool) : (s.ignoreDue w).straps = s.straps := rfl
@[simp] theorem State.ignoreDue_phase (s : State) (w : Due → Bool) : (s.ignoreDue w).phase = s.phase := rfl
@[simp] theorem State.ignoreDue_dup (s : State) (w : Due → Bool) : (s.ignoreDue w).dup = s.dup := rfl
@[simp] theorem State.ignoreDue_pins (s : State) (w : Due → Bool) : (s.ignoreDue w).pins = s.pins := rfl
@[simp] theorem State.ignoreDue_line (s : State) (w : Due → Bool) : (s.ignoreDue w).line = s.line := rfl
@[simp] theorem State.ignoreDue_recipes (s : State) (w : Due → Bool) : (s.ignoreDue w).recipes = s.recipes := rfl
@[simp] theorem State.ignoreDue_window (s : State) (w : Due → Bool) : (s.ignoreDue w).window = s.window := rfl
@[simp] theorem State.ignoreDue_head (s : State) (w : Due → Bool) : (s.ignoreDue w).head = s.head := rfl
@[simp] theorem State.ignoreDue_energy (s : State) (w : Due → Bool) : (s.ignoreDue w).energy = s.energy := rfl
@[simp] theorem State.ignoreDue_inMag (s : State) (w : Due → Bool) : (s.ignoreDue w).inMag = s.inMag := rfl
@[simp] theorem State.ignoreDue_outMag (s : State) (w : Due → Bool) : (s.ignoreDue w).outMag = s.outMag := rfl
@[simp] theorem State.ignoreDue_pull (s : State) (w : Due → Bool) : (s.ignoreDue w).pull = s.pull := rfl
@[simp] theorem State.ignoreDue_log (s : State) (w : Due → Bool) : (s.ignoreDue w).log = s.log := rfl
@[simp] theorem State.ignoreDue_alarms (s : State) (w : Due → Bool) : (s.ignoreDue w).alarms = s.alarms := rfl
@[simp] theorem State.ignoreDue_panel (s : State) (w : Due → Bool) : (s.ignoreDue w).panel = s.panel := rfl
@[simp] theorem State.ignoreDue_tally (s : State) (w : Due → Bool) : (s.ignoreDue w).tally = s.tally := rfl
@[simp] theorem State.ignoreDue_due (s : State) (w : Due → Bool) :
    (s.ignoreDue w).due = s.due.map (fun d => if w d then { d with live := false } else d) := rfl
@[simp] theorem State.ignoreDue_out (s : State) (w : Due → Bool) : (s.ignoreDue w).out = s.out := rfl
@[simp] theorem State.ignoreDue_agenda (s : State) (w : Due → Bool) : (s.ignoreDue w).agenda = s.agenda := rfl
@[simp] theorem State.ignoreDue_pending (s : State) (w : Due → Bool) : (s.ignoreDue w).pending = s.pending := rfl

/-! ### count -/

@[simp] theorem State.count_straps (s : State) (t : Tally) : (s.count t).straps = s.straps := rfl
@[simp] theorem State.count_phase (s : State) (t : Tally) : (s.count t).phase = s.phase := rfl
@[simp] theorem State.count_dup (s : State) (t : Tally) : (s.count t).dup = s.dup := rfl
@[simp] theorem State.count_pins (s : State) (t : Tally) : (s.count t).pins = s.pins := rfl
@[simp] theorem State.count_line (s : State) (t : Tally) : (s.count t).line = s.line := rfl
@[simp] theorem State.count_recipes (s : State) (t : Tally) : (s.count t).recipes = s.recipes := rfl
@[simp] theorem State.count_window (s : State) (t : Tally) : (s.count t).window = s.window := rfl
@[simp] theorem State.count_head (s : State) (t : Tally) : (s.count t).head = s.head := rfl
@[simp] theorem State.count_energy (s : State) (t : Tally) : (s.count t).energy = s.energy := rfl
@[simp] theorem State.count_inMag (s : State) (t : Tally) : (s.count t).inMag = s.inMag := rfl
@[simp] theorem State.count_outMag (s : State) (t : Tally) : (s.count t).outMag = s.outMag := rfl
@[simp] theorem State.count_pull (s : State) (t : Tally) : (s.count t).pull = s.pull := rfl
@[simp] theorem State.count_log (s : State) (t : Tally) : (s.count t).log = s.log := rfl
@[simp] theorem State.count_alarms (s : State) (t : Tally) : (s.count t).alarms = s.alarms := rfl
@[simp] theorem State.count_panel (s : State) (t : Tally) : (s.count t).panel = s.panel := rfl
@[simp] theorem State.count_tally (s : State) (t : Tally) :
    (s.count t).tally = { s.tally with counters := s.tally.counters.modify t.index Counter.bump } := rfl
@[simp] theorem State.count_due (s : State) (t : Tally) : (s.count t).due = s.due := rfl
@[simp] theorem State.count_out (s : State) (t : Tally) : (s.count t).out = s.out := rfl
@[simp] theorem State.count_agenda (s : State) (t : Tally) : (s.count t).agenda = s.agenda := rfl
@[simp] theorem State.count_pending (s : State) (t : Tally) : (s.count t).pending = s.pending := rfl

/-! ### onRecord -/

@[simp] theorem State.onRecord_straps (s : State) (f : StripRecord → StripRecord) :
    (s.onRecord f).straps = s.straps := rfl
@[simp] theorem State.onRecord_phase (s : State) (f : StripRecord → StripRecord) :
    (s.onRecord f).phase = s.phase := rfl
@[simp] theorem State.onRecord_dup (s : State) (f : StripRecord → StripRecord) : (s.onRecord f).dup = s.dup := rfl
@[simp] theorem State.onRecord_pins (s : State) (f : StripRecord → StripRecord) :
    (s.onRecord f).pins = s.pins := rfl
@[simp] theorem State.onRecord_line (s : State) (f : StripRecord → StripRecord) :
    (s.onRecord f).line = s.line := rfl
@[simp] theorem State.onRecord_recipes (s : State) (f : StripRecord → StripRecord) :
    (s.onRecord f).recipes = s.recipes := rfl
@[simp] theorem State.onRecord_window (s : State) (f : StripRecord → StripRecord) :
    (s.onRecord f).window = { s.window with record := s.window.record.map f } := rfl
@[simp] theorem State.onRecord_head (s : State) (f : StripRecord → StripRecord) :
    (s.onRecord f).head = s.head := rfl
@[simp] theorem State.onRecord_energy (s : State) (f : StripRecord → StripRecord) :
    (s.onRecord f).energy = s.energy := rfl
@[simp] theorem State.onRecord_inMag (s : State) (f : StripRecord → StripRecord) :
    (s.onRecord f).inMag = s.inMag := rfl
@[simp] theorem State.onRecord_outMag (s : State) (f : StripRecord → StripRecord) :
    (s.onRecord f).outMag = s.outMag := rfl
@[simp] theorem State.onRecord_pull (s : State) (f : StripRecord → StripRecord) :
    (s.onRecord f).pull = s.pull := rfl
@[simp] theorem State.onRecord_log (s : State) (f : StripRecord → StripRecord) : (s.onRecord f).log = s.log := rfl
@[simp] theorem State.onRecord_alarms (s : State) (f : StripRecord → StripRecord) :
    (s.onRecord f).alarms = s.alarms := rfl
@[simp] theorem State.onRecord_panel (s : State) (f : StripRecord → StripRecord) :
    (s.onRecord f).panel = s.panel := rfl
@[simp] theorem State.onRecord_tally (s : State) (f : StripRecord → StripRecord) :
    (s.onRecord f).tally = s.tally := rfl
@[simp] theorem State.onRecord_due (s : State) (f : StripRecord → StripRecord) : (s.onRecord f).due = s.due := rfl
@[simp] theorem State.onRecord_out (s : State) (f : StripRecord → StripRecord) : (s.onRecord f).out = s.out := rfl
@[simp] theorem State.onRecord_agenda (s : State) (f : StripRecord → StripRecord) :
    (s.onRecord f).agenda = s.agenda := rfl
@[simp] theorem State.onRecord_pending (s : State) (f : StripRecord → StripRecord) :
    (s.onRecord f).pending = s.pending := rfl

/-! ### onInMag -/

@[simp] theorem State.onInMag_straps (s : State) (f : InMag → InMag) : (s.onInMag f).straps = s.straps := rfl
@[simp] theorem State.onInMag_phase (s : State) (f : InMag → InMag) : (s.onInMag f).phase = s.phase := rfl
@[simp] theorem State.onInMag_dup (s : State) (f : InMag → InMag) : (s.onInMag f).dup = s.dup := rfl
@[simp] theorem State.onInMag_pins (s : State) (f : InMag → InMag) : (s.onInMag f).pins = s.pins := rfl
@[simp] theorem State.onInMag_line (s : State) (f : InMag → InMag) : (s.onInMag f).line = s.line := rfl
@[simp] theorem State.onInMag_recipes (s : State) (f : InMag → InMag) : (s.onInMag f).recipes = s.recipes := rfl
@[simp] theorem State.onInMag_window (s : State) (f : InMag → InMag) : (s.onInMag f).window = s.window := rfl
@[simp] theorem State.onInMag_head (s : State) (f : InMag → InMag) : (s.onInMag f).head = s.head := rfl
@[simp] theorem State.onInMag_energy (s : State) (f : InMag → InMag) : (s.onInMag f).energy = s.energy := rfl
@[simp] theorem State.onInMag_inMag (s : State) (f : InMag → InMag) : (s.onInMag f).inMag = f s.inMag := rfl
@[simp] theorem State.onInMag_outMag (s : State) (f : InMag → InMag) : (s.onInMag f).outMag = s.outMag := rfl
@[simp] theorem State.onInMag_pull (s : State) (f : InMag → InMag) : (s.onInMag f).pull = s.pull := rfl
@[simp] theorem State.onInMag_log (s : State) (f : InMag → InMag) : (s.onInMag f).log = s.log := rfl
@[simp] theorem State.onInMag_alarms (s : State) (f : InMag → InMag) : (s.onInMag f).alarms = s.alarms := rfl
@[simp] theorem State.onInMag_panel (s : State) (f : InMag → InMag) : (s.onInMag f).panel = s.panel := rfl
@[simp] theorem State.onInMag_tally (s : State) (f : InMag → InMag) : (s.onInMag f).tally = s.tally := rfl
@[simp] theorem State.onInMag_due (s : State) (f : InMag → InMag) : (s.onInMag f).due = s.due := rfl
@[simp] theorem State.onInMag_out (s : State) (f : InMag → InMag) : (s.onInMag f).out = s.out := rfl
@[simp] theorem State.onInMag_agenda (s : State) (f : InMag → InMag) : (s.onInMag f).agenda = s.agenda := rfl
@[simp] theorem State.onInMag_pending (s : State) (f : InMag → InMag) : (s.onInMag f).pending = s.pending := rfl

/-! ### onPanel -/

@[simp] theorem State.onPanel_straps (s : State) (f : Panel → Panel) : (s.onPanel f).straps = s.straps := rfl
@[simp] theorem State.onPanel_phase (s : State) (f : Panel → Panel) : (s.onPanel f).phase = s.phase := rfl
@[simp] theorem State.onPanel_dup (s : State) (f : Panel → Panel) : (s.onPanel f).dup = s.dup := rfl
@[simp] theorem State.onPanel_pins (s : State) (f : Panel → Panel) : (s.onPanel f).pins = s.pins := rfl
@[simp] theorem State.onPanel_line (s : State) (f : Panel → Panel) : (s.onPanel f).line = s.line := rfl
@[simp] theorem State.onPanel_recipes (s : State) (f : Panel → Panel) : (s.onPanel f).recipes = s.recipes := rfl
@[simp] theorem State.onPanel_window (s : State) (f : Panel → Panel) : (s.onPanel f).window = s.window := rfl
@[simp] theorem State.onPanel_head (s : State) (f : Panel → Panel) : (s.onPanel f).head = s.head := rfl
@[simp] theorem State.onPanel_energy (s : State) (f : Panel → Panel) : (s.onPanel f).energy = s.energy := rfl
@[simp] theorem State.onPanel_inMag (s : State) (f : Panel → Panel) : (s.onPanel f).inMag = s.inMag := rfl
@[simp] theorem State.onPanel_outMag (s : State) (f : Panel → Panel) : (s.onPanel f).outMag = s.outMag := rfl
@[simp] theorem State.onPanel_pull (s : State) (f : Panel → Panel) : (s.onPanel f).pull = s.pull := rfl
@[simp] theorem State.onPanel_log (s : State) (f : Panel → Panel) : (s.onPanel f).log = s.log := rfl
@[simp] theorem State.onPanel_alarms (s : State) (f : Panel → Panel) : (s.onPanel f).alarms = s.alarms := rfl
@[simp] theorem State.onPanel_panel (s : State) (f : Panel → Panel) : (s.onPanel f).panel = f s.panel := rfl
@[simp] theorem State.onPanel_tally (s : State) (f : Panel → Panel) : (s.onPanel f).tally = s.tally := rfl
@[simp] theorem State.onPanel_due (s : State) (f : Panel → Panel) : (s.onPanel f).due = s.due := rfl
@[simp] theorem State.onPanel_out (s : State) (f : Panel → Panel) : (s.onPanel f).out = s.out := rfl
@[simp] theorem State.onPanel_agenda (s : State) (f : Panel → Panel) : (s.onPanel f).agenda = s.agenda := rfl
@[simp] theorem State.onPanel_pending (s : State) (f : Panel → Panel) : (s.onPanel f).pending = s.pending := rfl

/-! ### onSample -/

@[simp] theorem State.onSample_straps (s : State) (f : Sample → Sample) : (s.onSample f).straps = s.straps := rfl
@[simp] theorem State.onSample_phase (s : State) (f : Sample → Sample) : (s.onSample f).phase = s.phase := rfl
@[simp] theorem State.onSample_dup (s : State) (f : Sample → Sample) : (s.onSample f).dup = s.dup := rfl
@[simp] theorem State.onSample_pins (s : State) (f : Sample → Sample) : (s.onSample f).pins = s.pins := rfl
@[simp] theorem State.onSample_line (s : State) (f : Sample → Sample) : (s.onSample f).line = s.line := rfl
@[simp] theorem State.onSample_recipes (s : State) (f : Sample → Sample) :
    (s.onSample f).recipes = s.recipes := rfl
@[simp] theorem State.onSample_window (s : State) (f : Sample → Sample) : (s.onSample f).window = s.window := rfl
@[simp] theorem State.onSample_head (s : State) (f : Sample → Sample) : (s.onSample f).head = s.head := rfl
@[simp] theorem State.onSample_energy (s : State) (f : Sample → Sample) : (s.onSample f).energy = s.energy := rfl
@[simp] theorem State.onSample_inMag (s : State) (f : Sample → Sample) : (s.onSample f).inMag = s.inMag := rfl
@[simp] theorem State.onSample_outMag (s : State) (f : Sample → Sample) : (s.onSample f).outMag = s.outMag := rfl
@[simp] theorem State.onSample_pull (s : State) (f : Sample → Sample) :
    (s.onSample f).pull = { s.pull with sample := s.pull.sample.map f } := rfl
@[simp] theorem State.onSample_log (s : State) (f : Sample → Sample) : (s.onSample f).log = s.log := rfl
@[simp] theorem State.onSample_alarms (s : State) (f : Sample → Sample) : (s.onSample f).alarms = s.alarms := rfl
@[simp] theorem State.onSample_panel (s : State) (f : Sample → Sample) : (s.onSample f).panel = s.panel := rfl
@[simp] theorem State.onSample_tally (s : State) (f : Sample → Sample) : (s.onSample f).tally = s.tally := rfl
@[simp] theorem State.onSample_due (s : State) (f : Sample → Sample) : (s.onSample f).due = s.due := rfl
@[simp] theorem State.onSample_out (s : State) (f : Sample → Sample) : (s.onSample f).out = s.out := rfl
@[simp] theorem State.onSample_agenda (s : State) (f : Sample → Sample) : (s.onSample f).agenda = s.agenda := rfl
@[simp] theorem State.onSample_pending (s : State) (f : Sample → Sample) :
    (s.onSample f).pending = s.pending := rfl

/-! ### enter -/

@[simp] theorem State.enter_straps (s : State) (h : HeadState) (g : Stage) : (s.enter h g).straps = s.straps := rfl
@[simp] theorem State.enter_phase (s : State) (h : HeadState) (g : Stage) : (s.enter h g).phase = s.phase := rfl
@[simp] theorem State.enter_dup (s : State) (h : HeadState) (g : Stage) : (s.enter h g).dup = s.dup := rfl
@[simp] theorem State.enter_pins (s : State) (h : HeadState) (g : Stage) : (s.enter h g).pins = s.pins := rfl
@[simp] theorem State.enter_line (s : State) (h : HeadState) (g : Stage) : (s.enter h g).line = s.line := rfl
@[simp] theorem State.enter_recipes (s : State) (h : HeadState) (g : Stage) :
    (s.enter h g).recipes = s.recipes := rfl
@[simp] theorem State.enter_window (s : State) (h : HeadState) (g : Stage) : (s.enter h g).window = s.window := rfl
@[simp] theorem State.enter_head (s : State) (h : HeadState) (g : Stage) :
    (s.enter h g).head = { s.head with state := h, stage := g } := rfl
@[simp] theorem State.enter_energy (s : State) (h : HeadState) (g : Stage) : (s.enter h g).energy = s.energy := rfl
@[simp] theorem State.enter_inMag (s : State) (h : HeadState) (g : Stage) : (s.enter h g).inMag = s.inMag := rfl
@[simp] theorem State.enter_outMag (s : State) (h : HeadState) (g : Stage) : (s.enter h g).outMag = s.outMag := rfl
@[simp] theorem State.enter_pull (s : State) (h : HeadState) (g : Stage) : (s.enter h g).pull = s.pull := rfl
@[simp] theorem State.enter_log (s : State) (h : HeadState) (g : Stage) : (s.enter h g).log = s.log := rfl
@[simp] theorem State.enter_alarms (s : State) (h : HeadState) (g : Stage) : (s.enter h g).alarms = s.alarms := rfl
@[simp] theorem State.enter_panel (s : State) (h : HeadState) (g : Stage) : (s.enter h g).panel = s.panel := rfl
@[simp] theorem State.enter_tally (s : State) (h : HeadState) (g : Stage) : (s.enter h g).tally = s.tally := rfl
@[simp] theorem State.enter_due (s : State) (h : HeadState) (g : Stage) : (s.enter h g).due = s.due := rfl
@[simp] theorem State.enter_out (s : State) (h : HeadState) (g : Stage) : (s.enter h g).out = s.out := rfl
@[simp] theorem State.enter_agenda (s : State) (h : HeadState) (g : Stage) : (s.enter h g).agenda = s.agenda := rfl
@[simp] theorem State.enter_pending (s : State) (h : HeadState) (g : Stage) :
    (s.enter h g).pending = s.pending := rfl

/-! ### withdraw -/

@[simp] theorem State.withdraw_straps (s : State) (w : Owner → Bool) : (s.withdraw w).straps = s.straps := rfl
@[simp] theorem State.withdraw_phase (s : State) (w : Owner → Bool) : (s.withdraw w).phase = s.phase := rfl
@[simp] theorem State.withdraw_dup (s : State) (w : Owner → Bool) : (s.withdraw w).dup = s.dup := rfl
@[simp] theorem State.withdraw_pins (s : State) (w : Owner → Bool) : (s.withdraw w).pins = s.pins := rfl
@[simp] theorem State.withdraw_line (s : State) (w : Owner → Bool) :
    (s.withdraw w).line = { s.line with waiting := s.line.waiting.filter (fun x => match x with | .beaconDue => true | .frame o _ => !w o) } := rfl
@[simp] theorem State.withdraw_recipes (s : State) (w : Owner → Bool) : (s.withdraw w).recipes = s.recipes := rfl
@[simp] theorem State.withdraw_window (s : State) (w : Owner → Bool) : (s.withdraw w).window = s.window := rfl
@[simp] theorem State.withdraw_head (s : State) (w : Owner → Bool) : (s.withdraw w).head = s.head := rfl
@[simp] theorem State.withdraw_energy (s : State) (w : Owner → Bool) : (s.withdraw w).energy = s.energy := rfl
@[simp] theorem State.withdraw_inMag (s : State) (w : Owner → Bool) : (s.withdraw w).inMag = s.inMag := rfl
@[simp] theorem State.withdraw_outMag (s : State) (w : Owner → Bool) : (s.withdraw w).outMag = s.outMag := rfl
@[simp] theorem State.withdraw_pull (s : State) (w : Owner → Bool) : (s.withdraw w).pull = s.pull := rfl
@[simp] theorem State.withdraw_log (s : State) (w : Owner → Bool) : (s.withdraw w).log = s.log := rfl
@[simp] theorem State.withdraw_alarms (s : State) (w : Owner → Bool) : (s.withdraw w).alarms = s.alarms := rfl
@[simp] theorem State.withdraw_panel (s : State) (w : Owner → Bool) : (s.withdraw w).panel = s.panel := rfl
@[simp] theorem State.withdraw_tally (s : State) (w : Owner → Bool) : (s.withdraw w).tally = s.tally := rfl
@[simp] theorem State.withdraw_due (s : State) (w : Owner → Bool) : (s.withdraw w).due = s.due := rfl
@[simp] theorem State.withdraw_out (s : State) (w : Owner → Bool) : (s.withdraw w).out = s.out := rfl
@[simp] theorem State.withdraw_agenda (s : State) (w : Owner → Bool) : (s.withdraw w).agenda = s.agenda := rfl
@[simp] theorem State.withdraw_pending (s : State) (w : Owner → Bool) : (s.withdraw w).pending = s.pending := rfl

/-! ### clearUnit -/

@[simp] theorem State.clearUnit_straps (s : State) : (s.clearUnit).straps = s.straps := rfl
@[simp] theorem State.clearUnit_phase (s : State) : (s.clearUnit).phase = s.phase := rfl
@[simp] theorem State.clearUnit_dup (s : State) : (s.clearUnit).dup = s.dup := rfl
@[simp] theorem State.clearUnit_pins (s : State) : (s.clearUnit).pins = s.pins := rfl
@[simp] theorem State.clearUnit_line (s : State) : (s.clearUnit).line = s.line := rfl
@[simp] theorem State.clearUnit_recipes (s : State) : (s.clearUnit).recipes = s.recipes := rfl
@[simp] theorem State.clearUnit_window (s : State) : (s.clearUnit).window = s.window := rfl
@[simp] theorem State.clearUnit_head (s : State) :
    (s.clearUnit).head = { s.head with unit := none, wire := 0, firstWire := 0 } := rfl
@[simp] theorem State.clearUnit_energy (s : State) :
    (s.clearUnit).energy = { s.energy with working := none } := rfl
@[simp] theorem State.clearUnit_inMag (s : State) : (s.clearUnit).inMag = s.inMag := rfl
@[simp] theorem State.clearUnit_outMag (s : State) : (s.clearUnit).outMag = s.outMag := rfl
@[simp] theorem State.clearUnit_pull (s : State) : (s.clearUnit).pull = s.pull := rfl
@[simp] theorem State.clearUnit_log (s : State) : (s.clearUnit).log = s.log := rfl
@[simp] theorem State.clearUnit_alarms (s : State) : (s.clearUnit).alarms = s.alarms := rfl
@[simp] theorem State.clearUnit_panel (s : State) : (s.clearUnit).panel = s.panel := rfl
@[simp] theorem State.clearUnit_tally (s : State) : (s.clearUnit).tally = s.tally := rfl
@[simp] theorem State.clearUnit_due (s : State) : (s.clearUnit).due = s.due := rfl
@[simp] theorem State.clearUnit_out (s : State) : (s.clearUnit).out = s.out := rfl
@[simp] theorem State.clearUnit_agenda (s : State) : (s.clearUnit).agenda = s.agenda := rfl
@[simp] theorem State.clearUnit_pending (s : State) : (s.clearUnit).pending = s.pending := rfl

/-! ### restartLine -/

@[simp] theorem State.restartLine_straps (s : State) : (s.restartLine).straps = s.straps := rfl
@[simp] theorem State.restartLine_phase (s : State) : (s.restartLine).phase = s.phase := rfl
@[simp] theorem State.restartLine_dup (s : State) : (s.restartLine).dup = s.dup := rfl
@[simp] theorem State.restartLine_pins (s : State) : (s.restartLine).pins = s.pins := rfl
@[simp] theorem State.restartLine_line (s : State) :
    (s.restartLine).line = { s.line with txQueue := [], waiting := [], sending := s.line.sending.map (fun x => { x with queued := false }), lastRefusal := none } := rfl
@[simp] theorem State.restartLine_recipes (s : State) : (s.restartLine).recipes = s.recipes := rfl
@[simp] theorem State.restartLine_window (s : State) : (s.restartLine).window = s.window := rfl
@[simp] theorem State.restartLine_head (s : State) : (s.restartLine).head = s.head := rfl
@[simp] theorem State.restartLine_energy (s : State) : (s.restartLine).energy = s.energy := rfl
@[simp] theorem State.restartLine_inMag (s : State) : (s.restartLine).inMag = s.inMag := rfl
@[simp] theorem State.restartLine_outMag (s : State) : (s.restartLine).outMag = s.outMag := rfl
@[simp] theorem State.restartLine_pull (s : State) : (s.restartLine).pull = s.pull := rfl
@[simp] theorem State.restartLine_log (s : State) : (s.restartLine).log = s.log := rfl
@[simp] theorem State.restartLine_alarms (s : State) : (s.restartLine).alarms = s.alarms := rfl
@[simp] theorem State.restartLine_panel (s : State) : (s.restartLine).panel = s.panel := rfl
@[simp] theorem State.restartLine_tally (s : State) : (s.restartLine).tally = s.tally := rfl
@[simp] theorem State.restartLine_due (s : State) : (s.restartLine).due = s.due := rfl
@[simp] theorem State.restartLine_out (s : State) : (s.restartLine).out = s.out := rfl
@[simp] theorem State.restartLine_agenda (s : State) : (s.restartLine).agenda = s.agenda := rfl
@[simp] theorem State.restartLine_pending (s : State) : (s.restartLine).pending = s.pending := rfl

/-! ### restartEnergy -/

@[simp] theorem State.restartEnergy_straps (s : State) : (s.restartEnergy).straps = s.straps := rfl
@[simp] theorem State.restartEnergy_phase (s : State) : (s.restartEnergy).phase = s.phase := rfl
@[simp] theorem State.restartEnergy_dup (s : State) : (s.restartEnergy).dup = s.dup := rfl
@[simp] theorem State.restartEnergy_pins (s : State) : (s.restartEnergy).pins = s.pins := rfl
@[simp] theorem State.restartEnergy_line (s : State) : (s.restartEnergy).line = s.line := rfl
@[simp] theorem State.restartEnergy_recipes (s : State) : (s.restartEnergy).recipes = s.recipes := rfl
@[simp] theorem State.restartEnergy_window (s : State) : (s.restartEnergy).window = s.window := rfl
@[simp] theorem State.restartEnergy_head (s : State) : (s.restartEnergy).head = s.head := rfl
@[simp] theorem State.restartEnergy_energy (s : State) :
    (s.restartEnergy).energy = { s.energy with rings := emptyRings, working := none, table := none } := rfl
@[simp] theorem State.restartEnergy_inMag (s : State) : (s.restartEnergy).inMag = s.inMag := rfl
@[simp] theorem State.restartEnergy_outMag (s : State) : (s.restartEnergy).outMag = s.outMag := rfl
@[simp] theorem State.restartEnergy_pull (s : State) : (s.restartEnergy).pull = s.pull := rfl
@[simp] theorem State.restartEnergy_log (s : State) : (s.restartEnergy).log = s.log := rfl
@[simp] theorem State.restartEnergy_alarms (s : State) : (s.restartEnergy).alarms = s.alarms := rfl
@[simp] theorem State.restartEnergy_panel (s : State) : (s.restartEnergy).panel = s.panel := rfl
@[simp] theorem State.restartEnergy_tally (s : State) : (s.restartEnergy).tally = s.tally := rfl
@[simp] theorem State.restartEnergy_due (s : State) : (s.restartEnergy).due = s.due := rfl
@[simp] theorem State.restartEnergy_out (s : State) : (s.restartEnergy).out = s.out := rfl
@[simp] theorem State.restartEnergy_agenda (s : State) : (s.restartEnergy).agenda = s.agenda := rfl
@[simp] theorem State.restartEnergy_pending (s : State) : (s.restartEnergy).pending = s.pending := rfl

/-! ### countOutput -/

@[simp] theorem State.countOutput_straps (s : State) : (s.countOutput).straps = s.straps := rfl
@[simp] theorem State.countOutput_phase (s : State) : (s.countOutput).phase = s.phase := rfl
@[simp] theorem State.countOutput_dup (s : State) : (s.countOutput).dup = s.dup := rfl
@[simp] theorem State.countOutput_pins (s : State) : (s.countOutput).pins = s.pins := rfl
@[simp] theorem State.countOutput_line (s : State) : (s.countOutput).line = s.line := rfl
@[simp] theorem State.countOutput_recipes (s : State) : (s.countOutput).recipes = s.recipes := rfl
@[simp] theorem State.countOutput_window (s : State) : (s.countOutput).window = s.window := rfl
@[simp] theorem State.countOutput_head (s : State) : (s.countOutput).head = s.head := rfl
@[simp] theorem State.countOutput_energy (s : State) : (s.countOutput).energy = s.energy := rfl
@[simp] theorem State.countOutput_inMag (s : State) : (s.countOutput).inMag = s.inMag := rfl
@[simp] theorem State.countOutput_outMag (s : State) :
    (s.countOutput).outMag = { s.outMag with inserted := wrap16 s.outMag.inserted } := rfl
@[simp] theorem State.countOutput_pull (s : State) : (s.countOutput).pull = s.pull := rfl
@[simp] theorem State.countOutput_log (s : State) : (s.countOutput).log = s.log := rfl
@[simp] theorem State.countOutput_alarms (s : State) : (s.countOutput).alarms = s.alarms := rfl
@[simp] theorem State.countOutput_panel (s : State) : (s.countOutput).panel = s.panel := rfl
@[simp] theorem State.countOutput_tally (s : State) : (s.countOutput).tally = s.tally := rfl
@[simp] theorem State.countOutput_due (s : State) : (s.countOutput).due = s.due := rfl
@[simp] theorem State.countOutput_out (s : State) : (s.countOutput).out = s.out := rfl
@[simp] theorem State.countOutput_agenda (s : State) : (s.countOutput).agenda = s.agenda := rfl
@[simp] theorem State.countOutput_pending (s : State) : (s.countOutput).pending = s.pending := rfl

/-! ### Small updates of the panel and the head -/

@[simp] theorem Panel.keepDeferral_list (p : Panel) : p.keepDeferral.list = p.list := by
  unfold Panel.keepDeferral
  split <;> rfl

@[simp] theorem Panel.refresh_list (p : Panel) : p.refresh.list = p.list := by
  unfold Panel.refresh Panel.showOpen
  split
  · simp
  · split <;> simp

/-- The deferral timer runs only while an entry is DEFERRED (R175). -/
theorem Panel.refresh_deferTimer (p : Panel) (h : p.list.any (fun e => e.state == .deferred) = false) :
    p.refresh.deferTimer = none := by
  have k : p.keepDeferral.deferTimer = none := by simp [Panel.keepDeferral, h]
  unfold Panel.refresh Panel.showOpen
  split
  · exact k
  · split <;> exact k

@[simp] theorem State.startLastHoming_homingParks (s : State) : s.startLastHoming.head.homingParks = true := rfl

/-! ### The surface height under a choice on DRIVE FAULT (R35, R56, R58) -/

@[simp] theorem State.closeSample_head (s : State) (b : Bool) : (s.closeSample b).head = s.head := by
  unfold State.closeSample
  split
  · split
    · rfl
    · split <;> rfl
  · rfl

@[simp] theorem State.interrupt_surface (s : State) : s.interrupt.head.surface = s.head.surface := by
  unfold State.interrupt State.countIf
  split
  · split <;> rfl
  · rfl

@[simp] theorem State.giveUpWork_surface (s : State) : s.giveUpWork.head.surface = s.head.surface := by
  simp [State.giveUpWork]

@[simp] theorem State.startHoming_surface (s : State) (n : NextWork) :
    (s.startHoming n).head.surface = s.head.surface := rfl

@[simp] theorem State.startLastHoming_surface (s : State) : s.startLastHoming.head.surface = s.head.surface := rfl

@[simp] theorem State.enterParked_surface (s : State) : s.enterParked.head.surface = s.head.surface := by
  unfold State.enterParked
  dsimp only
  split
  · rfl
  · unfold State.feedAfterParking
    split <;> rfl

@[simp] theorem State.parkWork_surface (s : State) : s.parkWork.head.surface = s.head.surface := by
  simp [State.parkWork]

/-- RETRY of a stopped wire leaves no surface height, under BYPASS and without it; any other choice on DRIVE FAULT, and
RETRY of other work, keeps it (R35, R56, R58). -/
theorem State.driveChoice_surface (s : State) (c : Choice) (again : Bool) :
    (s.driveChoice c again).head.surface =
      if c = .retry ∧ s.head.next = .stoppedWire then none else s.head.surface := by
  unfold State.driveChoice
  dsimp only
  split
  · simp [State.discardStopped]
  · split
    · simp [State.discardStopped]
    · split <;> simp [State.discardStopped]

/-- No feed may begin before a restart's homing has ended and the head has parked (R133). -/
theorem State.feedAllowed_restart {s : State} (h : s.head.restartHoming = true) : s.feedAllowed = false := by
  simp [State.feedAllowed, h]

end Sys2Proof.Machine
end

