-- ==== Sys2Proof/Laws/Line.lean ====
section
/-! SUPPORT. What the operations of the station line, the panel's list and the alarm queue can change, said once for
each: everything else stays. -/

namespace Sys2Proof.Machine

/-- `t` differs from `s` at most in the line, the panel, the requests, the agenda, and in what the placing of a waiting
STRIP RECORD or of a read's last frame marks. -/
def LineChange (t s : State) : Prop :=
  t = { s with
    line := t.line, panel := t.panel, out := t.out, due := t.due, agenda := t.agenda
    window.recordQueued := t.window.recordQueued, log.service := t.log.service }

/-- As `LineChange`, and the alarm queue and its counter may differ. -/
def AlarmChange (t s : State) : Prop :=
  t = { s with
    line := t.line, panel := t.panel, out := t.out, due := t.due, agenda := t.agenda
    window.recordQueued := t.window.recordQueued, log.service := t.log.service
    alarms.queue := t.alarms.queue, alarms.counter := t.alarms.counter }

theorem LineChange.refl (s : State) : LineChange s s := rfl

theorem LineChange.trans {u t s : State} (h : LineChange u t) (k : LineChange t s) : LineChange u s := by
  unfold LineChange at *
  rw [h, k]

theorem AlarmChange.refl (s : State) : AlarmChange s s := rfl

theorem AlarmChange.trans {u t s : State} (h : AlarmChange u t) (k : AlarmChange t s) : AlarmChange u s := by
  unfold AlarmChange at *
  rw [h, k]

theorem LineChange.alarm {t s : State} (h : LineChange t s) : AlarmChange t s := by
  unfold LineChange at h
  unfold AlarmChange
  rw [h]

/-! ### Fields that an alarm change keeps -/

theorem AlarmChange.straps {t s : State} (h : AlarmChange t s) : t.straps = s.straps := (congrArg State.straps h :)
theorem AlarmChange.phase {t s : State} (h : AlarmChange t s) : t.phase = s.phase := (congrArg State.phase h :)
theorem AlarmChange.dup {t s : State} (h : AlarmChange t s) : t.dup = s.dup := (congrArg State.dup h :)
theorem AlarmChange.pins {t s : State} (h : AlarmChange t s) : t.pins = s.pins := (congrArg State.pins h :)
theorem AlarmChange.recipes {t s : State} (h : AlarmChange t s) : t.recipes = s.recipes := (congrArg State.recipes h :)
theorem AlarmChange.head {t s : State} (h : AlarmChange t s) : t.head = s.head := (congrArg State.head h :)
theorem AlarmChange.energy {t s : State} (h : AlarmChange t s) : t.energy = s.energy := (congrArg State.energy h :)
theorem AlarmChange.inMag {t s : State} (h : AlarmChange t s) : t.inMag = s.inMag := (congrArg State.inMag h :)
theorem AlarmChange.outMag {t s : State} (h : AlarmChange t s) : t.outMag = s.outMag := (congrArg State.outMag h :)
theorem AlarmChange.pull {t s : State} (h : AlarmChange t s) : t.pull = s.pull := (congrArg State.pull h :)
theorem AlarmChange.tally {t s : State} (h : AlarmChange t s) : t.tally = s.tally := (congrArg State.tally h :)
theorem AlarmChange.pending {t s : State} (h : AlarmChange t s) : t.pending = s.pending := (congrArg State.pending h :)
theorem AlarmChange.bypass {t s : State} (h : AlarmChange t s) : t.alarms.bypass = s.alarms.bypass :=
  (congrArg (fun x : State => x.alarms.bypass) h :)
theorem AlarmChange.hold {t s : State} (h : AlarmChange t s) : t.alarms.hold = s.alarms.hold :=
  (congrArg (fun x : State => x.alarms.hold) h :)
theorem AlarmChange.record {t s : State} (h : AlarmChange t s) : t.window.record = s.window.record :=
  (congrArg (fun x : State => x.window.record) h :)
theorem AlarmChange.inbound {t s : State} (h : AlarmChange t s) : t.window.inbound = s.window.inbound :=
  (congrArg (fun x : State => x.window.inbound) h :)
theorem AlarmChange.winState {t s : State} (h : AlarmChange t s) : t.window.state = s.window.state :=
  (congrArg (fun x : State => x.window.state) h :)
theorem LineChange.alarms {t s : State} (h : LineChange t s) : t.alarms = s.alarms := (congrArg State.alarms h :)

/-! ### The plain updates -/

theorem State.issue_change (s : State) (r : Request) : LineChange (s.issue r) s := rfl
theorem State.request_change (s : State) (r : Request) (pt : Port) (u : Use) : LineChange (s.request r pt u) s := rfl
theorem State.askBeacon_change (s : State) : LineChange s.askBeacon s := rfl
theorem State.askHead_change (s : State) : LineChange s.askHead s := rfl
theorem State.askStrip_change (s : State) : LineChange s.askStrip s := rfl
theorem State.askFeed_change (s : State) : LineChange s.askFeed s := rfl
theorem State.askFull_change (s : State) : LineChange s.askFull s := rfl
theorem State.withdraw_change (s : State) (w : Owner → Bool) : LineChange (s.withdraw w) s := rfl
theorem State.stripClampReq_change (s : State) (c : Bool) : LineChange (s.stripClampReq c) s := rfl
theorem State.beltOut_change (s : State) : LineChange s.beltOut s := rfl

/-! ### The panel's list (R180, R181) -/

/-- `t` differs from `s` at most in the panel and the requests. -/
def PanelChange (t s : State) : Prop := t = { s with panel := t.panel, out := t.out }

theorem PanelChange.trans {u t s : State} (h : PanelChange u t) (k : PanelChange t s) : PanelChange u s := by
  unfold PanelChange at *
  rw [h, k]

theorem PanelChange.line {t s : State} (h : PanelChange t s) : LineChange t s := by
  unfold PanelChange at h
  unfold LineChange
  rw [h]

theorem State.issue_panelOnly (s : State) (r : Request) : PanelChange (s.issue r) s := rfl

theorem State.standbyTest_panel (s : State) : PanelChange s.standbyTest s := by
  unfold State.standbyTest
  split <;> rfl

theorem State.panelChange_panel (s : State) (q : Panel) : PanelChange (s.panelChange q) s := by
  unfold State.panelChange
  split
  · exact (State.standbyTest_panel _).trans rfl
  · rfl

theorem State.panelAppend_panel (s : State) (e : PanelEntry) : PanelChange (s.panelAppend e) s := by
  unfold State.panelAppend
  split
  · exact (State.issue_panelOnly _ _).trans (State.panelChange_panel _ _)
  · rfl

theorem State.panelAlarm_panel (s : State) (n q : Nat) (k : AlarmKind) (c : Context) :
    PanelChange (s.panelAlarm n q k c) s := by
  unfold State.panelAlarm
  split
  · rfl
  · split
    · rfl
    · exact State.panelAppend_panel _ _

theorem State.panelSettled_panel (s : State) (n q : Nat) : PanelChange (s.panelSettled n q) s := by
  unfold State.panelSettled
  split
  · exact State.panelChange_panel _ _
  · rfl

theorem State.panelAbsent_panel (s : State) (n : Nat) : PanelChange (s.panelAbsent n) s := by
  unfold State.panelAbsent
  split
  · exact State.panelChange_panel _ _
  · rfl

theorem State.panelCarried_panel (n : Nat) (s : State) (a : Nat × Nat) : PanelChange (s.panelCarried n a) s := by
  unfold State.panelCarried
  split
  · rfl
  · split
    · exact State.panelAppend_panel _ _
    · rfl

theorem State.panelCarried_fold_panel (n : Nat) (l : List (Nat × Nat)) (s : State) :
    PanelChange (l.foldl (State.panelCarried n) s) s := by
  induction l generalizing s with
  | nil => rfl
  | cons a l ih => exact (ih _).trans (State.panelCarried_panel n s a)

theorem State.panelBeacon_panel (s : State) (n : Nat) (l : List (Nat × Nat)) : PanelChange (s.panelBeacon n l) s := by
  unfold State.panelBeacon
  split
  · rfl
  · exact (State.panelChange_panel _ _).trans (State.panelCarried_fold_panel n l s)

/-! ### The transmit queue (R191, R193) -/

theorem State.onPlaced_change (s : State) (o : Owner) : LineChange (s.onPlaced o) s := by
  unfold State.onPlaced
  split
  · split
    · exact ((State.beltOut_change _).trans (State.stripClampReq_change _ _)).trans rfl
    · rfl
  · rfl
  · rfl

theorem State.placeItem_change (s : State) (w : Waiting) : LineChange (s.placeItem w) s := by
  cases w with
  | beaconDue => exact (State.panelBeacon_panel _ _ _).line.trans rfl
  | frame o f => exact (State.onPlaced_change _ _).trans rfl

theorem State.drain_change (ws : List Waiting) (s : State) : LineChange (State.drain ws s) s := by
  induction ws generalizing s with
  | nil => rfl
  | cons w ws ih =>
    unfold State.drain
    split
    · exact (ih _).trans (State.placeItem_change s w)
    · rfl

theorem State.fill_change (s : State) : LineChange s.fill s := State.drain_change _ s

theorem State.submit_change (s : State) (o : Owner) (f : Frame) : LineChange (s.submit o f) s := by
  unfold State.submit
  split
  · exact (State.fill_change _).trans rfl
  · rfl

theorem State.placeBeacon_change (s : State) : LineChange s.placeBeacon s := by
  unfold State.placeBeacon
  split
  · rfl
  · split
    · rfl
    · split
      · rfl
      · exact (State.fill_change _).trans rfl

theorem State.queueBeacon_change (s : State) : LineChange s.queueBeacon s :=
  (State.askBeacon_change _).trans (State.placeBeacon_change s)

theorem State.refuse_change (s : State) (h : Hdr) (k : FrameKind) (c d : Nat) : LineChange (s.refuse h k c d) s := by
  unfold State.refuse
  dsimp only
  split
  · rfl
  · split
    · exact (State.submit_change _ _ _).trans rfl
    · exact (State.submit_change _ _ _).trans rfl

theorem State.submitReplies_change (k : FrameKind) (fs : List Frame) (s : State) :
    LineChange (State.submitReplies k s fs) s := by
  induction fs generalizing s with
  | nil => rfl
  | cons f fs ih =>
    cases fs with
    | nil => exact State.submit_change _ _ _
    | cons g gs => exact (ih _).trans (State.submit_change _ _ _)

theorem State.reply_change (s : State) (k : FrameKind) (fs : List Frame) : LineChange (s.reply k fs) s :=
  (State.submitReplies_change k fs _).trans (State.withdraw_change s _)

/-! ### The alarm queue (R164, R167, R168) -/

theorem State.askSettled_change (s : State) (k : AlarmKind) : LineChange (s.askSettled k) s := by
  unfold State.askSettled
  split
  · rfl
  · split <;> rfl

theorem State.addAlarm_change (s : State) (e : AlarmEntry) : AlarmChange (s.addAlarm e) s :=
  ((((State.queueBeacon_change _).trans (State.panelAlarm_panel _ _ _ _ _).line).trans
    (State.submit_change _ _ _)).alarm).trans rfl

theorem State.raise_change (s : State) (k : AlarmKind) : AlarmChange (s.raise k) s := by
  unfold State.raise
  split
  · rfl
  · exact State.addAlarm_change _ _

theorem State.removeAlarm_change (s : State) (e : AlarmEntry) (c : Choice) (r : Nat) :
    AlarmChange (s.removeAlarm e c r) s :=
  (((((State.askSettled_change _ _).trans (State.queueBeacon_change _)).trans (State.panelSettled_panel _ _ _).line).trans
    ((State.submit_change _ _ _).trans (State.withdraw_change _ _))).alarm).trans rfl

theorem State.clearAlarm_change (s : State) (k : AlarmKind) : AlarmChange (s.clearAlarm k) s := by
  unfold State.clearAlarm
  split
  · split
    · exact State.removeAlarm_change _ _ _ _
    · rfl
  · rfl

/-- What a settled alarm leaves in the queue. -/
theorem State.removeAlarm_queue (s : State) (e : AlarmEntry) (c : Choice) (r : Nat) :
    (s.removeAlarm e c r).alarms.queue = s.alarms.queue.filter (fun x => x.seq != e.seq) :=
  congrArg (fun x : State => x.alarms.queue)
    ((((State.askSettled_change _ _).trans (State.queueBeacon_change _)).trans (State.panelSettled_panel _ _ _).line).trans
      ((State.submit_change _ _ _).trans (State.withdraw_change _ _)))

/-- A raised alarm stands at the end of the queue, unless one of its kind is open (R164) or the part has stopped (R174). -/
theorem State.raise_queue (s : State) (k : AlarmKind) :
    (s.raise k).alarms.queue = if !s.operating || s.alarmOpen k then s.alarms.queue
      else s.alarms.queue ++ [⟨freeSeq s.alarms.queue 17 s.alarms.counter, k, s.context⟩] := by
  unfold State.raise
  split
  · rfl
  · exact congrArg (fun x : State => x.alarms.queue)
      (((State.queueBeacon_change _).trans (State.panelAlarm_panel _ _ _ _ _).line).trans (State.submit_change _ _ _))

end Sys2Proof.Machine
end

