-- ==== Sys2Proof/Laws/Event.lean ====
section
/-! SUPPORT. The frame of every command (begin, effect, the tests made due, the beacon), said once. -/

namespace Sys2Proof.Machine

/-- No test is due but, perhaps, a beacon. -/
def Agenda.calm (a : Agenda) : Bool :=
  !a.point && !a.head && !a.strip && !a.feed && !a.place && !a.full && !a.port

/-- With no test due, nothing follows an event. -/
theorem State.settle_calm {s : State} (h : s.agenda.calm = true) : s.settle = s := by
  have h2 : s.agenda.point = false ∧ s.agenda.head = false ∧ s.agenda.strip = false ∧ s.agenda.feed = false
      ∧ s.agenda.place = false ∧ s.agenda.full = false ∧ s.agenda.port = false := by
    simpa [Agenda.calm, and_assoc] using h
  obtain ⟨h1, h2, h3, h4, h5, h6, h7⟩ := h2
  have e : s.settlePlace = s := by
    unfold State.settlePlace
    simp [h5, h6]
  simp [State.settle, e, State.settlePoint, State.settleHead, State.settleStrip, State.settleFeed, State.settlePort,
    h1, h2, h3, h4, h7]

/-- A part that does not operate settles nothing. -/
theorem State.settle_off {s : State} (h : s.operating = false) : s.settle = s := by
  simp [State.settle, h]

theorem State.keepLine_line (s : State) : SameButLine s.keepLine s := by
  unfold State.keepLine SameButLine
  split <;> rfl

theorem State.keepLine_change (s : State) : LineChange s.keepLine s := by
  unfold State.keepLine
  split <;> rfl

theorem State.keepLine_agenda (s : State) : s.keepLine.agenda = s.agenda := by
  unfold State.keepLine
  split <;> rfl

theorem State.beaconAfter_change (s old : State) : LineChange (s.beaconAfter old) s := by
  unfold State.beaconAfter
  split
  · exact State.placeBeacon_change s
  · rfl

/-- The end of an event changes nothing but the line, the panel and what their frames mark. -/
theorem State.finish_change (old s : State) : LineChange (State.finish old s) s :=
  (show LineChange (State.finish old s) (s.beaconAfter old).keepLine from rfl).trans
    ((State.keepLine_change _).trans (State.beaconAfter_change s old))

theorem State.finish_agenda (old s : State) : (State.finish old s).agenda = Agenda.none := rfl

/-- An event that makes nothing due and leaves the beacon's content ends with its effect. -/
theorem State.finish_quiet {old s : State} (ha : s.agenda = Agenda.none)
    (hb : encodeBeacon s.beaconView = encodeBeacon old.beaconView) : SameButLine (State.finish old s) s := by
  have e : s.beaconAfter old = s := by
    unfold State.beaconAfter
    simp [ha, hb, Agenda.none]
  unfold State.finish
  rw [e]
  have k := State.keepLine_line s
  unfold SameButLine at *
  rw [k, ← ha]

/-- A command that changes nothing the beacon carries and makes nothing due. -/
theorem State.perform_quiet {s : State} {p : Pins} {f : State → State} (u : State) (hu : f (s.begin_ p) = u)
    (ha : u.agenda = Agenda.none) (hb : encodeBeacon u.beaconView = encodeBeacon s.beaconView) :
    SameButLine (s.perform p f) u := by
  unfold State.perform
  rw [hu, State.settle_calm (by rw [ha]; rfl)]
  exact State.finish_quiet ha hb

/-- A command that makes nothing due but, perhaps, a beacon. -/
theorem State.perform_calm {s : State} {p : Pins} {f : State → State} (u : State) (hu : f (s.begin_ p) = u)
    (ha : u.agenda.calm = true) : LineChange (s.perform p f) u := by
  unfold State.perform
  rw [hu, State.settle_calm ha]
  exact State.finish_change _ _

/-- A command to a part that does not operate. -/
theorem State.perform_off {s : State} (p : Pins) (f : State → State) (h : s.operating = false) :
    s.perform p (fun t => t.whenOperating f) = s.begin_ p := by
  have hb : (s.begin_ p).operating = false := h
  have e : (s.begin_ p).whenOperating f = s.begin_ p := by simp [State.whenOperating, hb]
  have k : State.keepLine (s.begin_ p) = s.begin_ p := by simp [State.keepLine, hb]
  have b : State.beaconAfter (s.begin_ p) s = s.begin_ p := by simp [State.beaconAfter, hb]
  unfold State.perform State.finish
  simp only [e, State.settle_off hb, b, k]
  rfl

/-- A command to a part that operates. -/
theorem State.perform_on {s : State} (p : Pins) (f : State → State) (h : s.operating = true) :
    s.perform p (fun t => t.whenOperating f) = s.perform p f := by
  have hb : (s.begin_ p).operating = true := h
  unfold State.perform
  simp [State.whenOperating, hb]

/-! ### Placing a beacon while nothing waits (R191) -/

/-- The panel's part of placing a beacon. -/
theorem SameButNews.of_panel {y x s : State} (k : PanelChange y x) (h : SameButNews x s) :
    SameButNews { y with line.waiting := [] } s := by
  unfold PanelChange at k
  unfold SameButNews at *
  rw [k, h]

/-- With nothing waiting, a beacon changes only the line, the panel and its buzzer. -/
theorem State.placeBeacon_news {s : State} (h : s.line.waiting = []) : SameButNews s.placeBeacon s := by
  unfold State.placeBeacon
  split
  · rfl
  · split
    · rfl
    · split
      · rfl
      · unfold State.fill
        simp only [h, List.nil_append]
        unfold State.drain
        split
        · unfold State.drain
          exact SameButNews.of_panel (State.panelBeacon_panel _ _ _) rfl
        · rfl

/-- On a part that operates, a key command and a record port completion are events like every other (R163, R176). -/
theorem keyEvent_operating {s : State} (p : Pins) (f : State → State) (h : s.operating = true) :
    keyEvent s p f = event s p (fun t => if t.hasPanel then f t else t) := by
  have h2 : (s.begin_ p).operating = true := h
  have h3 : s.phase ≠ .strapFault := by
    intro e
    simp [State.operating, e] at h
  simp [keyEvent, event, State.perform, State.whenOperating, h2, h3]

theorem portEvent_operating {s : State} (p : Pins) (f : State → State) (h : s.operating = true) :
    portEvent s p f = event s p f := by
  have h2 : (s.begin_ p).operating = true := h
  have h3 : s.phase ≠ .strapFault := by
    intro e
    simp [State.operating, e] at h
  simp [portEvent, event, State.perform, State.whenOperating, h2, h3]

end Sys2Proof.Machine
end

