-- ==== Sys2Proof/Laws/PerInstr.lean ====
section
/-! SUPPORT. Statements about each command as syntax, one lemma for each constructor. -/

namespace Sys2Proof.Laws.WellFormedFields

/-- The header of a well-formed frame command names a sender 1..7 and a target that is a byte (R185). -/
def Statement (i : Instr) : Prop :=
  i.wf = true → ∀ h, i.header = some h → 1 ≤ h.sender ∧ h.sender ≤ 7 ∧ h.target < 256

/-- A header that is well formed. -/
theorem of_wf {h : Hdr} (w : h.wf = true) : 1 ≤ h.sender ∧ h.sender ≤ 7 ∧ h.target < 256 := by
  simp [Hdr.wf, fits8] at w
  omega

/-- A service request's header is well formed. -/
theorem of_service {h : Hdr} (w : h.service = true) : 1 ≤ h.sender ∧ h.sender ≤ 7 ∧ h.target < 256 := by
  simp [Hdr.service, fits8] at w
  omega

/-- A command that is no frame. -/
theorem of_none {i : Instr} (n : i.header = none) : Statement i := by
  intro _ h e
  rw [n] at e
  cases e

theorem hardwareReset (straps : Straps) (p : Pins) : Statement (.hardwareReset straps p) := of_none rfl

theorem listenEnd (p : Pins) : Statement (.listenEnd p) := of_none rfl

theorem restart (h : Hdr) (p : Pins) : Statement (.restart h p) := by
  intro w k e
  cases e
  exact of_service w

theorem beacon (h : Hdr) (payload : List Byte) (p : Pins) : Statement (.beacon h payload p) := by
  intro w k e
  cases e
  simp only [Instr.wf, Bool.and_eq_true] at w
  exact of_wf w.1

theorem offer (h : Hdr) (serial : Nat) (p : Pins) : Statement (.offer h serial p) := by
  intro w k e
  cases e
  simp only [Instr.wf, Bool.and_eq_true] at w
  exact of_wf w.1

theorem take (h : Hdr) (serial : Nat) (p : Pins) : Statement (.take h serial p) := by
  intro w k e
  cases e
  simp only [Instr.wf, Bool.and_eq_true] at w
  exact of_wf w.1

theorem decline (h : Hdr) (serial reason : Nat) (p : Pins) : Statement (.decline h serial reason p) := by
  intro w k e
  cases e
  simp only [Instr.wf, Bool.and_eq_true] at w
  exact of_wf w.1.1

theorem stripRecord (h : Hdr) (payload : List Byte) (p : Pins) : Statement (.stripRecord h payload p) := by
  intro w k e
  cases e
  simp only [Instr.wf, Bool.and_eq_true] at w
  exact of_wf w.1.1

theorem alarm (h : Hdr) (seq kind serial unit wire : Nat) (p : Pins) : Statement (.alarm h seq kind serial unit wire p) := by
  intro w k e
  cases e
  simp only [Instr.wf, Bool.and_eq_true] at w
  exact of_wf w.1.1.1.1.1

theorem settled (h : Hdr) (seq kind choice responder : Nat) (p : Pins) : Statement (.settled h seq kind choice responder p) := by
  intro w k e
  cases e
  simp only [Instr.wf, Bool.and_eq_true] at w
  exact of_wf w.1.1.1.1

theorem retry (h : Hdr) (station seq : Nat) (p : Pins) : Statement (.retry h station seq p) := by
  intro w k e
  cases e
  simp only [Instr.wf, Bool.and_eq_true] at w
  exact of_wf w.1.1

theorem skipUnit (h : Hdr) (station seq : Nat) (p : Pins) : Statement (.skipUnit h station seq p) := by
  intro w k e
  cases e
  simp only [Instr.wf, Bool.and_eq_true] at w
  exact of_wf w.1.1

theorem passStrip (h : Hdr) (station seq : Nat) (p : Pins) : Statement (.passStrip h station seq p) := by
  intro w k e
  cases e
  simp only [Instr.wf, Bool.and_eq_true] at w
  exact of_wf w.1.1

theorem resume (h : Hdr) (station seq : Nat) (p : Pins) : Statement (.resume h station seq p) := by
  intro w k e
  cases e
  simp only [Instr.wf, Bool.and_eq_true] at w
  exact of_wf w.1.1

theorem continue_ (h : Hdr) (station seq : Nat) (p : Pins) : Statement (.continue_ h station seq p) := by
  intro w k e
  cases e
  simp only [Instr.wf, Bool.and_eq_true] at w
  exact of_wf w.1.1

theorem forward (h : Hdr) (station seq : Nat) (p : Pins) : Statement (.forward h station seq p) := by
  intro w k e
  cases e
  simp only [Instr.wf, Bool.and_eq_true] at w
  exact of_wf w.1.1

theorem grade (h : Hdr) (station ref mode : Nat) (p : Pins) : Statement (.grade h station ref mode p) := by
  intro w k e
  cases e
  simp only [Instr.wf, Bool.and_eq_true] at w
  exact of_wf w.1.1.1

theorem hold (h : Hdr) (station : Nat) (p : Pins) : Statement (.hold h station p) := by
  intro w k e
  cases e
  simp only [Instr.wf, Bool.and_eq_true] at w
  exact of_wf w.1

theorem release (h : Hdr) (station : Nat) (p : Pins) : Statement (.release h station p) := by
  intro w k e
  cases e
  simp only [Instr.wf, Bool.and_eq_true] at w
  exact of_wf w.1

theorem bypass (h : Hdr) (station : Nat) (p : Pins) : Statement (.bypass h station p) := by
  intro w k e
  cases e
  simp only [Instr.wf, Bool.and_eq_true] at w
  exact of_wf w.1

theorem resumeBonding (h : Hdr) (station : Nat) (p : Pins) : Statement (.resumeBonding h station p) := by
  intro w k e
  cases e
  simp only [Instr.wf, Bool.and_eq_true] at w
  exact of_wf w.1

theorem recipeSegment (h : Hdr) (payload : List Byte) (p : Pins) : Statement (.recipeSegment h payload p) := by
  intro w k e
  cases e
  simp only [Instr.wf, Bool.and_eq_true] at w
  exact of_service w.1

theorem recipeActivate (h : Hdr) (gen run : Nat) (p : Pins) : Statement (.recipeActivate h gen run p) := by
  intro w k e
  cases e
  simp only [Instr.wf, Bool.and_eq_true] at w
  exact of_service w.1.1

theorem tallySnapshot (h : Hdr) (mode : Nat) (p : Pins) : Statement (.tallySnapshot h mode p) := by
  intro w k e
  cases e
  simp only [Instr.wf, Bool.and_eq_true] at w
  exact of_service w.1

theorem tallyRead (h : Hdr) (p : Pins) : Statement (.tallyRead h p) := by
  intro w k e
  cases e
  exact of_service w

theorem pullRead (h : Hdr) (first count : Nat) (p : Pins) : Statement (.pullRead h first count p) := by
  intro w k e
  cases e
  simp only [Instr.wf, Bool.and_eq_true] at w
  exact of_service w.1.1

theorem collected (h : Hdr) (first last : Nat) (p : Pins) : Statement (.collected h first last p) := by
  intro w k e
  cases e
  simp only [Instr.wf, Bool.and_eq_true] at w
  exact of_service w.1.1

theorem skipSlots (h : Hdr) (first last : Nat) (p : Pins) : Statement (.skipSlots h first last p) := by
  intro w k e
  cases e
  simp only [Instr.wf, Bool.and_eq_true] at w
  exact of_service w.1.1

theorem magazineRead (h : Hdr) (p : Pins) : Statement (.magazineRead h p) := by
  intro w k e
  cases e
  exact of_service w

theorem errorDetail (h : Hdr) (p : Pins) : Statement (.errorDetail h p) := by
  intro w k e
  cases e
  exact of_service w

theorem discardedFrame (h : Hdr) (p : Pins) : Statement (.discardedFrame h p) := by
  intro w k e
  cases e
  exact of_wf w

theorem badFrame (p : Pins) : Statement (.badFrame p) := of_none rfl

theorem quietGapExpiry (p : Pins) : Statement (.quietGapExpiry p) := of_none rfl

theorem readbackMismatch (p : Pins) : Statement (.readbackMismatch p) := of_none rfl

theorem frameSent (p : Pins) : Statement (.frameSent p) := of_none rfl

theorem presenceTimeout (station : Nat) (p : Pins) : Statement (.presenceTimeout station p) := of_none rfl

theorem beaconTimerExpiry (p : Pins) : Statement (.beaconTimerExpiry p) := of_none rfl

theorem homingMoveDone (a : Axis) (p : Pins) : Statement (.homingMoveDone a p) := of_none rfl

theorem positioningMoveDone (a : Axis) (p : Pins) : Statement (.positioningMoveDone a p) := of_none rfl

theorem contact (position : Nat) (p : Pins) : Statement (.contact position p) := of_none rfl

theorem searchLimitReached (p : Pins) : Statement (.searchLimitReached p) := of_none rfl

theorem ballDownDone (p : Pins) : Statement (.ballDownDone p) := of_none rfl

theorem loopingMoveDone (a : Axis) (p : Pins) : Statement (.loopingMoveDone a p) := of_none rfl

theorem stitchDownDone (p : Pins) : Statement (.stitchDownDone p) := of_none rfl

theorem tailMoveDone (p : Pins) : Statement (.tailMoveDone p) := of_none rfl

theorem wireClampDone (p : Pins) : Statement (.wireClampDone p) := of_none rfl

theorem stripClampDone (p : Pins) : Statement (.stripClampDone p) := of_none rfl

theorem conditioningMoveDone (a : Axis) (p : Pins) : Statement (.conditioningMoveDone a p) := of_none rfl

theorem driveFault (a : Axis) (p : Pins) : Statement (.driveFault a p) := of_none rfl

theorem transducerSample (v i : Nat) (p : Pins) : Statement (.transducerSample v i p) := of_none rfl

theorem lock (p : Pins) : Statement (.lock p) := of_none rfl

theorem unlock (p : Pins) : Statement (.unlock p) := of_none rfl

theorem sparkOk (p : Pins) : Statement (.sparkOk p) := of_none rfl

theorem sparkOpen (p : Pins) : Statement (.sparkOpen p) := of_none rfl

theorem wirePresentFalls (p : Pins) : Statement (.wirePresentFalls p) := of_none rfl

theorem stripInRises (p : Pins) : Statement (.stripInRises p) := of_none rfl

theorem stripOutClears (p : Pins) : Statement (.stripOutClears p) := of_none rfl

theorem offerTimerExpiry (p : Pins) : Statement (.offerTimerExpiry p) := of_none rfl

theorem arrivalTimerExpiry (p : Pins) : Statement (.arrivalTimerExpiry p) := of_none rfl

theorem exitTimerExpiry (p : Pins) : Statement (.exitTimerExpiry p) := of_none rfl

theorem beltDone (p : Pins) : Statement (.beltDone p) := of_none rfl

theorem beltFault (p : Pins) : Statement (.beltFault p) := of_none rfl

theorem inputMagInserted (p : Pins) : Statement (.inputMagInserted p) := of_none rfl

theorem inputMagRemoved (p : Pins) : Statement (.inputMagRemoved p) := of_none rfl

theorem outputMagInserted (p : Pins) : Statement (.outputMagInserted p) := of_none rfl

theorem outputMagRemoved (p : Pins) : Statement (.outputMagRemoved p) := of_none rfl

theorem elevatorDone (p : Pins) : Statement (.elevatorDone p) := of_none rfl

theorem elevatorFault (p : Pins) : Statement (.elevatorFault p) := of_none rfl

theorem pusherDone (p : Pins) : Statement (.pusherDone p) := of_none rfl

theorem pusherFault (p : Pins) : Statement (.pusherFault p) := of_none rfl

theorem feedTimerExpiry (p : Pins) : Statement (.feedTimerExpiry p) := of_none rfl

theorem slotSenseRises (p : Pins) : Statement (.slotSenseRises p) := of_none rfl

theorem unloadTimerExpiry (p : Pins) : Statement (.unloadTimerExpiry p) := of_none rfl

theorem pullPositioningDone (a : Axis) (p : Pins) : Statement (.pullPositioningDone a p) := of_none rfl

theorem forceSample (f : Nat) (p : Pins) : Statement (.forceSample f p) := of_none rfl

theorem hookRiseDone (p : Pins) : Statement (.hookRiseDone p) := of_none rfl

theorem hookReturnDone (p : Pins) : Statement (.hookReturnDone p) := of_none rfl

theorem entryWriteDone (p : Pins) : Statement (.entryWriteDone p) := of_none rfl

theorem headerWriteDone (p : Pins) : Statement (.headerWriteDone p) := of_none rfl

theorem eraseDone (p : Pins) : Statement (.eraseDone p) := of_none rfl

theorem pullReadSlotDone (bytes : List Byte) (p : Pins) : Statement (.pullReadSlotDone bytes p) := of_none rfl

theorem scanReadDone (answer : StoreAnswer) (p : Pins) : Statement (.scanReadDone answer p) := of_none rfl

theorem storeAnswerTimeout (p : Pins) : Statement (.storeAnswerTimeout p) := of_none rfl

theorem keyScan (pattern : Scan) (p : Pins) : Statement (.keyScan pattern p) := of_none rfl

theorem keyRelease (p : Pins) : Statement (.keyRelease p) := of_none rfl

theorem holdKey (p : Pins) : Statement (.holdKey p) := of_none rfl

theorem menuKey (p : Pins) : Statement (.menuKey p) := of_none rfl

theorem backKey (p : Pins) : Statement (.backKey p) := of_none rfl

theorem upKey (p : Pins) : Statement (.upKey p) := of_none rfl

theorem downKey (p : Pins) : Statement (.downKey p) := of_none rfl

theorem digitKey (d : Fin 10) (p : Pins) : Statement (.digitKey d p) := of_none rfl

theorem enterKey (p : Pins) : Statement (.enterKey p) := of_none rfl

theorem sendTimerExpiry (station seq : Nat) (p : Pins) : Statement (.sendTimerExpiry station seq p) := of_none rfl

theorem deferralTimerExpiry (p : Pins) : Statement (.deferralTimerExpiry p) := of_none rfl

theorem standby (p : Pins) : Statement (.standby p) := of_none rfl

end Sys2Proof.Laws.WellFormedFields
end

