-- ==== Sys2Proof/Tests/Slice0.lean ====
section
/-! SUPPORT. The model's own tests: ill-formed operands, the spec's worked examples, and for every statement with
hypotheses a state and operands that meet them. Expected values come from the spec's text, named by each theorem. -/

namespace Sys2Proof.Tests

open Sys2Proof.Machine

/-! ### States to test on -/

/-- Every sense input quiet, wire and frame contact present. -/
def pins : Pins := ⟨true, true, false, false, false, false⟩

/-- A running station with its strap and END. -/
def running (stn : Nat) (e : Bool) : State := { State.reset with phase := .running, straps := ⟨stn, e, true, true⟩ }

/-- The service node's header, addressed to all. -/
def node : Hdr := ⟨7, 0⟩

def bondSet : BondSet := ⟨300, 500, false, 15, 900, 1400, 1900, 10, 30, 400⟩

def wireEntry : WireEntry := ⟨-350, 1200, 1900, 1200, 1, 2, 5⟩

/-- Eight columns, pitch 9000 and 14000, origin (4000, 6000), as R19 works them; 16 units of 2 wires. -/
def recipe : Recipe where
  generation := 4
  product := 7
  units := 16
  wires := 2
  columns := 8
  pitchX := 9000
  pitchY := 14000
  originX := 4000
  originY := 6000
  approach := 6000
  searchLimit := 9000
  tail := 400
  sparkCurrent := 40
  sparkTime := 600
  interval := 400
  pullInterval := 1
  pullWires := [1]
  specMin := 600
  armForce := 500
  travel := 300
  hookSpeed := 1000
  idleTime := 3
  profiles := List.replicate 4 ⟨250, 80, 120⟩
  sets := List.replicate 8 bondSet
  wireTable := [wireEntry, wireEntry]

def strip : StripRecord := ⟨9, 4, 12, List.replicate 16 ⟨.opened, 0⟩, [], true, false, false⟩

/-- Station 2 with an active recipe and a strip, unit 1 and wire 1 in progress. -/
def bonding (st : HeadState) (stage : Stage) (due : List Due) : State :=
  { running 2 false with
    recipes.active := some ⟨recipe, 12⟩
    window.state := .clamped
    window.record := some strip
    head.state := st
    head.stage := stage
    head.homed := true
    head.unit := some 1
    head.wire := 1
    head.firstWire := 1
    due := due }

/-- A part that stands in an alarm of this kind, its head HELD for it. -/
def heldFor (k : AlarmKind) : State :=
  { bonding .held .idle [] with head.heldFor := .alarm, alarms.queue := [⟨7, k, ⟨9, 1, 1⟩⟩] }

/-! ### Operands that no sender can give -/

theorem test_wf_refuses_straps : (Instr.hardwareReset ⟨8, false, false, false⟩ pins).wf = false := by decide

theorem test_wf_refuses_headers :
    (([⟨0, 1⟩, ⟨8, 1⟩, ⟨3, 256⟩] : List Hdr).all fun h =>
      ([.beacon h (List.replicate 26 0) pins, .offer h 1 pins, .take h 1 pins, .decline h 1 1 pins,
        .stripRecord h [0, 0, 0, 1] pins, .alarm h 1 1 1 1 1 pins, .settled h 1 1 1 1 pins, .retry h 1 1 pins,
        .skipUnit h 1 1 pins, .passStrip h 1 1 pins, .resume h 1 1 pins, .continue_ h 1 1 pins, .forward h 1 1 pins,
        .grade h 1 1 1 pins, .hold h 1 pins, .release h 1 pins, .bypass h 1 pins, .resumeBonding h 1 pins,
        .discardedFrame h pins] : List Instr).all fun i => !i.wf) = true := by decide

theorem test_wf_refuses_other_nodes :
    (([⟨6, 0⟩, ⟨7, 256⟩] : List Hdr).all fun h =>
      ([.restart h pins, .recipeSegment h [] pins, .recipeActivate h 1 1 pins, .tallySnapshot h 1 pins,
        .tallyRead h pins, .pullRead h 1 1 pins, .collected h 1 1 pins, .skipSlots h 1 1 pins, .magazineRead h pins,
        .errorDetail h pins] : List Instr).all fun i => !i.wf) = true := by decide

theorem test_wf_refuses_frame_fields :
    ([.beacon node [] pins, .offer node 4294967296 pins, .take node 4294967296 pins, .decline node 4294967296 1 pins,
      .decline node 1 256 pins, .stripRecord node [1, 2, 3] pins, .stripRecord node (List.replicate 65 0) pins,
      .alarm node 256 1 1 1 1 pins, .alarm node 1 256 1 1 1 pins, .alarm node 1 1 4294967296 1 1 pins,
      .alarm node 1 1 1 256 1 pins, .alarm node 1 1 1 1 256 pins, .settled node 256 1 1 1 pins,
      .settled node 1 256 1 1 pins, .settled node 1 1 256 1 pins, .settled node 1 1 1 256 pins, .retry node 256 1 pins,
      .retry node 1 256 pins, .skipUnit node 256 1 pins, .skipUnit node 1 256 pins, .passStrip node 256 1 pins,
      .passStrip node 1 256 pins, .resume node 256 1 pins, .resume node 1 256 pins, .continue_ node 256 1 pins,
      .continue_ node 1 256 pins, .forward node 256 1 pins, .forward node 1 256 pins, .grade node 256 1 1 pins,
      .grade node 1 256 1 pins, .grade node 1 1 256 pins, .hold node 256 pins, .release node 256 pins,
      .bypass node 256 pins, .resumeBonding node 256 pins] : List Instr).all (fun i => !i.wf) = true := by decide

theorem test_wf_refuses_request_fields :
    ([.recipeSegment node (List.replicate 65 0) pins, .recipeActivate node 256 1 pins,
      .recipeActivate node 1 65536 pins, .tallySnapshot node 256 pins, .pullRead node 4294967296 1 pins,
      .pullRead node 1 256 pins, .collected node 4294967296 1 pins, .collected node 1 4294967296 pins,
      .skipSlots node 256 1 pins, .skipSlots node 1 256 pins] : List Instr).all (fun i => !i.wf) = true := by decide

theorem test_wf_refuses_axes_and_positions :
    ([.presenceTimeout 0 pins, .presenceTimeout 8 pins, .homingMoveDone .e pins, .positioningMoveDone .h pins,
      .contact 20001 pins, .loopingMoveDone .p pins, .conditioningMoveDone .b pins, .driveFault .b pins,
      .transducerSample 65536 1 pins, .transducerSample 1 65536 pins, .pullPositioningDone .e pins,
      .forceSample 65536 pins, .sendTimerExpiry 256 1 pins, .sendTimerExpiry 1 256 pins] :
      List Instr).all (fun i => !i.wf) = true := by decide

theorem test_wf_refuses_wrong_levels_and_slots :
    ([.wirePresentFalls pins, .stripInRises pins, .stripOutClears { pins with stripOut := true },
      .inputMagInserted pins, .inputMagRemoved { pins with magPresent := true }, .outputMagInserted pins,
      .outputMagRemoved { pins with magPresent := true }, .slotSenseRises pins, .pullReadSlotDone [0] pins,
      .scanReadDone (.slot [0]) pins] : List Instr).all (fun i => !i.wf) = true := by decide

theorem test_wf_takes_the_widest :
    ([.hardwareReset ⟨7, true, true, true⟩ pins, .offer ⟨7, 255⟩ 4294967295 pins, .skipSlots node 255 255 pins,
      .contact 20000 pins, .presenceTimeout 7 pins, .driveFault .h pins, .transducerSample 65535 65535 pins] :
      List Instr).all (fun i => i.wf) = true := by decide

/-! ### The host's two functions: no row has bits -/

theorem test_no_word_is_a_command : decodeTableWord 16 0 = none ∧ decodeTableWord 8 255 = none := by decide

theorem test_withFetchWord_changes_nothing (s : State) : s.withFetchWord 16 7 = s := rfl

theorem test_idle : step State.reset = .next State.reset := rfl

theorem test_queue_is_first_in_first_out :
    (match step { running 2 false with pending := [.lock pins, .unlock pins] } with
      | .next t => some (t.pending, t.head.locked) | _ => none) = some ([.unlock pins], true) := by decide

/-! ### Worked examples of the spec -/

/-- What `exec` leaves, read by `f`. -/
def after {α : Type} (i : Instr) (s : State) (f : State → α) : Option α :=
  match exec i s with | .next t => some (f t) | _ => none

/-- R13: units 1, 2 DONE by station 1 and 3, 4 DONE by station 2 are sent as 45h, 14h, 92h. -/
theorem test_unit_codes :
    groupBytes { strip with units := [⟨.done, 1⟩, ⟨.done, 1⟩, ⟨.done, 2⟩, ⟨.done, 2⟩] } 0 = [0x45, 0x14, 0x92] := by
  decide

/-- R14: a code above the unit count is sent as 0. -/
theorem test_codes_above_unit_count :
    groupBytes { strip with units := [⟨.reject, 6⟩] } 0 = [0x78, 0, 0] := by decide

/-- R19: unit 11 has its origin at (22000, 20000); the pad site (−350, 1200) gives (21650, 21200). -/
theorem test_targets :
    recipe.unitOrigin 11 = (22000, 20000) ∧ recipe.padTarget 11 wireEntry = (21650, 21200) := by decide

/-- 4.10: S = 3,280,000,000 is 1640 µJ, IN the window 1400..1900; D is 38, STUCK at D_min 30 and NOT STUCK at 40. -/
theorem test_time_bond :
    bondEnergy 3280000000 = (1640, false) ∧ energyVerdict 1640 1400 1900 = .inside ∧ padDrop 1200 1020 = 38
      ∧ padCheck 30 400 240000 382500 1500 = .stuck ∧ padCheck 40 400 240000 382500 1500 = .notStuck := by decide

/-- 4.10: a TIME bond of 15 ms ends at sample 1500. -/
theorem test_time_bond_ends :
    endTest bondSet 3277760000 1499 = none ∧ endTest bondSet 3280000000 1500 = some false := by decide

/-- 4.11: the energy test is reached at sample 662 (not at 661, nor before 300); at T = 5 ms the bond ends SHORT. -/
theorem test_energy_bond_ends :
    (let b := { bondSet with energyMode := true, time := 10 }
     endTest b 857400000 299 = none ∧ endTest b 1798600000 661 = none ∧ endTest b 1801200000 662 = some false
      ∧ endTest { b with time := 5 } 1380000000 500 = some true
      ∧ bondEnergy 1801200000 = (901, false) ∧ energyVerdict 690 800 1000 = .low) := by decide

/-- 4.11: D = 34 is STUCK, D = 0 NOT STUCK; a reference below the floor is NO LOAD. -/
theorem test_energy_bond_pad :
    padDrop 1500 1300 = 34 ∧ padCheck 30 400 300000 214500 662 = .stuck ∧ padCheck 30 400 300000 225000 600 = .notStuck
      ∧ padCheck 30 400 70000 225000 600 = .noLoad := by decide

/-- 4.12: the ring whose mean is 1870 drifts from the middle 1650 at a band of 10 %. -/
theorem test_drift :
    driftExists [1820, 1840, 1850, 1860, 1880, 1890, 1900, 1920] bondSet = true
      ∧ driftExists [1820, 1840, 1850, 1860, 1880, 1890, 1900, 1700] bondSet = true
      ∧ driftExists (List.replicate 8 1815) bondSet = false
      ∧ driftExists (List.replicate 8 1816) bondSet = true := by decide

/-- 6.10: 48 units shared over four heads; thresholds of 10, 14 and 13. -/
theorem test_thresholds : ceilDiv 40 4 = 10 ∧ ceilDiv 40 3 = 14 ∧ ceilDiv 25 2 = 13 := by decide

/-- 7.3: the ranges held after each request, and the one refused. -/
theorem test_skip_ranges :
    (let m : InMag := { State.reset.inMag with slots := [.fed, .fed] ++ List.replicate 18 .unknown }
     let then_ := fun (m : Option InMag) (r : Nat × Nat) => m.bind (fun x => x.skip r)
     let m4 := [(3, 5), (6, 8), (12, 12), (15, 20), (1, 1), (18, 19)].foldl then_ (some m)
     m4.map (·.ranges) = some [(1, 1), (3, 8), (12, 12), (15, 20)]
      ∧ (then_ m4 (10, 10)).isNone = true
      ∧ (then_ (then_ m4 (2, 2)) (10, 11)).map (·.ranges) = some [(1, 8), (10, 12), (15, 20)]
      ∧ (then_ (then_ m4 (2, 2)) (10, 11)).map (fun x => (x.slot 2, x.slot 8, x.slot 9)) = some (.fed, .skip, .unknown)) := by
  decide

/-- 7.3: a last of 30 is clamped to 20; a first of 0 is refused RANGE with detail 0. -/
theorem test_skip_request :
    after (.skipSlots node 15 30 pins) (running 1 false) (fun t => t.inMag.ranges) = some [(15, 20)]
      ∧ after (.skipSlots node 0 4 pins) (running 1 false) (fun t => t.line.lastRefusal) = some (some ⟨.skipSlots, 3, 0⟩) := by
  decide

/-- R188: with L = 3 the gaps of stations 1..7; with L unknown 29 to 47. -/
theorem test_quiet_gaps :
    [1, 2, 3, 4, 5, 6, 7].map (quietGap (some 3)) = [20, 23, 26, 8, 11, 14, 17]
      ∧ quietGap none 1 = 29 ∧ quietGap none 7 = 47 := by decide

/-- A pull in progress: wire 1 of the plan 500, 600, 300, 1000 rises. -/
def pulling (ring : List Nat) (k peak : Nat) (armed : Bool) : State :=
  { bonding .pulling .idle [⟨.axis .h, .rise, true⟩] with
    pull := { State.reset.pull with
      capable := true
      sample := some ⟨1, ⟨[1], 600, 500, 300, 1000⟩, 0, 1, false, false⟩
      phase := .rising
      ring := ring
      k := k
      peak := peak
      armed := armed
      refCounter := 41 } }

/-- 8.9, wire 3: sample 301 gives F = 50, sample 902 arms at F = 505. -/
theorem test_force_filter :
    after (.forceSample 400 pins) (pulling (List.replicate 8 0) 300 0 false) (fun t => (t.pull.peak, t.pull.armed))
        = some (50, false)
      ∧ after (.forceSample 820 pins) (pulling (List.replicate 7 400 ++ [820]) 901 452 false)
        (fun t => (t.pull.peak, t.pull.armed)) = some (505, true) := by decide

/-- 8.9, wire 3: sample 1404 is no break, sample 1405 is it, at 140 µm with peak 820, PASS and reference 41. -/
theorem test_break :
    after (.forceSample 30 pins) (pulling [820, 820, 820, 820, 820, 30, 30, 30] 1403 820 true) (fun t => t.pull.list.length)
        = some 0
      ∧ after (.forceSample 30 pins) (pulling [820, 820, 820, 820, 30, 30, 30, 30] 1404 820 true)
        (fun t => t.pull.list.map (fun e => (e.record.ref, e.record.height, e.record.peak, e.record.verdict, e.closed)))
        = some [(41, 140, 820, .pass, false)] := by decide

/-- 8.9, wire 8: the break at sample 705, at 70 µm with peak 560, is LOW. -/
theorem test_low_break :
    after (.forceSample 20 pins) (pulling [560, 560, 560, 560, 20, 20, 20, 20] 704 560 true)
      (fun t => t.pull.list.map (fun e => (e.record.height, e.record.peak, e.record.verdict))) = some [(70, 560, .low)] := by
  decide

/-- 8.9, wire 11: the travel limit without a break is NO BREAK at 300 µm. -/
theorem test_no_break :
    after (.hookRiseDone pins) (pulling (List.replicate 8 10) 3000 300 false)
      (fun t => t.pull.list.map (fun e => (e.record.height, e.record.peak, e.record.verdict, e.closed)))
      = some [(300, 300, .noBreak, true)] := by decide

/-- The unit and wire of 3.10: surface 8400, table at the pad. -/
def wire310 (st : HeadState) (stage : Stage) (due : List Due) : State :=
  { bonding st stage due with head.unit := some 11, head.surface := some 8400 }

/-- 3.10: the table's target at Z DONE; only the second of the two answers goes on to the approach height. -/
theorem test_positioning :
    after (.positioningMoveDone .z pins) (wire310 .ballDown .posZ [⟨.axis .z, .positioning, true⟩]) (·.out)
        = some [.move .x 21650 .plain, .move .y 21200 .plain]
      ∧ after (.positioningMoveDone .y pins)
        (wire310 .ballDown .posTable [⟨.axis .x, .positioning, true⟩, ⟨.axis .y, .positioning, true⟩]) (·.out) = some []
      ∧ after (.positioningMoveDone .x pins) (wire310 .ballDown .posTable [⟨.axis .x, .positioning, true⟩]) (·.out)
        = some [.move .z 6000 .plain] := by decide

/-- 3.10: kink 8280, reverse 21570, loop 8150, lead (23900, 21200). -/
theorem test_loop :
    after (.wireClampDone pins) (wire310 .looping .loopClamp [⟨.wireClamp, .looping, true⟩]) (·.out)
        = some [.move .z 8280 .plain]
      ∧ after (.loopingMoveDone .z pins) (wire310 .looping .loopKink [⟨.axis .z, .looping, true⟩]) (·.out)
        = some [.move .x 21570 .plain]
      ∧ after (.loopingMoveDone .x pins) (wire310 .looping .loopReverse [⟨.axis .x, .looping, true⟩]) (·.out)
        = some [.move .z 8150 .plain]
      ∧ after (.loopingMoveDone .z pins) (wire310 .looping .loopHeight [⟨.axis .z, .looping, true⟩]) (·.out)
        = some [.move .x 23900 .plain, .move .y 21200 .plain] := by decide

/-- 3.10: with the latch set STITCH DOWN is not started: HELD, WIRE OUT, the latch cleared; RESUME starts it. -/
theorem test_wire_out_stop :
    after (.loopingMoveDone .y pins)
        { wire310 .looping .loopLead [⟨.axis .y, .looping, true⟩] with head.wireOut := true }
        (fun t => (t.head.state, t.head.next, t.head.wireOut, t.alarms.queue.map (·.kind)))
        = some (.held, .step .stitchDown, false, [.wireOut])
      ∧ after (.resume node 2 7 pins)
        { heldFor .wireOut with head.surface := some 8400, head.next := .step .stitchDown, head.unit := some 11 }
        (fun t => (t.head.state, t.out)) = some (.stitchDown, [.move .z 8400 (.force 300)]) := by decide

/-- 3.10: TAIL pays out to 8000, closes the clamp, tears to Z 0; then FIRE. -/
theorem test_tail :
    after (.tailMoveDone pins) (wire310 .tail .tailPay [⟨.axis .z, .tail, true⟩]) (·.out) = some [.wireClamp true]
      ∧ after (.wireClampDone pins) (wire310 .tail .tailClamp [⟨.wireClamp, .tail, true⟩]) (·.out)
        = some [.move .z 0 .plain]
      ∧ after (.tailMoveDone pins) (wire310 .tail .tailTear [⟨.axis .z, .tail, true⟩]) (fun t => (t.head.state, t.out))
        = some (.sparking, [.fire 40 600]) := by decide

/-- 3.10: the SPARK OK of a wire that is not the last begins the next one with MOVE(Z, 0), in BALL DOWN. -/
theorem test_next_wire :
    after (.sparkOk pins) (wire310 .sparking .fire [⟨.spark, .fire, true⟩])
      (fun t => (t.head.state, t.head.wire, t.head.wireCount, t.out)) = some (.ballDown, 2, 1, [.move .z 0 .plain]) := by
  decide

/-- 10.9: the hold set of station 4. -/
theorem test_hold_set :
    (let s := { running 4 false with line.peers := List.replicate 7 ⟨true, none⟩, alarms.hold := [2, 7] }
     after (.hold node 5 pins) s (fun t => t.alarms.hold) = some [2, 5, 7]
      ∧ after (.beacon ⟨2, 0⟩ (List.replicate 26 0) pins) s (fun t => t.alarms.hold) = some [7]
      ∧ after (.presenceTimeout 7 pins) s (fun t => t.alarms.hold) = some [2]
      ∧ after (.release node 2 pins) s (fun t => t.alarms.hold) = some [7]
      ∧ after (.hold node 4 pins) s (fun t => t.alarms.hold) = some [2, 7]) := by decide

/-- 11.9: an ALARM makes an OPEN entry with a long buzz; a SETTLED removes it. -/
theorem test_panel_list :
    (let s := { running 2 false with line.peers := List.replicate 7 ⟨true, none⟩ }
     after (.alarm ⟨4, 0⟩ 12 1 6021 14 7 pins) s (fun t => (t.panel.list.map (fun e => (e.station, e.seq, e.state)), t.out))
        = some ([(4, 12, .opened)], [.buzz true])
      ∧ after (.settled ⟨4, 0⟩ 12 1 3 1 pins) { s with panel.list := [⟨4, 12, .nonStickPad, none, .opened, true, none⟩] }
        (fun t => t.panel.list) = some []) := by decide

/-- 12.8: a mismatch keeps the frame with one abort and makes L unknown. -/
theorem test_collision :
    after (.readbackMismatch pins)
      { running 2 false with
        line.txQueue := [⟨⟨0, .hold, [2]⟩, 0⟩]
        line.sending := some ⟨⟨0, .hold, [2]⟩, true⟩
        line.last := some 4 }
      (fun t => (t.line.txQueue.map (·.aborts), t.line.last, quietGap t.line.last 2)) = some ([1], none, 32) := by decide

/-- R192: STN 0 and 7 are strap faults; R35: the head is PARKED, R190: no station is present. -/
theorem test_straps :
    after (.hardwareReset ⟨0, false, false, false⟩ pins) (running 2 false) (·.phase) = some .strapFault
      ∧ after (.hardwareReset ⟨7, false, false, false⟩ pins) (running 2 false) (·.phase) = some .strapFault
      ∧ after (.hardwareReset ⟨6, true, false, false⟩ pins) (running 2 false) (·.phase) = some .listening := by decide

/-- R151: generator 1021h, initial value FFFFh, most significant bit first; the check value of the digits 1 to 9 that is
published for this CRC (from outside the spec). -/
theorem test_frame_crc :
    crc16 [0x31, 0x32, 0x33, 0x34, 0x35, 0x36, 0x37, 0x38, 0x39] = 0x29B1 := by decide +kernel

/-! ### A state and operands for every statement with hypotheses -/

/-- Station 2 with all other stations known and an empty queue. -/
def heard (s : State) : State := { s with line.peers := List.replicate 7 ⟨true, none⟩ }

/-- Any frame. -/
def holdFrame : Frame := ⟨0, .hold, [2]⟩

/-- A state whose window stands in `st` with the strip. -/
def withStrip (stn : Nat) (e : Bool) (st : WindowState) : State :=
  { running stn e with window.state := st, window.record := some strip }

theorem witness_StepRunsFrontCommand :
    ({ running 2 false with pending := [.lock pins] } : State).pending = .lock pins :: []
      ∧ State.reset.pending = [] := by decide

theorem witness_FaultedStationActsOnNothing :
    ({ running 2 false with dup := true } : State).dup = true ∧ ({ running 2 false with dup := true } : State).phase ≠ .strapFault
      ∧ (Instr.lock pins).ofKeys = false ∧ (Instr.lock pins).ofPort = false ∧ (Instr.eraseDone pins).ofPort = true
      ∧ (Instr.keyScan .noKey pins).ofKeys = true ∧ (Instr.enterKey pins).ofKeys = true
      ∧ (Instr.enterKey pins).key.isSome = true ∧ (running 2 false).hasPanel = true
      ∧ ({ running 2 false with straps.panelFitted := false } : State).hasPanel = false
      ∧ ({ running 7 false with phase := .strapFault } : State).phase = .strapFault
      ∧ ∀ x p, Instr.lock pins ≠ .hardwareReset x p :=
  ⟨by decide, by decide, by decide, by decide, by decide, by decide, by decide, by decide, by decide, by decide, by decide,
    fun _ _ => nofun⟩

theorem witness_OwnNumberDeclaresDuplicate :
    (Instr.offer ⟨1, 3⟩ 9 pins).header = some ⟨1, 3⟩ ∧ (running 1 false).operating = true ∧ 1 = (running 1 false).stn
      ∧ (Instr.discardedFrame ⟨6, 0⟩ pins).header = some ⟨6, 0⟩ ∧ (running 6 false).operating = true
      ∧ 6 = (running 6 false).stn := by decide

theorem witness_FrameForOthersCountsForPresence :
    (Instr.offer ⟨1, 3⟩ 9 pins).header = some ⟨1, 3⟩ ∧ (∀ g b p, Instr.offer ⟨1, 3⟩ 9 pins ≠ .beacon g b p)
      ∧ (3 ≠ 0 ∧ 3 ≠ (running 2 false).stn) ∧ (running 2 false).operating = true ∧ 1 ≠ (running 2 false).stn
      ∧ 1 ≠ (running 2 false).stn + 1 ∧ (Instr.discardedFrame ⟨7, 2⟩ pins).header = some ⟨7, 2⟩
      ∧ (∃ p, Instr.discardedFrame ⟨7, 2⟩ pins = .discardedFrame ⟨7, 2⟩ p)
      ∧ (heard (running 2 false)).isPresent 3 = true :=
  ⟨by decide, fun _ _ _ => nofun, by decide, by decide, by decide, by decide, by decide, ⟨pins, rfl⟩, by decide⟩

theorem witness_FramesAreSentInTurn :
    (let s := { running 2 false with line.txQueue := [⟨holdFrame, 0⟩] }
     s.operating = true ∧ s.line.sending = none ∧ s.line.txQueue = ⟨holdFrame, 0⟩ :: []) ∧
    ((([0, 1, 2] : List Nat).all fun k =>
      let s := { running 2 false with line.txQueue := [⟨holdFrame, k⟩], line.sending := some ⟨holdFrame, true⟩ }
      decide (s.operating = true ∧ s.line.sending = some ⟨holdFrame, true⟩ ∧ s.line.txQueue = ⟨holdFrame, k⟩ :: []
        ∧ s.line.waiting = [] ∧ s.line.lineFaults < 65535 ∧ (k < 2 ∨ 2 ≤ k))) = true)
      ∧ quietGap (some 1) 7 = 23 ∧ quietGap none 7 = 47 := by decide

/-- The beacon timer runs, and `q` frames are queued. -/
def beaconing (q : List TxFrame) : State := { running 2 false with line.beaconTimer := some 50, line.txQueue := q }

theorem witness_BeaconTimerPlacesBeacon :
    ((([[⟨⟨0, .beacon, []⟩, 0⟩], List.replicate 7 ⟨holdFrame, 0⟩, List.replicate 8 ⟨holdFrame, 0⟩] :
        List (List TxFrame)).map fun q =>
      (decide ((beaconing q).operating = true ∧ (beaconing q).phase ≠ .listening
        ∧ (beaconing q).line.beaconTimer.isSome = true ∧ (beaconing q).line.waiting = []),
        (beaconing q).line.hasBeacon, decide ((beaconing q).line.txQueue.length < 8)))
      = [(true, true, true), (true, false, true), (true, false, false)]) := by decide

theorem witness_PresenceFollowsFrames :
    (let s := heard (running 2 false)
     s.hasPanel = true ∧ s.isPresent 1 = true ∧ s.isPresent 7 = true ∧ 7 ≠ s.stn ∧ 1 ≠ s.stn) ∧
    (let s := running 2 false
     s.operating = true ∧ 1 ≠ s.stn ∧ 7 ≠ s.stn ∧ (List.replicate 26 (0 : Byte)).length = 26 ∧ s.line.peers.length = 7
      ∧ (0 = 0 ∨ 0 = s.stn) ∧ (3 ≠ 0 ∧ 3 ≠ s.stn)) := by decide

theorem witness_OfferIsAnsweredByTable :
    (let s := { running 2 false with recipes.active := some ⟨recipe, 12⟩ }
     s.hears ⟨1, 0⟩ = true ∧ 1 + 1 = s.stn ∧ s.lineFree 2 = true ∧ s.running = true ∧ s.recipes.active ≠ none
      ∧ s.alarms.hold = [] ∧ s.window.state = .empty ∧ ({ s with phase := .homing } : State).running = false
      ∧ ({ s with phase := .homing } : State).lineFree 2 = true
      ∧ ({ s with window.state := .inbound, window.inboundSerial := some 9 } : State).window.inboundSerial = some 9) := by
  decide

theorem witness_OfferEndsInTakeOrDecline :
    (let s := { withStrip 2 false .offered with window.offerTimer := some 100 }
     s.hears ⟨3, 2⟩ = true ∧ 3 = s.stn + 1 ∧ s.lineFree 2 = true ∧ s.window.state = .offered
      ∧ s.window.record = some strip ∧ s.isEnd = false ∧ 9 = s.windowSerial ∧ s.operating = true
      ∧ s.window.offerTimer.isSome = true ∧ (heard s).hearsAgain ⟨3, 0⟩ = true ∧ 10 ≠ s.windowSerial
      ∧ (heard s).hearsAgain ⟨1, 0⟩ = true) := by decide

theorem witness_StripRecordIsChecked :
    (let s := { running 2 false with window.state := .inbound, window.inboundSerial := some 9 }
     s.hearsAgain ⟨1, 0⟩ = true ∧ (heard s).hearsAgain ⟨3, 0⟩ = true ∧ 1 + 1 = s.stn ∧ (encodeRecord strip).length = 53
      ∧ field (encodeRecord strip) 0 4 = 9 ∧ checkRecord (encodeRecord strip) = some strip
      ∧ checkRecord (beBytes 4 9) = none ∧ field (beBytes 4 9) 0 4 = 9) := by decide

theorem witness_PanelListIsKept :
    (let s := heard (running 2 false)
     s.hearsAgain ⟨4, 0⟩ = true ∧ s.hasPanel = true ∧ AlarmKind.ofCode 1 = some .nonStickPad
      ∧ AlarmKind.ofCode 16 = some .logFull ∧ s.panel.list.any (fun e => e.isId 4 12) = false
      ∧ s.panel.list.length < 16) ∧
    (let s := { running 2 false with
        panel.list := [⟨4, 12, .nonStickPad, none, .sent, true, some 1000⟩, ⟨5, 12, .noBall, none, .deferred, true, none⟩]
        panel.deferTimer := some 30000 }
     s.operating = true ∧ s.hasPanel = true ∧ s.panel.deferTimer.isSome = true
      ∧ s.panel.list.any (fun e => e.state == .deferred) = true
      ∧ s.panel.list.any (fun e => e.isId 4 12 && e.state == .sent && e.sendTimer.isSome) = true) := by decide

theorem witness_InvalidResponseIsIgnored :
    (Instr.retry node 2 7 pins, Choice.retry) ∈ responses node 2 7 pins ∧ (heldFor .nonStickPad).hearsAgain node = true
      ∧ 3 ≠ (heldFor .nonStickPad).stn
      ∧ (∀ e ∈ (heldFor .inputEmpty).alarms.queue, e.seq = 7 → Choice.retry ∉ e.kind.choices) := by decide

theorem witness_WireAlarmChoices :
    (let s := heldFor .nonStickPad
     s.hearsAgain node = true ∧ s.heldForAlarm = true ∧ s.alarmOf 7 = some ⟨7, .nonStickPad, ⟨9, 1, 1⟩⟩
      ∧ s.lineFree 2 = true ∧ s.head.unit = some 1 ∧ s.window.record = some strip ∧ s.isEnd = false
      ∧ strip.entry 1 = some ⟨.opened, 0⟩ ∧ s.pull.sample = none) := by decide

/-- Under BYPASS, RETRY of a wire that a drive fault stopped discards the surface height, PASS STRIP keeps it (R35, R56,
R58); both home. -/
theorem test_drive_fault_choices_under_bypass :
    (let s := { heldFor .driveFault with
        head.next := .stoppedWire, head.surface := some 8400, head.homed := false, alarms.bypass := true }
     (∃ t, exec (.retry node 2 7 pins) s = .next t ∧ t.head.surface = none ∧ t.head.state = .homing)
      ∧ ∃ t, exec (.passStrip node 2 7 pins) s = .next t ∧ t.head.surface = some 8400 ∧ t.head.state = .homing) :=
  ⟨⟨_, rfl, by decide, by decide⟩, ⟨_, rfl, by decide, by decide⟩⟩

theorem witness_ResumeGoesOn :
    (let s := heldFor .noBall
     s.hearsAgain node = true ∧ s.alarmOf 7 = some ⟨7, .noBall, ⟨9, 1, 1⟩⟩ ∧ s.heldForAlarm = true
      ∧ s.onWire recipe wireEntry 1) ∧
    (let s := { heldFor .transferJam with window.state := .outbound }
     s.alarmOf 7 = some ⟨7, .transferJam, ⟨9, 1, 1⟩⟩ ∧ s.window.state = .outbound ∧ s.isEnd = false) :=
  ⟨⟨by decide, by decide, by decide, by decide, by decide, by decide⟩, by decide⟩

theorem witness_ContinueAndForward :
    (heldFor .conditioningFault).hearsAgain node = true
      ∧ (heldFor .conditioningFault).alarmOf 7 = some ⟨7, .conditioningFault, ⟨9, 1, 1⟩⟩
      ∧ (heldFor .conditioningFault).heldForAlarm = true ∧ (heldFor .conditioningFault).head.winding = false
      ∧ (heldFor .logFull).alarmOf 7 = some ⟨7, .logFull, ⟨9, 1, 1⟩⟩ ∧ (heldFor .logFull).line.waiting = []
      ∧ (heldFor .recordLost).alarmOf 7 = some ⟨7, .recordLost, ⟨9, 1, 1⟩⟩
      ∧ (heldFor .recordLost).window.record.isSome = true := by decide

/-- A pull record with this reference. -/
def pullRec (ref : Nat) : PullRecord := ⟨ref, 12, 4, 2, 9, 1, 1, 820, 600, 140, .pass, .absent, some 1640, none⟩

theorem witness_GradeClosesEntry :
    (let s : State := { running 2 false with
        pull.capable := true, pull.list := [] ++ (⟨pullRec 41, false⟩ : PendingEntry) :: [⟨pullRec 42, false⟩] }
     s.hearsAgain node = true ∧ s.pull.capable = true ∧ (pullRec 41).ref = 41
      ∧ (∀ e ∈ [] ++ [(⟨pullRec 42, false⟩ : PendingEntry)], e.closed = false ∧ e.record.ref ≠ 41)
      ∧ s.line.waiting = [] ∧ s.pull.phase ≠ .placing
      ∧ ({ s with log := { s.log with present := true, pos := .slot 0 1, queue := [] } } : State).log.hasRoom = true
      ∧ ({ s with log.queue := List.replicate 4 (.mark 1) } : State).log.hasRoom = false
      ∧ 1 ≠ s.stn ∧ (∀ e ∈ s.pull.list, e.record.ref = 9 → e.closed = true)) := by decide

theorem witness_HoldSetFollowsFramesAndKey :
    (let s := heard (running 2 false)
     s.hears node = true ∧ 1 ≠ s.stn ∧ s.isPresent 1 = true ∧ 7 ≠ s.stn ∧ s.isPresent 7 = true ∧ 2 = s.stn) ∧
    (let s := { running 2 false with head.state := .tail }
     s.operating = true ∧ s.hasPanel = true ∧ s.panel.standby = false ∧ s.head.state ≠ .held
      ∧ s.head.state ≠ .parked ∧ s.window.state = .empty ∧ s.isFirst = false ∧ s.inMag.waiting = none
      ∧ s.lineFree 2 = true ∧ ({ s with panel.standby := true } : State).panel.standby = true) := by decide

theorem witness_BypassAndResumeBonding :
    (let s := bonding .tail .tailPay []
     s.hears node = true ∧ s.alarms.bypass = false ∧ s.head.state ≠ .held ∧ s.head.state ≠ .parked
      ∧ s.head.state ≠ .pulling ∧ (heldFor .noBall).head.heldFor = .alarm
      ∧ (let u := { running 2 false with alarms.bypass := true }
         u.alarms.bypass = true ∧ u.head.state = .parked ∧ u.head.homed = false ∧ u.running = true)) := by decide

theorem witness_WarmRestart :
    (running 2 false).serves node = true ∧ (running 2 false).running = true ∧ (running 2 false).hasPanel = true
      ∧ (running 2 false).window.state = .empty ∧ pins.stripIn = false ∧ (running 2 false).log.full = false
      ∧ (running 2 false).alarms.queue.length < 8
      ∧ (let s := heldFor .noBall
         s.serves node = true ∧ s.running = true ∧ s.alarms.queue.length ≤ 8 ∧ s.head.unit = some 1
          ∧ s.window.record = some strip ∧ strip.entry 1 = some ⟨.opened, 0⟩ ∧ s.window.state = .clamped
          ∧ ({ pins with stripOut := true } : Pins).stripOut = true ∧ s.pull.sample = none)
      ∧ (pulling [] 0 0 false).pull.sample.isSome = true
      ∧ ({ running 2 false with phase := .scanning } : State).serves node = true
      ∧ ({ running 2 false with phase := .scanning } : State).running = false := by decide

theorem witness_SegmentJoinsPendingSet :
    (running 2 false).serves node = true ∧ ([4, 0, 1, 9] : List Byte).length ≤ 64
      ∧ (running 2 false).segmentRefusal [4, 0, 1, 9] = none ∧ (running 2 false).segmentRefusal [4, 31, 9] = none
      ∧ (running 2 false).segmentRefusal [4, 32, 9] = some (3, 32)
      ∧ (let s := { running 2 false with recipes.pending := ⟨4, some 6, [(0, []), (5, [9])], .loading, none⟩ }
         s.segmentRefusal [4, 0, 4, 9] = none ∧ s.recipes.pending.generation = 4
          ∧ s.recipes.pending.count.any (fun m => 4 < m) = true) := by decide

/-- The image of generation 4 with 2 units and one wire (R23): 212 bytes. -/
def image : List Byte :=
  [4, 0, 7, 2, 1, 2] ++ beBytes 2 9000 ++ beBytes 2 14000 ++ beBytes 4 4000 ++ beBytes 4 6000 ++ beBytes 2 6000
    ++ beBytes 2 9000 ++ beBytes 2 400 ++ [40] ++ beBytes 2 600 ++ beBytes 2 400 ++ beBytes 2 1 ++ [1, 1, 0, 0, 0, 0, 0, 0, 0]
    ++ beBytes 2 600 ++ beBytes 2 500 ++ beBytes 2 300 ++ beBytes 2 1000 ++ [3]
    ++ (List.replicate 4 (beBytes 2 250 ++ beBytes 2 80 ++ beBytes 2 120)).flatten
    ++ (List.replicate 8 (beBytes 2 300 ++ beBytes 2 500 ++ [0, 15] ++ beBytes 2 900 ++ beBytes 2 1400 ++ beBytes 2 1900
      ++ [10, 30] ++ beBytes 2 400)).flatten
    ++ beBytes 2 (65536 - 350) ++ beBytes 2 1200 ++ beBytes 2 1900 ++ beBytes 2 1200 ++ [1, 2, 5]

theorem witness_ReadyRecipeIsWithinLimits : ∃ r, checkImage 4 image = .ready r ∧ r.wireTable = [wireEntry] :=
  ⟨readImage image, by decide +kernel, by decide +kernel⟩

theorem witness_ActivationIsAppliedOrDue :
    (let s := { running 2 false with recipes.pending := ⟨4, some 1, [], .ready recipe, none⟩ }
     s.serves node = true ∧ s.running = true ∧ s.recipes.pending.generation = 4
      ∧ s.recipes.pending.status = .ready recipe ∧ s.head.state = .parked ∧ s.deferred = false
      ∧ ({ s with phase := .homing } : State).running = false ∧ ({ s with phase := .homing } : State).serves node = true
      ∧ s.recipes.pending.generation ≠ 5
      ∧ ({ s with recipes.pending.status := .invalid 12 } : State).recipes.pending.status = .invalid 12
      ∧ ({ s with head.state := .tail } : State).head.state ≠ .parked) := by decide

theorem witness_LogRequestsByTable :
    (let s := { running 2 false with log.present := true, log.newest := 100 }
     s.serves node = true ∧ s.line.waiting = [] ∧ s.running = true ∧ s.log.service = none ∧ s.log.op = .none
      ∧ ({ s with log.op := .erase 3 } : State).log.op ≠ .none
      ∧ min 8 s.log.newest = 8 ∧ ¬ s.log.spanEnd + 1 < 1 ∧ ¬ min 8 s.log.newest ≤ s.log.spanEnd
      ∧ s.log.queue.length < 4) := by decide

theorem witness_SkipSlotsMergesRanges :
    (let s := { running 1 false with inMag.ranges := [(3, 5), (7, 8), (12, 12), (15, 20)] }
     s.serves node = true ∧ s.inMag.rangesOk = true ∧ s.isFirst = true ∧ s.running = true ∧ s.inMag.ranges.length = 4
      ∧ s.inMag.ranges.any (fun r => touches (6, min 255 20) r) = true
      ∧ s.inMag.ranges.all (fun r => !touches (10, min 10 20) r) = true ∧ s.lineFree 1 = true
      ∧ (running 1 false).inMag.ranges.length < 4 ∧ (running 2 false).isFirst = false
      ∧ (running 2 false).inMag.rangesOk = true ∧ (running 2 false).serves node = true) := by decide

theorem witness_TalliesAndReadoutsAreAnswered :
    (running 2 false).serves node = true ∧ (running 2 false).hearsAgain node = true ∧ (running 2 false).lineFree 2 = true
      ∧ (running 1 false).serves node = true ∧ (running 1 false).hearsAgain node = true ∧ (running 1 false).isFirst = true
      ∧ (running 1 false).lineFree 1 = true ∧ (running 3 true).isEnd = true ∧ (running 3 true).isFirst = false
      ∧ (running 3 true).lineFree 4 = true ∧ (running 2 false).isFirst = false ∧ (running 2 false).isEnd = false
      ∧ (running 2 false).serves ⟨7, 2⟩ = true := by decide

/-- A part that is still starting up, its head homing in this stage. -/
def homing (stage : Stage) (due : List Due) : State :=
  { running 1 false with phase := .homing, head.state := .homing, head.stage := stage, head.next := .park, due := due }

theorem witness_StartUpHomesInStages :
    (State.reset.operating = true ∧ State.reset.phase = .listening ∧ State.reset.line.txQueue = []
      ∧ State.reset.line.waiting = [] ∧ State.reset.head.state = .parked)
    ∧ ((homing .homingClamp [⟨.wireClamp, .homing, true⟩]).operating = true
      ∧ takeAnswer .wireClamp (fun _ => true) (homing .homingClamp [⟨.wireClamp, .homing, true⟩]).due
        = some (⟨.wireClamp, .homing, true⟩, []))
    ∧ takeAnswer (.axis .z) (fun u => u == .homing) (homing .homingZ [⟨.axis .z, .homing, true⟩]).due
        = some (⟨.axis .z, .homing, true⟩, [])
    ∧ (takeAnswer (.axis .y) (fun u => u == .homing) (homing .homingTable [⟨.axis .y, .homing, true⟩]).due
        = some (⟨.axis .y, .homing, true⟩, [])
      ∧ (homing .homingTable []).awaiting .homing = false ∧ (homing .homingTable []).phase = .homing
      ∧ (homing .homingTable []).head.next = .park) := by decide

theorem witness_StrayAnswersChangeNothing :
    (running 2 false).operating = true ∧ takeAnswer .spark (fun _ => true) (running 2 false).due = none
      ∧ takeAnswer .spark (fun _ => true) [⟨.spark, .fire, false⟩] = some (⟨.spark, .fire, false⟩, [])
      ∧ takeAnswer .stripClamp (fun _ => true) [⟨.stripClamp, .clampStrip, true⟩]
        = some (⟨.stripClamp, .clampStrip, true⟩, [])
      ∧ takeAnswer (.axis .b) (fun u => u == .belt) [⟨.axis .b, .belt, true⟩] = some (⟨.axis .b, .belt, true⟩, []) := by
  decide

theorem witness_ScanReadsHeaders :
    (let s := { running 2 false with phase := .scanning }
     s.operating = true ∧ s.phase = .scanning
      ∧ ({ s with log.scan := .header 0 } : State).log.scan = .header 0
      ∧ ({ s with log.scan := .header 62 } : State).log.scan = .header 62
      ∧ ({ s with log.scan := .upward 126, log.headers := [some (1, 1)] } : State).log.scan = .upward 126
      ∧ ({ s with log.scan := .upward 126, log.headers := [some (1, 1)] } : State).log.writeBlock = some 0
      ∧ judgeSlot (List.replicate 32 0) ≠ .erased) := by decide

theorem witness_WireIsPositioned :
    (let s := fun (st : HeadState) (g : Stage) (u : Use) => bonding st g [⟨.axis .z, u, true⟩]
     (s .searching .posZ .positioning).operating = true ∧ (s .searching .posZ .positioning).line.waiting = []
      ∧ (s .searching .posZ .positioning).onWire recipe wireEntry 1
      ∧ takeAnswer (.axis .z) (fun u => u == .positioning) (s .searching .posZ .positioning).due
        = some (⟨.axis .z, .positioning, true⟩, [])
      ∧ (s .searching .posTable .positioning).head.stage = .posTable
      ∧ ({ s .searching .posTable .positioning with due := [] } : State).awaiting .positioning = false
      ∧ (s .searching .posApproach .positioning).wireFine pins = true
      ∧ (s .ballDown .posApproach .positioning).head.state = .ballDown
      ∧ takeAnswer (.axis .z) (fun u => u == .search) (s .searching .search .search).due
        = some (⟨.axis .z, .search, true⟩, [])) := by
  refine ⟨?_, ?_, ⟨?_, ?_, ?_⟩, ?_, ?_, ?_, ?_, ?_, ?_⟩ <;> decide

theorem witness_BondOpensWithEnable :
    (let s := fun (st : HeadState) (g : Stage) (u : Use) => bonding st g [⟨.axis .z, u, true⟩]
     (s .ballDown .lower .lower).operating = true ∧ (s .ballDown .lower .lower).line.waiting = []
      ∧ (s .ballDown .lower .lower).onWire recipe wireEntry 1 ∧ (s .ballDown .lower .lower).wireFine pins = true
      ∧ (s .ballDown .lower .lower).energy.status = .closed
      ∧ takeAnswer (.axis .z) (fun u => u == .lower) (s .ballDown .lower .lower).due
        = some (⟨.axis .z, .lower, true⟩, [])
      ∧ takeAnswer (.axis .z) (fun u => u == .stitch) (s .stitchDown .stitch .stitch).due
        = some (⟨.axis .z, .stitch, true⟩, [])) := by
  refine ⟨?_, ?_, ⟨?_, ?_, ?_⟩, ?_, ?_, ?_, ?_⟩ <;> decide

/-- An open first bond with these sums. -/
def inBond (sum count : Nat) : State :=
  { bonding .firstBond .bond [] with
    head.enabled := true
    energy := { State.reset.energy with status := .openFirst, params := some ⟨2, 4, bondSet⟩, sum := sum, count := count } }

/-- The same bond in energy mode, its target reached. -/
def energyBond : BondSet := { bondSet with energyMode := true }

theorem witness_SampleGoesOnOrEndsBond :
    (inBond 0 0).operating = true ∧ (inBond 0 0).tally.counters.length = 19 ∧ (running 2 false).energy.params = none
      ∧ (inBond 0 0).energy.params = some ⟨2, 4, bondSet⟩ ∧ (inBond 0 0).head.unit.isSome = true ∧ 1 ≤ (inBond 0 0).head.wire
      ∧ ¬ bondSet.time * 100 ≤ ((inBond 0 0).energy.addSample 2000 1200).count ∧ bondSet.energyMode = false
      ∧ bondSet.time * 100 ≤ ((inBond 3277760000 1499).energy.addSample 2000 1020).count
      ∧ (inBond 3277760000 1499).energy.status ≠ .closed
      ∧ energyBond.energyMode = true ∧ 300 ≤ ((inBond 1798600000 661).energy.addSample 2000 1300).count
      ∧ 2000000 * energyBond.eTarget ≤ ((inBond 1798600000 661).energy.addSample 2000 1300).sum + 1000000 := by decide

/-- 4.10 and R71: the first bond of 4.10 at its last sample, STUCK with D 38, or, its tail as strong as its reference, not. -/
def lastSample (tailSum : Nat) : State :=
  { inBond 3277760000 1499 with
    energy.refSum := 240000, energy.tail := List.replicate 374 1020, energy.tailSum := tailSum
    energy.rings := List.replicate 8 ⟨4, [1820, 1840, 1850, 1860, 1880, 1890, 1900]⟩
    head.untrackedBond := true, head.untrackedRun := 15 }

theorem witness_BondEndIsJudged :
    (let s := lastSample 381480
     s.operating = true ∧ s.energy.params = some ⟨2, 4, bondSet⟩ ∧ s.energy.status ≠ .closed
      ∧ s.onWire recipe wireEntry 1 ∧ s.line.waiting = [] ∧ s.wireFine pins = true ∧ s.head.untrackedBond = true
      ∧ s.head.untrackedRun = 15 ∧ bondSet.time * 100 ≤ (s.energy.addSample 2000 1020).count
      ∧ padDrop ((s.energy.addSample 2000 1020).refSum / 200)
          ((s.energy.addSample 2000 1020).tailSum / ((s.energy.addSample 2000 1020).count / 4)) = 38
      ∧ padDrop ((lastSample 480000).energy.refSum / 200)
          (((lastSample 480000).energy.addSample 2000 1200).tailSum / 375) = 0
      ∧ pins.frameContact = true) := by
  refine ⟨?_, ?_, ?_, ⟨?_, ?_, ?_⟩, ?_, ?_, ?_, ?_, ?_, ?_, ?_, ?_⟩ <;> decide +kernel

/-- 4.12: the STUCK bond is counted and raises ENERGY DRIFT; the sixteenth untracked one GENERATOR UNLOCK. -/
theorem test_bond_end :
    after (.transducerSample 2000 1120 pins) (lastSample 381480) (fun t => (t.head.state, t.tally.counters.map (·.value)))
      = some (.looping, [0, 1, 1] ++ List.replicate 14 0 ++ [1, 0])
    ∧ after (.transducerSample 2000 1120 pins) (lastSample 381480) (fun t => t.alarms.queue.map (·.kind))
      = some [.generatorUnlock, .energyDrift] := by decide +kernel

theorem witness_LoopAndTailRunInOrder :
    (let s := fun (st : HeadState) (g : Stage) (d : Due) => bonding st g [d]
     (s .looping .loopClamp ⟨.wireClamp, .looping, true⟩).operating = true
      ∧ (s .looping .loopClamp ⟨.wireClamp, .looping, true⟩).line.waiting = []
      ∧ (s .looping .loopClamp ⟨.wireClamp, .looping, true⟩).onWire recipe wireEntry 1
      ∧ takeAnswer .wireClamp (fun _ => true) [⟨.wireClamp, .looping, true⟩] = some (⟨.wireClamp, .looping, true⟩, [])
      ∧ takeAnswer (.axis .x) (fun u => u == .looping) [⟨.axis .x, .looping, true⟩]
        = some (⟨.axis .x, .looping, true⟩, [])
      ∧ (s .looping .loopLead ⟨.axis .x, .looping, true⟩).head.stage = .loopLead
      ∧ ({ s .looping .loopLead ⟨.axis .x, .looping, true⟩ with due := [] } : State).awaiting .looping = false
      ∧ (s .looping .loopLead ⟨.axis .x, .looping, true⟩).wireFine pins = true
      ∧ takeAnswer (.axis .z) (fun u => u == .tail || u == .clearing) [⟨.axis .z, .tail, true⟩]
        = some (⟨.axis .z, .tail, true⟩, [])
      ∧ takeAnswer .wireClamp (fun _ => true) [⟨.wireClamp, .tail, true⟩] = some (⟨.wireClamp, .tail, true⟩, [])
      ∧ takeAnswer (.axis .z) (fun u => u == .tail || u == .clearing) [⟨.axis .z, .clearing, true⟩]
        = some (⟨.axis .z, .clearing, true⟩, [])
      ∧ (let c := { s .tail .clearTear ⟨.axis .z, .clearing, true⟩ with head.intent := .wireRestart }
         c.windsDown = false ∧ c.head.intent = .wireRestart ∧ c.alarms.hold = [] ∧ c.head.debt ≠ 8)
      ∧ takeAnswer .wireClamp (fun _ => true) [⟨.wireClamp, .clearing, true⟩] = some (⟨.wireClamp, .clearing, true⟩, [])
      ∧ (let c := { s .tail .clearTear ⟨.axis .z, .clearing, true⟩ with head.intent := .boundary, head.debt := 1 }
         c.windsDown = false ∧ c.head.intent = .boundary ∧ c.alarms.hold = [] ∧ c.head.doneUnit = none
          ∧ c.recipes.pending.due = none ∧ 1 ≤ c.head.debt)
      ∧ ({ s .tail .clearTear ⟨.axis .z, .clearing, true⟩ with alarms.bypass := true } : State).alarms.bypass = true) := by
  refine ⟨?_, ?_, ⟨?_, ?_, ?_⟩, ?_, ?_, ?_, ?_, ?_, ?_, ?_, ?_, ?_, ?_, ?_, ?_⟩ <;> decide

theorem witness_CycleFiresFourTimes :
    (let s := fun (g : Stage) (d : Due) => bonding .conditioning g [d]
     (s .condZ ⟨.axis .z, .conditioning, true⟩).operating = true
      ∧ takeAnswer (.axis .z) (fun u => u == .conditioning) [⟨.axis .z, .conditioning, true⟩]
        = some (⟨.axis .z, .conditioning, true⟩, [])
      ∧ ({ s .condTable ⟨.axis .y, .conditioning, true⟩ with due := [] } : State).awaiting .conditioning = false
      ∧ takeAnswer .wireClamp (fun _ => true) [⟨.wireClamp, .conditioning, true⟩]
        = some (⟨.wireClamp, .conditioning, true⟩, [])
      ∧ takeAnswer .spark (fun _ => true) [⟨.spark, .fire, true⟩] = some (⟨.spark, .fire, true⟩, [])
      ∧ (s .condFire ⟨.spark, .fire, true⟩).head.state = .conditioning
      ∧ (s .condFire ⟨.spark, .fire, true⟩).head.sparks < 3
      ∧ 3 ≤ ({ s .condFire ⟨.spark, .fire, true⟩ with head.sparks := 3 } : State).head.sparks
      ∧ ({ s .condFire ⟨.spark, .fire, true⟩ with head.sparks := 3 } : State).windsDown = false) := by decide

theorem witness_SparkOkCompletesWire :
    (let s := bonding .sparking .fire [⟨.spark, .fire, true⟩]
     s.operating = true ∧ s.onWire recipe wireEntry 1 ∧ s.activeSet = some recipe ∧ s.head.state ≠ .conditioning
      ∧ s.windsDown = false ∧ takeAnswer .spark (fun _ => true) s.due = some (⟨.spark, .fire, true⟩, [])
      ∧ s.head.wire < recipe.wires ∧ s.alarms.hold = [] ∧ s.head.debt ≠ 8 ∧ s.wireFine pins = true
      ∧ recipe.wires ≤ ({ s with head.wire := 2 } : State).head.wire ∧ s.window.record = some strip
      ∧ ({ s with head.wire := 2 } : State).onWire recipe wireEntry 1 ∧ strip.entry 1 = some ⟨.opened, 0⟩) := by
  refine ⟨?_, ⟨?_, ?_, ?_⟩, ?_, ?_, ?_, ?_, ?_, ?_, ?_, ?_, ?_, ?_, ⟨?_, ?_, ?_⟩, ?_⟩ <;> decide

/-- The last wire's FIRE is due, on a strip whose units these are; `d` units are done here, the debt is `debt`. -/
def atLastWire (units : List UnitEntry) (picked : Bool) (d : Nat) (debt : Int) : State :=
  { bonding .sparking .fire [⟨.spark, .fire, true⟩] with
    head.wire := 2
    head.debt := debt
    window.doneHere := d
    window.record := some { strip with units := units, selected := picked } }

theorem witness_BoundaryRunsInOrder :
    (let s := atLastWire [⟨.opened, 0⟩, ⟨.done, 1⟩, ⟨.partialDone, 0⟩] false 0 0
     s.operating = true ∧ s.onWire recipe wireEntry 1 ∧ s.activeSet = some recipe ∧ s.head.state ≠ .conditioning
      ∧ s.windsDown = false ∧ takeAnswer .spark (fun _ => true) s.due = some (⟨.spark, .fire, true⟩, [])
      ∧ recipe.wires ≤ s.head.wire ∧ s.alarms.hold = [] ∧ s.window.state = .clamped ∧ s.recipes.pending.due = none
      ∧ s.boundaryAlarm = false ∧ s.wireFine pins = true
      ∧ s.window.record.bind (·.entry 1) = some ⟨.opened, 0⟩
      ∧ s.window.record.bind (·.entry 3) = some ⟨.partialDone, 0⟩ ∧ s.window.record.map (·.selected) = some false
      ∧ ¬ s.oNow - 1 = 0 ∧ s.window.forward = false ∧ s.bDown = 0 ∧ s.offerable = false ∧ s.isEnd = false
      ∧ s.head.homingParks = false)
    ∧ (let s := { atLastWire [⟨.opened, 0⟩] true 3 (-8) with pull.capable := true }
       s.pull.capable = true ∧ s.log.full = false ∧ s.pull.list.length < 16 ∧ recipe.pullWires ≠ [] ∧ s.oNow - 1 = 0
        ∧ ({ s with log.full := true } : State).log.full = true)
    ∧ (atLastWire [⟨.opened, 0⟩] false 3 1).head.debt = 1
    ∧ ({ atLastWire [⟨.opened, 0⟩] false 3 0 with alarms.queue := [⟨7, .energyDrift, ⟨9, 1, 1⟩⟩] } : State).boundaryAlarm = true
    ∧ ({ atLastWire [⟨.opened, 0⟩] false 3 0 with
          line.peers := (List.replicate 7 ⟨false, none⟩).set 2 ⟨true, some { State.reset.beaconView with station := 2 }⟩ } :
        State).offerable = true
    ∧ (let s := { atLastWire [⟨.opened, 0⟩] false 3 0 with
          straps.endFitted := true, outMag.unloader := .ready, outMag.slots := .unknown :: List.replicate 19 .empty }
       s.isEnd = true ∧ s.windowAlarm = false ∧ s.outMag.unloader = .ready ∧ s.outMag.slots[2 - 1]? = some .empty
        ∧ ∀ k, k < 2 - 1 → s.outMag.slots[k]? ≠ some .empty) := by
  refine ⟨⟨?_, ⟨?_, ?_, ?_⟩, ?_, ?_, ?_, ?_, ?_, ?_, ?_, ?_, ?_, ?_, ?_, ?_⟩, ?_, ?_, ?_, ?_, ?_⟩ <;> decide +kernel

/-- R94 to R96: 3 units made, none left: ready and parked; one left and no station below: the next unit begins. -/
theorem test_unit_boundary :
    after (.sparkOk pins) (atLastWire [⟨.opened, 0⟩] false 3 (-8)) (fun t => (t.head.state, t.head.unit)) = some (.parked, none)
    ∧ after (.sparkOk pins) (atLastWire [⟨.opened, 0⟩, ⟨.opened, 0⟩] false 3 (-8)) (fun t => (t.head.unit, t.head.wire))
      = some (some 2, 1) := by decide +kernel

theorem witness_FaultsHoldTheHead :
    (let s := bonding .searching .search [⟨.axis .z, .search, true⟩]
     s.operating = true ∧ takeAnswer .spark (fun _ => true) [⟨.spark, .fire, true⟩] = some (⟨.spark, .fire, true⟩, [])
      ∧ takeAnswer (.axis .z) (fun u => u == .search) s.due = some (⟨.axis .z, .search, true⟩, [])
      ∧ isHeadAxis .z = true ∧ takeAnswer (.axis .z) (fun _ => true) s.due = some (⟨.axis .z, .search, true⟩, [])
      ∧ isHeadAxis .h = true ∧ takeAnswer (.axis .h) (fun _ => true) s.due = none ∧ isHeadAxis .e = false
      ∧ ¬ (s.head.state = .held ∧ s.head.heldFor = .alarm) ∧ ¬ (s.head.state = .homing ∧ s.head.homingParks = true)
      ∧ (let q := { s with head.state := .homing, head.homingParks := true, alarms.bypass := true }
         q.head.state = .homing ∧ q.head.homingParks = true ∧ q.alarms.bypass = true)
      ∧ ({ s with head.wireOut := true } : State).wireFine pins = false
      ∧ s.wireFine { pins with wirePresent := false } = false
      ∧ takeAnswer (.axis .z) (fun x => x == .lower) [⟨.axis .z, .lower, true⟩] = some (⟨.axis .z, .lower, true⟩, [])
      ∧ takeAnswer (.axis .z) (fun x => x == .stitch) [⟨.axis .z, .stitch, true⟩]
        = some (⟨.axis .z, .stitch, true⟩, [])) := by decide

theorem witness_StripSensorsMoveTheWindow :
    (let s := { running 2 false with window.state := .inbound, window.inbound := some strip }
     s.operating = true ∧ s.running = true ∧ s.alarmOpen .transferJam = false ∧ s.window.state = .inbound
      ∧ s.isFirst = false ∧ s.window.inbound = some strip ∧ (running 1 false).window.state = .empty
      ∧ (withStrip 2 false .outbound).window.state = .outbound ∧ (withStrip 2 false .outbound).isEnd = false
      ∧ ({ s with window.inbound := none } : State).window.inbound = none
      ∧ (let f := { running 1 false with
          recipes.active := some ⟨recipe, 12⟩, window.state := .inbound, inMag.feed := .pushing, inMag.feedSlot := some 20 }
         f.operating = true ∧ f.running = true ∧ f.alarmOpen .transferJam = false ∧ f.window.state = .inbound
          ∧ f.isFirst = true ∧ f.recipes.active = some ⟨recipe, 12⟩ ∧ f.inMag.feedSlot = some 20
          ∧ f.inMag.slots.length = 20 ∧ f.inMag.feed = .pushing ∧ f.awaiting .push = false
          ∧ ({ f with inMag.feed := .jammed } : State).inMag.feed = .jammed ∧ f.alarms.idsOk = true)
      ∧ (heldFor .transferJam).operating = true ∧ (heldFor .transferJam).alarmOpen .transferJam = true) := by decide

theorem witness_TransferTimersExpire :
    (let s := { running 2 false with window.state := .inbound, window.arrivalTimer := some 2000 }
     s.operating = true ∧ s.window.state = .inbound ∧ s.window.arrivalTimer.isSome = true ∧ s.window.inbound = none
      ∧ s.line.withdrawn < 65535
      ∧ ({ s with window.inbound := some strip } : State).window.inbound = some strip) ∧
    (let s := { withStrip 2 false .outbound with window.exitTimer := some 2000, due := [⟨.axis .b, .belt, true⟩] }
     s.window.state = .outbound ∧ s.line.waiting = [] ∧ s.window.exitTimer.isSome = true
      ∧ takeAnswer (.axis .b) (fun u => u == .belt) s.due = some (⟨.axis .b, .belt, true⟩, []) ∧ s.isEnd = false) := by
  decide

theorem witness_MagazinesComeAndGo :
    (running 1 false).operating = true ∧ (running 1 false).running = true ∧ (running 1 false).isFirst = true
      ∧ ({ running 1 false with inMag.feed := .searching } : State).inMag.feed = .searching
      ∧ ({ running 1 false with inMag.feed := .pushing } : State).inMag.feed = .pushing
      ∧ (running 3 true).isEnd = true ∧ (running 3 true).outMag.unloader ≠ .unloading
      ∧ ({ running 3 true with outMag.unloader := .unloading } : State).outMag.unloader = .unloading := by decide

theorem witness_ElevatorAnswers :
    (let s := { running 1 false with
        inMag.feed := .searching, inMag.feedSlot := some 20, due := [⟨.axis .e, .feedSearch, true⟩] }
     s.operating = true ∧ s.inMag.feed = .searching ∧ s.inMag.feedSlot = some 20 ∧ s.inMag.slots.length = 20
      ∧ s.inMag.slot 20 ≠ .skip ∧ s.inMag.emptyAnswered = false
      ∧ (∀ k, k ≤ 20 → 20 < k → s.inMag.slot k ≠ .unknown ∧ s.inMag.slot k ≠ .loaded)
      ∧ takeAnswer (.axis .e) (fun _ => true) s.due = some (⟨.axis .e, .feedSearch, true⟩, [])) ∧
    (let s := { running 1 false with
        inMag.feed := .searching, inMag.feedSlot := some 1, due := [⟨.axis .e, .feedSearch, true⟩]
        inMag.slots := [InSlot.skip, .fed, .loaded] ++ List.replicate 17 InSlot.empty }
     s.inMag.slot 1 = .skip ∧ s.inMag.slots.length = 20 ∧ 1 < 3 ∧ s.inMag.slot 3 = .loaded
      ∧ (∀ k, k < 3 → 1 < k → s.inMag.slot k ≠ .unknown ∧ s.inMag.slot k ≠ .loaded)) ∧
    (let s := { running 1 false with
        inMag.feed := .jammed, inMag.retrying := true, inMag.feedSlot := some 20, due := [⟨.axis .e, .feedRetry, true⟩] }
     s.operating = true ∧ s.inMag.retrying = true ∧ s.inMag.feedSlot = some 20 ∧ s.inMag.slots.length = 20
      ∧ s.window.state = .empty
      ∧ takeAnswer (.axis .e) (fun _ => true) s.due = some (⟨.axis .e, .feedRetry, true⟩, [])) ∧
    (let s := { running 3 true with
        outMag.unloader := .scanning, outMag.target := some 19, due := [⟨.axis .e, .outScan, true⟩] }
     s.outMag.unloader = .scanning ∧ s.outMag.target = some 19
      ∧ takeAnswer (.axis .e) (fun _ => true) s.due = some (⟨.axis .e, .outScan, true⟩, [])) ∧
    (let s := { running 3 true with
        outMag.unloader := .scanning, outMag.target := some 20, due := [⟨.axis .e, .outScan, true⟩] }
     s.outMag.target = some 20 ∧ s.window.state ≠ .clamped ∧ s.alarms.idsOk = true ∧ pins.slotSense = false
      ∧ OutSlot.empty ∈ s.outMag.slots.set 19 .empty) ∧
    (let s := { withStrip 3 true .outbound with
        outMag.unloader := .unloading, outMag.target := some 19, due := [⟨.axis .e, .unloadMove, true⟩] }
     s.outMag.unloader = .unloading ∧ s.alarmOpen .transferJam = false
      ∧ takeAnswer (.axis .e) (fun _ => true) s.due = some (⟨.axis .e, .unloadMove, true⟩, [])) := by
  refine ⟨⟨?_, ?_, ?_, ?_, ?_, ?_, ?_, ?_⟩, ⟨?_, ?_, ?_, ?_, ?_⟩, ?_, ?_, ?_, ?_⟩ <;> decide

theorem witness_FeedAndUnloadEnd :
    (let s := { withStrip 1 false .clamped with inMag.feed := .retracting, due := [⟨.axis .p, .retract, true⟩] }
     s.operating = true ∧ takeAnswer (.axis .p) (fun _ => true) s.due = some (⟨.axis .p, .retract, true⟩, [])
      ∧ s.inMag.feed = .retracting ∧ s.isFirst = true ∧ s.window.state ≠ .empty) ∧
    (let s := { running 1 false with
        inMag.feed := .pushing, inMag.feedTimer := some 1000, due := [⟨.axis .p, .push, true⟩] }
     takeAnswer (.axis .p) (fun _ => true) s.due = some (⟨.axis .p, .push, true⟩, []) ∧ s.inMag.feed = .pushing
      ∧ s.inMag.feedTimer.isSome = true) ∧
    (let s := { withStrip 3 true .outbound with
        outMag.unloader := .unloading, outMag.target := some 20, outMag.leftWindow := true
        outMag.unloadTimer := some 2000, due := [⟨.axis .p, .push, true⟩] }
     s.operating = true ∧ takeAnswer (.axis .p) (fun _ => true) s.due = some (⟨.axis .p, .push, true⟩, [])
      ∧ s.isEnd = true ∧ s.outMag.unloader = .unloading ∧ s.outMag.leftWindow = true
      ∧ s.alarmOpen .transferJam = false ∧ s.outMag.target = some 20 ∧ s.window.record = some strip
      ∧ s.outMag.unloadTimer.isSome = true) := by decide

/-- The sample of `pulling` on a strip whose first unit is DONE, with this answer due. -/
def sampling (stage : Stage) (d : Due) : State :=
  { pulling [] 0 0 false with
    head.stage := stage
    due := [d]
    window.record := some { strip with units := ⟨.done, 2⟩ :: List.replicate 15 ⟨.opened, 0⟩ } }

theorem witness_PlanWireIsPulled :
    (let m : Sample := ⟨1, ⟨[1], 600, 500, 300, 1000⟩, 0, 1, false, false⟩
     let s := sampling .posZ ⟨.axis .z, .pullMove, true⟩
     s.operating = true ∧ s.pull.sample = some m
      ∧ takeAnswer (.axis .z) (fun u => u == .pullMove) s.due = some (⟨.axis .z, .pullMove, true⟩, [])
      ∧ ({ s with due := [] } : State).awaiting .pullMove = false ∧ s.head.stage = .posZ ∧ s.stripSet = some recipe
      ∧ s.planEntry m = some wireEntry ∧ (sampling .posTable ⟨.axis .x, .pullMove, true⟩).head.stage = .posTable
      ∧ takeAnswer (.axis .h) (fun u => u == .rise) (sampling .idle ⟨.axis .h, .rise, true⟩).due
        = some (⟨.axis .h, .rise, true⟩, [])
      ∧ s.pull.phase = .rising ∧ s.log.hasRoom = false
      ∧ ({ s with log.present := true, log.pos := .slot 0 1 } : State).log.hasRoom = true
      ∧ (∀ x ∈ s.pull.list, x.closed = false)
      ∧ takeAnswer (.axis .h) (fun u => u == .hookReturn) (sampling .idle ⟨.axis .h, .hookReturn, true⟩).due
        = some (⟨.axis .h, .hookReturn, true⟩, [])
      ∧ m.plan.wires.length ≤ m.index + 1 ∧ 1 ≤ m.stressed
      ∧ (match s.window.record with | some r => r.entry m.unit | none => none) = some ⟨.done, 2⟩) := by decide

theorem witness_ForceSamplesFindTheBreak :
    (let s := pulling [820, 820, 820, 820, 30, 30, 30, 30] 1404 820 true
     s.operating = true ∧ (running 2 false).head.state ≠ .pulling ∧ s.head.state = .pulling ∧ s.pull.phase = .rising
      ∧ ([820, 820, 820, 820, 30, 30, 30, 30, 30].drop 1).sum / 8 < max 820 326 / 2
      ∧ (s.log.hasRoom = false ∨ ∀ x ∈ s.pull.list, x.closed = false)
      ∧ ¬ ([820, 820, 820, 820, 820, 30, 30, 30, 30].drop 1).sum / 8 < max 820 425 / 2) := by decide

theorem witness_RecordPortCompletes :
    (let s := { running 2 false with log.op := .entryWrite (.mark 5), log.pos := .slot 0 126, log.present := true }
     s.operating = true ∧ s.log.op = .entryWrite (.mark 5) ∧ s.log.pos = .slot 0 126 ∧ s.log.newest + 1 < 4294967295
      ∧ (∀ x ∈ s.pull.list, x.closed = false)
      ∧ ({ s with log.op := .headerWrite 63 } : State).log.op = .headerWrite 63
      ∧ ({ s with log.op := .erase 63, log.pos := .need 63 } : State).log.op = .erase 63
      ∧ (let r : ReadSpan := ⟨1, 9, 0, 0, 3, 5, 0, 3, []⟩
         let u := { s with
            log.op := .read 0 3, log.headers := [some (1, 1)], log.newest := 9
            log.service := some ⟨3, 3, .reading r⟩ }
         u.log.op = .read 0 3 ∧ r.block = 0 ∧ r.slot = 3
          ∧ (r.take u.log (withCrc (pullEntryBytes 3 (pullRec 41)))).next
            ≤ (r.take u.log (withCrc (pullEntryBytes 3 (pullRec 41)))).last
          ∧ r.last < r.next + 8 ∧ u.phase = .running ∧ u.log.present = true)
      ∧ (let r : ReadSpan := ⟨1, 9, 0, 0, 5, 5, 0, 5, []⟩
         let u := { s with
            log.op := .read 0 5, log.headers := [some (1, 1)], log.newest := 9
            log.service := some ⟨5, 1, .reading r⟩ }
         (r.take u.log (withCrc (pullEntryBytes 5 (pullRec 41)))).last
            < (r.take u.log (withCrc (pullEntryBytes 5 (pullRec 41)))).next
          ∧ u.lineFree (u.pullSummary r
            :: pullDataFrames 1 (r.take u.log (withCrc (pullEntryBytes 5 (pullRec 41)))).got).length = true)
      ∧ (let u := { s with
            log.pos := .slot 63 127, log.headers := some (1, 1) :: List.replicate 62 none ++ [some (2, 2)]
            log.newest := 9 }
         u.log.pos = .slot 63 127 ∧ 127 ≤ 127 ∧ u.log.ahead.contains ((63 + 1) % 64) = false
          ∧ u.log.erasable ((63 + 1) % 64) = false)) ∧ ∀ x, WritePos.slot 0 126 ≠ .need x :=
  ⟨by decide +kernel, fun _ => nofun⟩

theorem witness_KeyScansAcceptAndRelease :
    (running 2 false).operating = true ∧ (running 2 false).hasPanel = true := by decide

/-- A panel with this stack and entry buffer. -/
def showing (stack : List Screen) (b : EntryBuffer) : State :=
  { running 2 false with panel.stack := stack, panel.buffer := b }

theorem witness_ScreensTakeKeys :
    (showing [.home] .empty).operating = true ∧ (showing [.home] .empty).hasPanel = true
      ∧ (showing [.home] .empty).panel.standby = false ∧ (showing [.home] .empty).panel.overlay = false
      ∧ (showing [.home] .empty).panel.stack.length < 6 ∧ (showing [.home] .empty).panel.stack = [.home]
      ∧ 6 ≤ (showing [.home, .menu, .menu, .menu, .menu, .menu] .empty).panel.stack.length
      ∧ 2 ≤ (showing [.home, .tally] .empty).panel.stack.length ∧ (showing [.home, .tally] .empty).panel.top = .tally
      ∧ (showing [.home, .menu] .shiftEnd).panel.top = .menu ∧ (showing [.home, .menu] .shiftEnd).panel.buffer ≠ .empty
      ∧ menuScreen 1 = some .line ∧ menuScreen 5 = some .grade
      ∧ (showing [.home, .menu] (.bypassTarget (some 6))).panel.buffer = .bypassTarget (some 6)
      ∧ (showing [.home, .menu] (.resumeTarget (some 1))).panel.buffer = .resumeTarget (some 1)
      ∧ (showing [.home, .menu] .empty).panel.buffer = .empty
      ∧ 6 ≠ (showing [.home, .menu] .empty).stn ∧ (showing [.home, .menu] .empty).lineFree 1 = true := by decide

/-- An overlay that shows the second of three OPEN entries, with this entry buffer. -/
def overlaid (b : EntryBuffer) : State :=
  { running 2 false with
    panel.list := [⟨4, 12, .nonStickPad, none, .opened, true, none⟩, ⟨2, 7, .logFull, none, .opened, true, none⟩,
      ⟨5, 12, .noBall, none, .opened, true, none⟩]
    panel.shown := some (2, 7)
    panel.buffer := b
    alarms := ⟨[⟨7, .logFull, ⟨0, 0, 0⟩⟩], 8, false, []⟩ }

/-- GRADE with the own line and station 4's, the latter selected, with this entry buffer. -/
def grading (sel : Nat) (b : EntryBuffer) : State :=
  { showing [.home, .grade] b with
    panel.gradeLine := some sel
    pull.capable := true
    pull.list := [⟨pullRec 41, false⟩]
    line.peers := (List.replicate 7 ⟨false, none⟩).set 3
      ⟨true, some { State.reset.beaconView with capable := true, oldRef := 9, oldWire := 1, oldPeak := 700 }⟩ }

/-- The panel's outgoing frame waits for room. -/
def blocked (s : State) : State :=
  { s with line.txQueue := List.replicate 8 ⟨holdFrame, 0⟩, line.waiting := [.frame .panel holdFrame] }

theorem witness_OverlayAndGradeTakeKeys :
    (let s := overlaid (.choice 4 12 .retry)
     s.operating = true ∧ s.hasPanel = true ∧ s.panel.standby = false ∧ s.panel.shapeOk = true
      ∧ s.panel.list = [⟨4, 12, .nonStickPad, none, .opened, true, none⟩]
        ++ ⟨2, 7, .logFull, none, .opened, true, none⟩ :: [⟨5, 12, .noBall, none, .opened, true, none⟩]
      ∧ s.panel.shown = some (2, 7) ∧ Choice.cont.code = (5 : Fin 10).val ∧ Choice.cont ∈ AlarmKind.logFull.choices
      ∧ (∀ c ∈ AlarmKind.logFull.choices, c.code ≠ (1 : Fin 10).val) ∧ (overlaid .empty).panel.buffer = .empty
      ∧ 4 ≠ s.stn ∧ s.lineFree 1 = true ∧ (blocked s).outgoingWaits = true ∧ (overlaid (.choice 2 7 .cont)).stn = 2
      ∧ s.alarms.idsOk = true ∧ ⟨7, .logFull, ⟨0, 0, 0⟩⟩ ∈ s.alarms.queue) ∧
    (let s := grading 4 (.mode 4 9 3)
     s.operating = true ∧ s.hasPanel = true ∧ s.panel.standby = false ∧ s.panel.overlay = false ∧ s.panel.top = .grade
      ∧ s.gradeLines = [⟨2, 41, 1, 820, 1⟩] ++ ⟨4, 9, 1, 700, 0⟩ :: [] ∧ s.selectedLine = some ⟨4, 9, 1, 700, 0⟩
      ∧ (grading 2 (.mode 2 41 3)).selectedLine = some ⟨2, 41, 1, 820, 1⟩ ∧ (grading 4 .empty).panel.buffer = .empty
      ∧ 4 ≠ s.stn ∧ s.lineFree 1 = true ∧ (blocked s).outgoingWaits = true ∧ s.log.hasRoom = false
      ∧ ¬ (4 = 4 ∧ 9 = 8)) := by decide

theorem witness_LayoutsReadBackWhole :
    (let r : StripRecord := ⟨4294967295, 255, 65535,
        [⟨.done, 1⟩, ⟨.partialDone, 0⟩, ⟨.reject, 6⟩, ⟨.pulled, 2⟩], [(2, 48)], true, true, false⟩
     r.lawful = true ∧ r.serial < 4294967296 ∧ r.generation < 256 ∧ r.run < 65536)
      ∧ (4294967295 : Nat) < 4294967296 := by decide

/-- A lawful state with every place taken, and a command in front. -/
def lawfulState : State :=
  { running 1 false with
    inMag.ranges := [(1, 1), (3, 8), (12, 12), (15, 20)]
    alarms := ⟨[⟨255, .noBall, ⟨1, 1, 1⟩⟩, ⟨1, .logFull, ⟨0, 0, 0⟩⟩], 2, false, [1, 7]⟩
    line.txQueue := ⟨⟨0, .beacon, []⟩, 0⟩ :: List.replicate 7 ⟨holdFrame, 0⟩
    window.record := some { strip with units := [⟨.done, 6⟩, ⟨.opened, 0⟩] }
    pending := [.lock pins] }

theorem witness_EveryCommandKeepsItsBounds :
    (∀ x p, Instr.lock pins ≠ .hardwareReset x p) ∧ (∃ t, exec (.lock pins) (running 2 false) = .next t)
      ∧ (running 2 false).isFirst = false ∧ (running 2 false).isEnd = false ∧ (running 2 false).running = true
      ∧ Kept.snapshot ∉ (Instr.lock pins).mayChange ∧ (Instr.lock pins).header = none
      ∧ (∀ n p, Instr.lock pins ≠ .presenceTimeout n p) ∧ Kept.holdSet ∉ (Instr.lock pins).mayChange
      ∧ (∀ k : Kept, k ∉ (Instr.listenEnd pins).mayChange)
      ∧ ({ running 2 false with straps.panelFitted := false } : State).hasPanel = false :=
  ⟨fun _ _ => nofun, ⟨_, rfl⟩, by decide, by decide, by decide, by decide, by decide, fun _ _ => nofun, by decide,
    fun _ => List.not_mem_nil, by decide⟩

theorem witness_RangesPanelAndTalliesStayLawful :
    (lawfulState.inMag.rangesOk = true ∧ lawfulState.panel.shapeOk = true
      ∧ countersOk lawfulState.tally.counters = true ∧ countersOk lawfulState.tally.snapCounters = true)
      ∧ ∃ t, step lawfulState = .next t := ⟨by decide, _, rfl⟩

theorem witness_AlarmIdsAndHoldSetStayLawful :
    (lawfulState.alarms.idsOk = true ∧ lawfulState.alarms.holdOk = true ∧ lawfulState.strapOk = true)
      ∧ ∃ t, step lawfulState = .next t := ⟨by decide, _, rfl⟩

theorem witness_TransmitQueueStaysLawful : lawfulState.line.queueOk = true ∧ ∃ t, step lawfulState = .next t :=
  ⟨by decide, _, rfl⟩

theorem witness_UnitBondersStayLawful :
    (lawfulState.window.bondersOk = true ∧ lawfulState.strapOk = true) ∧ ∃ t, step lawfulState = .next t :=
  ⟨by decide, _, rfl⟩

/-- A wire in flight at debt 7, its FIRE due, an alarm of another kind open, and its SPARK OK in front. -/
def headState : State :=
  { bonding .sparking .fire [⟨.spark, .fire, true⟩] with
    head.debt := 7
    alarms := ⟨[⟨1, .logFull, ⟨0, 0, 0⟩⟩], 2, false, []⟩
    pending := [.sparkOk pins] }

theorem witness_HeadStaysLawful :
    (headState.headOk = true ∧ headState.wireInFlight = true ∧ headState.alarms.idsOk = true)
      ∧ ∃ t, step headState = .next t := ⟨by decide, _, rfl⟩

/-- A plan wire rises with 15 records listed and a SPAN MARK being written. -/
def recordState : State :=
  { pulling [] 0 0 false with
    pull.list := List.replicate 15 ⟨pullRec 41, false⟩
    log.present := true
    log.queue := [.mark 5]
    log.op := .entryWrite (.mark 5)
    log.pos := .slot 0 5
    pending := [.hookRiseDone pins] }

theorem witness_PullRecordsStaySafe :
    (recordState.recordsOk = true ∧ recordState.headOk = true ∧ recordState.alarms.idsOk = true
      ∧ recordState.running = true ∧ recordState.pending ≠ [])
      ∧ ∃ t, step recordState = .next t ∧ t.running = true := ⟨by decide, _, rfl, by decide⟩

/-- A wire in flight under line hold, its FIRE due and its SPARK OK in front. -/
def holdState : State := { headState with alarms.hold := [7] }

theorem witness_HoldStartsNothingNew :
    (holdState.alarms.hold ≠ [] ∧ holdState.headOk = true ∧ holdState.alarms.idsOk = true)
      ∧ ∃ t, step holdState = .next t ∧ t.alarms.hold ≠ [] ∧ t.head.state = .held ∧ t.head.heldFor = .lineHold :=
  ⟨by decide, _, rfl, by decide, by decide, by decide⟩

end Sys2Proof.Tests
end

/-! ## The state right after hardware reset -/

namespace Sys2Proof.Machine

/-- Settles O60: `State.reset` is a closed state, on which every invariant is decided. -/
theorem resetMeetsInvariants : Obligations.ResetMeetsInvariants := by
  unfold Obligations.ResetMeetsInvariants
  decide

end Sys2Proof.Machine

/-! ## The frame of every command: what the bounds of O52 and O56 speak of

`State.ledger` picks the parts of a state that the laws of EveryCommandKeepsItsBounds and UnitBondersStayLawful name.
An update of any other part leaves a statement about the ledger as it is, by computation. -/

namespace Sys2Proof.Machine

/-- The parts of a state that only few commands may change. -/
structure Ledger where
  straps : Straps
  phase : Phase
  dup : Bool
  pending : List Instr
  ranges : List (Nat × Nat)
  insertedIn : Nat
  insertedOut : Nat
  snapCounters : List Counter
  snapNumber : Nat
  peers : List Peer
  lastRefusal : Option LastRefusal
  lineFaults : Nat
  badRecords : Nat
  withdrawn : Nat
  hold : List Nat
  bypass : Bool
  headers : List (Option (Nat × Nat))
  present : Bool
  newest : Nat
  spanEnd : Nat
  capable : Bool
  locked : Bool
  recipes : RecipeStore
  record : Option StripRecord
  inbound : Option StripRecord

def State.ledger (s : State) : Ledger where
  straps := s.straps
  phase := s.phase
  dup := s.dup
  pending := s.pending
  ranges := s.inMag.ranges
  insertedIn := s.inMag.inserted
  insertedOut := s.outMag.inserted
  snapCounters := s.tally.snapCounters
  snapNumber := s.tally.snapNumber
  peers := s.line.peers
  lastRefusal := s.line.lastRefusal
  lineFaults := s.line.lineFaults
  badRecords := s.line.badRecords
  withdrawn := s.line.withdrawn
  hold := s.alarms.hold
  bypass := s.alarms.bypass
  headers := s.log.headers
  present := s.log.present
  newest := s.log.newest
  spanEnd := s.log.spanEnd
  capable := s.pull.capable
  locked := s.head.locked
  recipes := s.recipes
  record := s.window.record
  inbound := s.window.inbound

/-- The bonders of a record, if there is one, are lawful (R2, R3). -/
def recordOk (r : Option StripRecord) : Bool :=
  match r with
  | some r => r.bondersOk
  | none => true

theorem Window.bondersOk_iff (w : Window) :
    w.bondersOk = true ↔ recordOk w.record = true ∧ recordOk w.inbound = true := by
  unfold Window.bondersOk recordOk
  cases w.record <;> cases w.inbound <;> simp

/-- The strap is one of a part without a strap fault, and the bonders of the window's records are lawful. -/
def Ledger.sound (a : Ledger) : Prop :=
  within a.straps.stn 1 6 = true ∧ recordOk a.record = true ∧ recordOk a.inbound = true

/-- An activation is due and its set is READY: what `State.applyActivation` needs (R25, R28). -/
def PendingSet.armed (q : PendingSet) : Bool :=
  q.due.isSome && match q.status with | .ready _ => true | _ => false

/-- The laws of O52 and O56 on the ledgers before (`a`) and after (`b`) a part of the command `c`. An applied activation
leaves nothing to apply, so a command applies one at most. -/
structure KeepsOn (c : Instr) (a b : Ledger) : Prop where
  straps : b.straps = a.straps
  pending : b.pending = a.pending
  input : (a.straps.stn == 1) = false → b.ranges = a.ranges ∧ b.insertedIn = a.insertedIn
  output : (a.straps.endFitted && a.straps.stn != 1) = false → b.insertedOut = a.insertedOut
  snapshot : Kept.snapshot ∉ c.mayChange → b.snapCounters = a.snapCounters ∧ b.snapNumber = a.snapNumber
  peers : c.header = none → (∀ n p, c ≠ .presenceTimeout n p) → b.peers = a.peers ∧ b.lastRefusal = a.lastRefusal
  hold : Kept.holdSet ∉ c.mayChange → b.hold = a.hold
  bypass : Kept.bypass ∉ c.mayChange → b.bypass = a.bypass
  headers : Kept.blockHeaders ∉ c.mayChange → b.headers = a.headers
  store : Kept.recordStore ∉ c.mayChange → b.capable = a.capable ∧ b.present = a.present
  locked : Kept.lockSense ∉ c.mayChange → b.locked = a.locked
  badRecords : Kept.badRecords ∉ c.mayChange → b.badRecords = a.badRecords
  lineFaults : Kept.lineFaults ∉ c.mayChange → b.lineFaults = a.lineFaults
  withdrawn : Kept.withdrawn ∉ c.mayChange → b.withdrawn = a.withdrawn
  segments : Kept.segments ∉ c.mayChange →
    b.recipes.pending.segments = a.recipes.pending.segments ∨ b.recipes.pending.segments = []
  dup : c.header = none → b.dup = a.dup
  active : (b.recipes.active = a.recipes.active ∧ b.recipes.prior = a.recipes.prior)
    ∨ (b.recipes.pending.armed = false ∧ b.recipes.prior = a.recipes.active)
  numbers : (a.phase == .running) = true → (b.phase == .running) = true ∧ a.newest ≤ b.newest ∧ a.spanEnd ≤ b.spanEnd
  units : a.sound → b.sound

theorem KeepsOn.refl (c : Instr) (a : Ledger) : KeepsOn c a a where
  straps := rfl
  pending := rfl
  input _ := ⟨rfl, rfl⟩
  output _ := rfl
  snapshot _ := ⟨rfl, rfl⟩
  peers _ _ := ⟨rfl, rfl⟩
  hold _ := rfl
  bypass _ := rfl
  headers _ := rfl
  store _ := ⟨rfl, rfl⟩
  locked _ := rfl
  badRecords _ := rfl
  lineFaults _ := rfl
  withdrawn _ := rfl
  segments _ := .inl rfl
  dup _ := rfl
  active := .inl ⟨rfl, rfl⟩
  numbers h := ⟨h, le_rfl, le_rfl⟩
  units h := h

/-- R30's law of ENABLE, with the head in a bond: what holds where a command has requested one. -/
def State.enableOk (s : State) : Prop :=
  ∀ mW, .enable mW ∈ s.out → (s.head.state = .firstBond ∨ s.head.state = .secondBond)
    ∧ ∃ q r rec, s.energy.params = some q ∧ s.window.record = some r ∧ s.setOf r.generation = some rec
      ∧ r.generation ≠ 0 ∧ q.generation = r.generation ∧ (r.generation = s.activeGen ∨ r.generation = s.priorGen)
      ∧ rec.generation = r.generation ∧ q.params = rec.setAt q.set ∧ mW = q.params.power

/-- The command `c` has come from `o` to `s` within its bounds, and has requested no ENABLE so far. -/
def Quiet (c : Instr) (o s : State) : Prop :=
  KeepsOn c o.ledger s.ledger ∧ (o.hasPanel = false → s.panel = o.panel) ∧ ∀ mW, .enable mW ∉ s.out

/-- The command `c` has come from `o` to `s` within its bounds; an ENABLE it has requested is lawful. -/
def Bounded (c : Instr) (o s : State) : Prop :=
  KeepsOn c o.ledger s.ledger ∧ (o.hasPanel = false → s.panel = o.panel) ∧ s.enableOk

/-- The request is an ENABLE. -/
def Request.isEnable : Request → Bool
  | .enable _ => true
  | _ => false

/-- `b` is `a` with further requests, none an ENABLE. -/
def Appends (b a : List Request) : Prop := ∃ l, b = a ++ l ∧ ∀ r ∈ l, r.isEnable = false

theorem Appends.refl (a : List Request) : Appends a a := ⟨[], (List.append_nil a).symm, fun _ m => absurd m List.not_mem_nil⟩

theorem Appends.trans {c b a : List Request} (h : Appends c b) (k : Appends b a) : Appends c a := by
  obtain ⟨l, rfl, hl⟩ := h
  obtain ⟨m, rfl, hm⟩ := k
  exact ⟨m ++ l, List.append_assoc .., fun r hr => (List.mem_append.mp hr).elim (hm r) (hl r)⟩

theorem Appends.subset {b a : List Request} (h : Appends b a) : a ⊆ b := by
  obtain ⟨l, rfl, -⟩ := h
  exact List.subset_append_left a l

theorem Appends.enable {b a : List Request} (h : Appends b a) {mW : Nat} (m : .enable mW ∈ b) : .enable mW ∈ a := by
  obtain ⟨l, rfl, hl⟩ := h
  rcases List.mem_append.mp m with m | m
  · exact m
  · cases hl _ m

/-- `t` differs from `s` in nothing that the bounds or an ENABLE just requested rest on. -/
def News (t s : State) : Prop :=
  t.ledger = s.ledger ∧ (t.head.state = s.head.state ∧ t.energy.params = s.energy.params)
    ∧ (s.hasPanel = false → t.panel = s.panel) ∧ Appends t.out s.out

theorem News.refl (s : State) : News s s := ⟨rfl, ⟨rfl, rfl⟩, fun _ => rfl, .refl _⟩

theorem News.trans {u t s : State} (h : News u t) (k : News t s) : News u s := by
  obtain ⟨hl, ⟨hs, hp⟩, hq, ho⟩ := h
  obtain ⟨kl, ⟨ks, kp⟩, kq, ko⟩ := k
  refine ⟨hl.trans kl, ⟨hs.trans ks, hp.trans kp⟩, fun e => ?_, ho.trans ko⟩
  have et : t.hasPanel = s.hasPanel := congrArg (fun l : Ledger => l.straps.panelFitted) kl
  exact (hq (et.trans e)).trans (kq e)

theorem News.quiet {c : Instr} {o s t : State} (n : News t s) (h : Quiet c o s) : Quiet c o t := by
  obtain ⟨nl, -, nq, no⟩ := n
  obtain ⟨hk, hq, ho⟩ := h
  refine ⟨nl ▸ hk, fun e => ?_, fun mW m => ho mW (no.enable m)⟩
  have es : s.hasPanel = o.hasPanel := congrArg Straps.panelFitted hk.straps
  exact (nq (es.trans e)).trans (hq e)

/-- The held sets are read from the recipe store alone (R18). -/
theorem State.gens_of_recipes {s t : State} (h : t.recipes = s.recipes) :
    t.activeGen = s.activeGen ∧ t.priorGen = s.priorGen := by
  simp only [State.activeGen, State.priorGen, h, and_self]

theorem State.setOf_of_recipes {s t : State} (h : t.recipes = s.recipes) (g : Nat) : t.setOf g = s.setOf g := by
  obtain ⟨ha, hp⟩ := State.gens_of_recipes h
  simp only [State.setOf, h, ha, hp]

theorem News.enableOk {s t : State} (n : News t s) (h : s.enableOk) : t.enableOk := by
  obtain ⟨nl, ⟨ns, np⟩, -, no⟩ := n
  have hr : t.recipes = s.recipes := congrArg Ledger.recipes nl
  have hw : t.window.record = s.window.record := congrArg Ledger.record nl
  obtain ⟨ha, hp⟩ := State.gens_of_recipes hr
  intro mW m
  simpa only [ns, np, hw, ha, hp, State.setOf_of_recipes hr] using h mW (no.enable m)

theorem News.bounded {c : Instr} {o s t : State} (n : News t s) (h : Bounded c o s) : Bounded c o t := by
  obtain ⟨hk, hq, ho⟩ := h
  refine ⟨n.1 ▸ hk, fun e => ?_, n.enableOk ho⟩
  have es : s.hasPanel = o.hasPanel := congrArg Straps.panelFitted hk.straps
  exact (n.2.2.1 (es.trans e)).trans (hq e)

theorem Quiet.bounded {c : Instr} {o s : State} (h : Quiet c o s) : Bounded c o s :=
  ⟨h.1, h.2.1, fun mW m => absurd m (h.2.2 mW)⟩

/-! ### News of the panel, the line and the alarm queue -/

theorem State.issue_news (s : State) (r : Request) (h : r.isEnable = false) : News (s.issue r) s := by
  refine ⟨rfl, ⟨rfl, rfl⟩, fun _ => rfl, [r], rfl, fun q m => ?_⟩
  cases List.mem_singleton.mp m
  exact h

theorem State.request_news (s : State) (r : Request) (pt : Port) (u : Use) (h : r.isEnable = false) :
    News (s.request r pt u) s :=
  s.issue_news r h

theorem State.move_news (s : State) (a : Axis) (z : Int) (u : Use) (x : MoveArg) : News (s.move a z u x) s :=
  s.request_news _ _ _ rfl

theorem State.moveTable_news (s : State) (t : Int × Int) (u : Use) : News (s.moveTable t u) s :=
  (State.move_news _ _ _ _ _).trans (State.move_news s _ _ _ _)

theorem State.standbyTest_news (s : State) : News s.standbyTest s := by
  unfold State.standbyTest
  split
  case isTrue h =>
    refine ⟨rfl, ⟨rfl, rfl⟩, fun e => ?_, .refl _⟩
    simp [e] at h
  case isFalse => exact .refl s

/-- At a station with a panel, a change of its list is news. -/
theorem State.panelChange_news (s : State) (q : Panel) (h : s.hasPanel = true) : News (s.panelChange q) s := by
  have hq (r : Panel) : News { s with panel := r } s :=
    ⟨rfl, ⟨rfl, rfl⟩, fun e => absurd (h.symm.trans e) (by decide), .refl _⟩
  unfold State.panelChange
  split
  · exact (State.standbyTest_news _).trans (hq _)
  · exact hq _

theorem State.panelAppend_news (s : State) (e : PanelEntry) (h : s.hasPanel = true) : News (s.panelAppend e) s := by
  unfold State.panelAppend
  split
  · exact (State.issue_news _ _ rfl).trans (s.panelChange_news _ h)
  · exact .refl s

theorem State.panelAlarm_news (s : State) (n q : Nat) (k : AlarmKind) (c : Context) :
    News (s.panelAlarm n q k c) s := by
  unfold State.panelAlarm
  split
  · exact .refl s
  · next h =>
    have hp : s.hasPanel = true := by simpa using h
    split
    · exact ⟨rfl, ⟨rfl, rfl⟩, fun e => absurd (hp.symm.trans e) (by decide), .refl _⟩
    · exact s.panelAppend_news _ hp

theorem State.panelSettled_news (s : State) (n q : Nat) : News (s.panelSettled n q) s := by
  unfold State.panelSettled
  split
  · next h => exact s.panelChange_news _ h
  · exact .refl s

theorem State.panelAbsent_news (s : State) (n : Nat) : News (s.panelAbsent n) s := by
  unfold State.panelAbsent
  split
  · next h => exact s.panelChange_news _ h
  · exact .refl s

theorem State.panelCarried_news (n : Nat) (s : State) (a : Nat × Nat) (h : s.hasPanel = true) :
    News (s.panelCarried n a) s := by
  unfold State.panelCarried
  split
  · exact ⟨rfl, ⟨rfl, rfl⟩, fun e => absurd (h.symm.trans e) (by decide), .refl _⟩
  · split
    · exact s.panelAppend_news _ h
    · exact .refl s

theorem News.hasPanel {t s : State} (n : News t s) : t.hasPanel = s.hasPanel :=
  congrArg (fun l : Ledger => l.straps.panelFitted) n.1

theorem News.phase {t s : State} (n : News t s) : t.phase = s.phase := congrArg Ledger.phase n.1

theorem State.panelCarried_fold_news (n : Nat) (l : List (Nat × Nat)) (s : State) (h : s.hasPanel = true) :
    News (l.foldl (State.panelCarried n) s) s := by
  induction l generalizing s with
  | nil => exact .refl s
  | cons a l ih =>
    have k := State.panelCarried_news n s a h
    exact (ih _ (k.hasPanel.trans h)).trans k

theorem State.panelBeacon_news (s : State) (n : Nat) (l : List (Nat × Nat)) : News (s.panelBeacon n l) s := by
  unfold State.panelBeacon
  split
  · exact .refl s
  · next h =>
    have k := State.panelCarried_fold_news n l s (by simpa using h)
    exact (State.panelChange_news _ _ (k.hasPanel.trans (by simpa using h))).trans k

theorem State.stripClampReq_news (s : State) (b : Bool) : News (s.stripClampReq b) s := s.request_news _ _ _ rfl

theorem State.wireClampReq_news (s : State) (b : Bool) (u : Use) : News (s.wireClampReq b u) s :=
  s.request_news _ _ _ rfl

theorem State.onPlaced_news (s : State) (o : Owner) : News (s.onPlaced o) s := by
  unfold State.onPlaced
  split
  · split
    · exact (State.request_news _ _ _ _ rfl).trans (State.stripClampReq_news { s with window.recordQueued := true } _)
    · exact .refl s
  · exact ⟨rfl, ⟨rfl, rfl⟩, fun _ => rfl, .refl _⟩
  · exact .refl s

theorem State.placeItem_news (s : State) (w : Waiting) : News (s.placeItem w) s := by
  cases w with
  | beaconDue => exact State.panelBeacon_news _ _ _
  | frame o f => exact State.onPlaced_news _ _

theorem State.drain_news (ws : List Waiting) (s : State) : News (State.drain ws s) s := by
  induction ws generalizing s with
  | nil => exact .refl s
  | cons w ws ih =>
    unfold State.drain
    split
    · exact (ih _).trans (s.placeItem_news w)
    · exact .refl s

theorem State.fill_news (s : State) : News s.fill s := State.drain_news _ s

theorem State.submit_news (s : State) (o : Owner) (f : Frame) : News (s.submit o f) s := by
  unfold State.submit
  split
  · exact State.fill_news _
  · exact .refl s

theorem State.placeBeacon_news' (s : State) : News s.placeBeacon s := by
  unfold State.placeBeacon
  split
  · exact .refl s
  · split
    · exact .refl s
    · split
      · exact .refl s
      · exact State.fill_news _

theorem State.queueBeacon_news (s : State) : News s.queueBeacon s := s.placeBeacon_news'

theorem State.submitReplies_news (k : FrameKind) (fs : List Frame) (s : State) :
    News (State.submitReplies k s fs) s := by
  induction fs generalizing s with
  | nil => exact .refl s
  | cons f fs ih =>
    cases fs with
    | nil => exact s.submit_news _ _
    | cons g gs => exact (ih _).trans (s.submit_news _ _)

theorem State.reply_news (s : State) (k : FrameKind) (fs : List Frame) : News (s.reply k fs) s :=
  State.submitReplies_news k fs _

theorem State.askSettled_news (s : State) (k : AlarmKind) : News (s.askSettled k) s := by
  unfold State.askSettled
  split
  · exact .refl s
  · split <;> exact .refl s

theorem State.addAlarm_news (s : State) (e : AlarmEntry) : News (s.addAlarm e) s :=
  ((State.queueBeacon_news _).trans (State.panelAlarm_news _ _ _ _ _)).trans (State.submit_news _ _ _)

theorem State.raise_news (s : State) (k : AlarmKind) : News (s.raise k) s := by
  unfold State.raise
  split
  · exact .refl s
  · exact s.addAlarm_news _

theorem State.removeAlarm_news (s : State) (e : AlarmEntry) (c : Choice) (r : Nat) :
    News (s.removeAlarm e c r) s :=
  (((State.askSettled_news _ _).trans (State.queueBeacon_news _)).trans (State.panelSettled_news _ _ _)).trans
    (State.submit_news _ _ _)

theorem State.clearAlarm_news (s : State) (k : AlarmKind) : News (s.clearAlarm k) s := by
  unfold State.clearAlarm
  split
  · split
    · exact s.removeAlarm_news _ _ _
    · exact .refl s
  · exact .refl s

end Sys2Proof.Machine

namespace Sys2Proof.Machine

/-! ### News of the energy monitor, the log, the magazines and the handoff -/

theorem State.addDrift_news (s : State) (p : OpenParams) (e : Nat) : News (s.addDrift p e) s := by
  unfold State.addDrift
  dsimp only
  split
  · exact State.raise_news _ _
  · exact .refl s

theorem State.driftIf_news (s : State) (b : Bool) (r : BondReport) : News (s.driftIf b r) s := by
  unfold State.driftIf
  split
  · exact s.addDrift_news _ _
  · exact .refl s

theorem State.disableReq_news (s : State) : News s.disableReq s := by
  unfold State.disableReq
  split
  · exact State.issue_news { s with head.enabled := false } _ rfl
  · exact .refl s

theorem State.untrackedEnd_news (s : State) : News s.untrackedEnd s := by
  unfold State.untrackedEnd
  split
  · dsimp only
    split
    · exact State.raise_news _ _
    · exact .refl s
  · exact .refl s

theorem State.advanceWireCount_news (s : State) : News s.advanceWireCount s := by
  unfold State.advanceWireCount
  split
  · split
    · exact State.queueBeacon_news _
    · exact .refl s
  · exact .refl s

theorem State.creditCycle_news (s : State) : News s.creditCycle s := State.queueBeacon_news _

theorem State.feedAfterParking_news (s : State) : News s.feedAfterParking s := by
  unfold State.feedAfterParking
  split <;> exact .refl s

theorem State.stopPull_news (s : State) : News s.stopPull s := by
  unfold State.stopPull
  split <;> exact .refl s

theorem State.offerPlacesFuel_news (n : Nat) (s : State) : News (State.offerPlacesFuel n s) s := by
  induction n generalizing s with
  | zero => exact .refl s
  | succ n ih =>
    unfold State.offerPlacesFuel
    split
    · split
      · exact ih _
      · exact .refl s
    · exact .refl s

theorem State.offerPlaces_news (s : State) : News s.offerPlaces s := by
  unfold State.offerPlaces
  split
  · exact State.offerPlacesFuel_news _ s
  · exact .refl s

theorem State.closeEntry_news (s : State) (n : Nat) (m : BreakMode) : News (s.closeEntry n m) s :=
  State.offerPlaces_news _

theorem State.gradeEntry_news (s : State) (n m : Nat) : News (s.gradeEntry n m) s := by
  unfold State.gradeEntry
  split
  · exact s.closeEntry_news _ _
  · exact .refl s

theorem State.closeAll_news (s : State) : News s.closeAll s := State.offerPlaces_news _

theorem State.setFull_news (s : State) : News s.setFull s := State.raise_news { s with log.full := true } _

theorem State.needBlock_news (s : State) (b : Nat) : News (s.needBlock b) s := by
  unfold State.needBlock
  split
  · exact .refl s
  · split
    · exact .refl s
    · exact State.setFull_news _

theorem State.answerRead_news (s : State) (r : ReadSpan) : News (s.answerRead r) s := by
  unfold State.answerRead
  split
  · exact State.reply_news _ _ _
  · exact .refl s

theorem State.startErase_news (s : State) (b : Nat) : News (s.startErase b) s :=
  State.issue_news { s with log.op := .erase b } _ rfl

theorem State.aheadErase_news (s : State) :
    News (match s.log.aheadDue with | some a => s.startErase a | none => s) s := by
  split
  · exact s.startErase_news _
  · exact .refl s

theorem State.arbitrateWrites_news (s : State) : News s.arbitrateWrites s := by
  unfold State.arbitrateWrites
  split
  · exact State.issue_news { s with log.op := .headerWrite _ } _ rfl
  · split
    · exact s.aheadErase_news
    · exact State.issue_news { s with log.op := .entryWrite _ } _ rfl
  · exact s.aheadErase_news

theorem State.serveRead_news (s : State) (r : ReadSpan) (v : ReadService) : News (s.serveRead r v) s := by
  unfold State.serveRead
  dsimp only
  split
  · exact (State.arbitrateWrites_news _).trans (s.answerRead_news _)
  · exact State.issue_news { s with log.op := _, log.service := _ } _ rfl

theorem State.arbitrateRead_news (s : State) : News s.arbitrateRead s := by
  unfold State.arbitrateRead
  split
  · split
    · exact s.serveRead_news _ _
    · exact s.serveRead_news _ _
    · exact s.arbitrateWrites_news
  · exact s.arbitrateWrites_news

theorem State.arbitrate_news (s : State) : News s.arbitrate s := by
  unfold State.arbitrate
  split
  · split
    · split
      · exact s.startErase_news _
      · exact s.arbitrateRead_news
    · exact s.arbitrateRead_news
  · exact .refl s

theorem State.elevatorTo_news (s : State) (n : Nat) (u : Use) : News (s.elevatorTo n u) s := s.request_news _ _ _ rfl

theorem State.retract_news (s : State) : News s.retract s := s.move_news _ _ _ _

theorem State.inputEmpty_news (s : State) : News s.inputEmpty s := by
  unfold State.inputEmpty
  split
  · exact .refl s
  · exact s.raise_news _

theorem State.searchFrom_news (s : State) (n : Nat) : News (s.searchFrom n) s := by
  unfold State.searchFrom
  split
  · exact State.elevatorTo_news { s with inMag.feed := .searching, inMag.feedSlot := some _ } _ _
  · exact State.inputEmpty_news _

theorem State.testFeed_news (s : State) : News s.testFeed s := by
  unfold State.testFeed
  split
  · split
    · exact s.searchFrom_news 1
    · exact s.inputEmpty_news
  · exact .refl s

theorem State.jamFeed_news (s : State) : News s.jamFeed s :=
  (State.raise_news _ _).trans (State.retract_news { s with inMag := _ })

theorem State.jamRetract_news (s : State) : News s.jamRetract s := State.raise_news { s with inMag := _ } _

theorem State.afterArrival_news (s : State) (b : Bool) : News (s.afterArrival b) s := by
  unfold State.afterArrival
  split
  · split <;> exact .refl s
  · split
    · exact .refl s
    · exact State.retract_news _

theorem State.endScan_news (s : State) : News s.endScan s := by
  unfold State.endScan
  dsimp only
  split
  · exact State.clearAlarm_news _ _
  · exact .refl s

theorem State.scanSlot_news (s : State) (n : Nat) : News (s.scanSlot n) s := by
  unfold State.scanSlot
  split
  · exact s.endScan_news
  · exact State.elevatorTo_news { s with outMag.unloader := .scanning, outMag.target := some n } _ _

theorem State.scanOutput_news (s : State) : News s.scanOutput s := State.scanSlot_news _ _

theorem State.startUnload_news (s : State) : News s.startUnload s := by
  unfold State.startUnload
  split
  · exact (State.queueBeacon_news _).trans (State.elevatorTo_news { s with window := _, outMag := _ } _ _)
  · exact .refl s

theorem State.outputFull_news (s : State) : News s.outputFull s := by
  unfold State.outputFull
  split
  · exact .refl s
  · exact s.raise_news _

theorem State.outputAnswer_news (s : State) : News s.outputAnswer s := by
  unfold State.outputAnswer
  split
  · split
    · exact s.startUnload_news
    · split
      · exact .refl s
      · exact s.outputFull_news
  · exact .refl s

theorem State.makeOffer_news (s : State) : News s.makeOffer s :=
  (State.submit_news _ _ _).trans (State.queueBeacon_news { s with window := _ })

theorem State.evaluateStrip_news (s : State) : News s.evaluateStrip s := by
  unfold State.evaluateStrip
  split
  · split
    · exact s.outputAnswer_news
    · split
      · exact s.makeOffer_news
      · exact .refl s
  · exact .refl s

theorem State.endOffer_news (s : State) : News s.endOffer s := State.queueBeacon_news _

theorem State.acceptTake_news (s : State) (r : StripRecord) : News (s.acceptTake r) s :=
  (State.submit_news _ _ _).trans (State.queueBeacon_news _)

theorem State.jamWindow_news (s : State) : News s.jamWindow s := State.raise_news _ _

theorem State.testStale_news (s : State) : News s.testStale s := by
  unfold State.testStale
  split
  · split
    · exact s.raise_news _
    · exact .refl s
  · exact .refl s

theorem State.reclamp_news (s : State) : News s.reclamp s :=
  (State.queueBeacon_news _).trans (State.stripClampReq_news s true)

/-! ### News at the end of an event -/

theorem State.settleStrip_news (s : State) : News s.settleStrip s := by
  unfold State.settleStrip
  split
  · exact s.evaluateStrip_news
  · exact .refl s

theorem State.settleFeed_news (s : State) : News s.settleFeed s := by
  unfold State.settleFeed
  split
  · exact s.testFeed_news
  · exact .refl s

theorem State.settlePort_news (s : State) : News s.settlePort s := by
  unfold State.settlePort
  split
  · exact s.arbitrate_news
  · exact .refl s

theorem State.beaconAfter_news (s old : State) : News (s.beaconAfter old) s := by
  unfold State.beaconAfter
  split
  · exact s.placeBeacon_news'
  · exact .refl s

theorem State.keepLine_news (s : State) : News s.keepLine s := by
  unfold State.keepLine
  split
  case isTrue h =>
    refine ⟨rfl, ⟨rfl, rfl⟩, fun e => ?_, .refl _⟩
    simp [e] at h
  case isFalse => exact .refl s

theorem State.finish_news (old s : State) : News (State.finish old s) s :=
  (State.keepLine_news _).trans (s.beaconAfter_news old)

end Sys2Proof.Machine

namespace Sys2Proof.Machine

/-! ### Changes of the strip record keep its bonders lawful (R2, R3) -/

theorem StripRecord.setEntry_bondersOk {r : StripRecord} {e : UnitEntry} (n : Nat) (h : r.bondersOk = true)
    (he : bonderFits e = true) : (r.setEntry n e).bondersOk = true := by
  unfold StripRecord.bondersOk StripRecord.setEntry at *
  rw [List.all_eq_true] at *
  intro x hx
  rcases List.mem_or_eq_of_mem_set hx with hx | rfl
  · exact h x hx
  · exact he

theorem StripRecord.bonderFits_of_entry {r : StripRecord} {n : Nat} {e : UnitEntry} (h : r.bondersOk = true)
    (he : r.entry n = some e) : bonderFits e = true := by
  unfold StripRecord.entry at he
  split at he
  · cases he
  · exact List.all_eq_true.mp h e (List.mem_of_getElem? he)

/-- A station 1..6 is a lawful bonder of a DONE or REJECT unit. -/
theorem bonderFits_of_station {stn : Nat} {st : UnitState} (h : within stn 1 6 = true)
    (hst : st = .done ∨ st = .reject) : bonderFits ⟨st, stn⟩ = true := by
  simp only [within, Bool.and_eq_true, decide_eq_true_eq] at h
  rcases hst with rfl | rfl <;> simp [bonderFits] <;> omega

theorem StripRecord.finishUnit_bondersOk {r : StripRecord} {stn : Nat} {st : UnitState} (n : Nat)
    (h : r.bondersOk = true) (hs : within stn 1 6 = true) (hst : st = .done ∨ st = .reject) :
    (r.finishUnit n stn st).bondersOk = true := by
  unfold StripRecord.finishUnit
  split
  · split
    · exact StripRecord.setEntry_bondersOk n h (bonderFits_of_station hs hst)
    · exact h
  · exact h

theorem StripRecord.pullUnit_bondersOk {r : StripRecord} (n : Nat) (h : r.bondersOk = true) :
    (r.pullUnit n).bondersOk = true := by
  unfold StripRecord.pullUnit
  split
  case h_1 e he =>
    split
    case isTrue hd =>
      have hb : bonderFits ⟨.pulled, e.bonder⟩ = true := by
        simpa [bonderFits, hd] using StripRecord.bonderFits_of_entry h he
      exact StripRecord.setEntry_bondersOk n h hb
    case isFalse => exact h
  case h_2 => exact h

theorem StripRecord.interruptUnit_bondersOk {r : StripRecord} {stn : Nat} (n : Nat) (b : Bool) (w : Nat)
    (h : r.bondersOk = true) (hs : within stn 1 6 = true) : (r.interruptUnit n stn b w).bondersOk = true := by
  unfold StripRecord.interruptUnit
  split
  · split
    · exact h
    · split
      · split
        · exact StripRecord.setEntry_bondersOk n h rfl
        · exact StripRecord.setEntry_bondersOk n h (bonderFits_of_station hs (.inr rfl))
      · split <;> exact h
  · exact h

theorem newRecord_bondersOk (n : Nat) (h : HeldSet) : (newRecord n h).bondersOk = true := by
  simp [newRecord, StripRecord.bondersOk, bonderFits]

theorem unknownRecord_bondersOk (n : Nat) : (unknownRecord n).bondersOk = true := by
  simp [unknownRecord, StripRecord.bondersOk, bonderFits]

/-- The record check lets no record with an unlawful bonder pass (R15). -/
theorem checkRecord_bondersOk {bs : List Byte} {r : StripRecord} (h : checkRecord bs = some r) :
    r.bondersOk = true := by
  unfold checkRecord at h
  split at h
  · cases h
  · split at h
    · cases h
    · split at h
      · next hl =>
        cases h
        simp only [StripRecord.lawful, Bool.and_eq_true] at hl
        obtain ⟨⟨⟨⟨⟨⟨-, -⟩, hb⟩, -⟩, -⟩, -⟩, -⟩ := hl
        exact hb
      · cases h

section
variable {c : Instr} {o s : State}

theorem Quiet.refl (c : Instr) (o : State) (p : Pins) : Quiet c o (o.begin_ p) :=
  ⟨.refl c _, fun _ => rfl, fun _ => List.not_mem_nil⟩

theorem Quiet.straps (h : Quiet c o s) : s.straps = o.straps := h.1.straps

theorem Quiet.hasPanel (h : Quiet c o s) : s.hasPanel = o.hasPanel := congrArg Straps.panelFitted h.straps

theorem Quiet.sound (h : Quiet c o s) (k : o.ledger.sound) : s.ledger.sound := h.1.units k

theorem Quiet.askPoint (h : Quiet c o s) : Quiet c o s.askPoint := h
theorem Quiet.askHead (h : Quiet c o s) : Quiet c o s.askHead := h
theorem Quiet.askStrip (h : Quiet c o s) : Quiet c o s.askStrip := h
theorem Quiet.askFeed (h : Quiet c o s) : Quiet c o s.askFeed := h
theorem Quiet.askPort (h : Quiet c o s) : Quiet c o s.askPort := h

theorem Quiet.ignoreDue (h : Quiet c o s) (w : Due → Bool) : Quiet c o (s.ignoreDue w) := h

theorem Quiet.head (h : Quiet c o s) (x : Head) (hx : x.locked = s.head.locked) : Quiet c o { s with head := x } :=
  ⟨{ h.1 with locked := fun k => hx.trans (h.1.locked k) }, h.2⟩

/-! ### Changes of single parts of the ledger -/

theorem Quiet.records (h : Quiet c o s) (r i : Option StripRecord)
    (hr : o.ledger.sound → recordOk r = true ∧ recordOk i = true) :
    Quiet c o { s with window.record := r, window.inbound := i } :=
  ⟨{ h.1 with units := fun k => ⟨(h.sound k).1, hr k⟩ }, h.2⟩

theorem Quiet.noRecords (h : Quiet c o s) : Quiet c o { s with window.record := none, window.inbound := none } :=
  h.records _ _ fun _ => ⟨rfl, rfl⟩

theorem Quiet.noInbound (h : Quiet c o s) : Quiet c o { s with window.inbound := none } :=
  h.records _ _ fun k => ⟨(h.sound k).2.1, rfl⟩

theorem Quiet.bypass (h : Quiet c o s) (hc : Kept.bypass ∈ c.mayChange) (b : Bool) :
    Quiet c o { s with alarms.bypass := b } :=
  ⟨{ h.1 with bypass := fun k => absurd hc k }, h.2⟩

theorem Quiet.hold (h : Quiet c o s) (hc : Kept.holdSet ∈ c.mayChange) (x : List Nat) :
    Quiet c o { s with alarms.hold := x } :=
  ⟨{ h.1 with hold := fun k => absurd hc k }, h.2⟩

/-- Before start-up is finished the phase and the log's numbers may become anything. -/
theorem Quiet.numbers (h : Quiet c o s) (hs : s.phase ≠ .running) (ph : Phase) (n e : Nat) :
    Quiet c o { s with phase := ph, log.newest := n, log.spanEnd := e } := by
  have hn : (o.phase == Phase.running) ≠ true := fun k => hs (by simpa [State.ledger] using (h.1.numbers k).1)
  exact ⟨{ h.1 with numbers := fun k => absurd k hn }, h.2⟩

/-- At a station with a panel, the panel may become anything. -/
theorem Quiet.panel (h : Quiet c o s) (hp : s.hasPanel = true) (q : Panel) : Quiet c o { s with panel := q } := by
  refine ⟨h.1, fun k => ?_, h.2.2⟩
  rw [h.hasPanel, k] at hp
  cases hp

/-! ### The strip record and the window (chapters 1 and 6) -/

theorem State.onRecord_quiet {f : StripRecord → StripRecord} (h : Quiet c o s)
    (hf : ∀ r, within s.stn 1 6 = true → r.bondersOk = true → (f r).bondersOk = true) : Quiet c o (s.onRecord f) := by
  refine h.records (s.window.record.map f) s.window.inbound fun k => ?_
  obtain ⟨hs, hr, hi⟩ := h.sound k
  refine ⟨?_, hi⟩
  change recordOk s.window.record = true at hr
  revert hr
  cases s.window.record with
  | none => exact id
  | some r => exact hf r hs

theorem State.giveUpRecord_quiet (h : Quiet c o s) : Quiet c o s.giveUpRecord :=
  (State.queueBeacon_news _).quiet h.noRecords

theorem State.emptyWindow_quiet (h : Quiet c o s) : Quiet c o s.emptyWindow :=
  (State.queueBeacon_news _).quiet h.noInbound

theorem State.clampStrip_quiet {r : StripRecord} {b : Bool} (h : Quiet c o s)
    (hr : o.ledger.sound → r.bondersOk = true) : Quiet c o (s.clampStrip r b) := by
  unfold State.clampStrip
  extract_lets w v s1 s2
  have h1 : Quiet c o s1 :=
    ((State.stripClampReq_news s.dropStripData true).quiet h).records (some r) none fun k => ⟨hr k, rfl⟩
  have h2 : Quiet c o s2 := (State.queueBeacon_news _).quiet h1
  refine (State.testStale_news _).quiet ?_
  split
  · exact (State.raise_news _ _).quiet h2
  · exact h2

theorem State.clampUnknown_quiet (h : Quiet c o s) : Quiet c o s.clampUnknown :=
  State.clampStrip_quiet h fun _ => unknownRecord_bondersOk _

theorem State.clampInbound_quiet (h : Quiet c o s) : Quiet c o s.clampInbound := by
  unfold State.clampInbound
  split
  · next hr => exact State.clampStrip_quiet h fun k => by simpa [State.ledger, hr, recordOk] using (h.sound k).2.2
  · exact State.clampUnknown_quiet h

theorem State.countIf_quiet {b : Bool} {t : Tally} (h : Quiet c o s) : Quiet c o (s.countIf b t) := by
  unfold State.countIf
  split <;> exact h

theorem State.interrupt_quiet (h : Quiet c o s) : Quiet c o s.interrupt := by
  unfold State.interrupt
  split
  · exact State.countIf_quiet (State.onRecord_quiet h fun r hs hr => StripRecord.interruptUnit_bondersOk _ _ _ hr hs)
  · exact h

theorem State.rejectUnit_quiet (h : Quiet c o s) : Quiet c o s.rejectUnit := by
  unfold State.rejectUnit
  split
  · exact State.onRecord_quiet h fun r hs hr => StripRecord.finishUnit_bondersOk _ hr hs (.inr rfl)
  · exact h

theorem State.completeUnit_quiet (h : Quiet c o s) : Quiet c o s.completeUnit := by
  unfold State.completeUnit
  split
  · exact State.onRecord_quiet h fun r hs hr => StripRecord.finishUnit_bondersOk _ hr hs (.inl rfl)
  · exact h

theorem State.selectUnit_quiet (h : Quiet c o s) : Quiet c o s.selectUnit := by
  unfold State.selectUnit
  split
  · split <;> exact h
  · exact h

/-- An activation is applied once in a command: it leaves nothing due (R28). -/
theorem State.applyActivation_quiet (h : Quiet c o s) : Quiet c o s.applyActivation := by
  unfold State.applyActivation
  split
  case h_1 run r hd hr =>
    have k : Quiet c o { s with
        recipes.prior := s.recipes.active
        recipes.active := some ⟨r, run⟩
        recipes.pending := ⟨0, none, [], .loading, none⟩
        energy.rings := emptyRings } := by
      refine ⟨{ h.1 with segments := fun _ => .inr rfl, active := .inr ⟨rfl, ?_⟩ }, h.2⟩
      rcases h.1.active with ⟨ha, -⟩ | ⟨ha, -⟩
      · exact ha
      · simp [State.ledger, PendingSet.armed, hd, hr] at ha
    exact ((State.queueBeacon_news _).quiet ((State.standbyTest_news _).quiet k)).askHead.askFeed
  case h_2 => exact h

theorem State.applyDue_quiet (h : Quiet c o s) : Quiet c o s.applyDue := by
  unfold State.applyDue
  split
  · exact h
  · exact State.applyActivation_quiet h

theorem State.abortBond_quiet (h : Quiet c o s) : Quiet c o s.abortBond := by
  unfold State.abortBond
  split <;> exact h

/-! ### The magazines (chapter 7) -/

theorem State.startPush_quiet (h : Quiet c o s) : Quiet c o s.startPush :=
  (State.queueBeacon_news _).quiet ((State.request_news s _ _ _ rfl).quiet h).noInbound

theorem State.giveUpFeed_quiet (h : Quiet c o s) : Quiet c o s.giveUpFeed := by
  unfold State.giveUpFeed
  split
  · exact State.emptyWindow_quiet h
  · exact h

theorem InMag.feedDone_same (m : InMag) : m.feedDone.ranges = m.ranges ∧ m.feedDone.inserted = m.inserted := by
  unfold InMag.feedDone
  split <;> exact ⟨rfl, rfl⟩

/-- A change of the input magazine that keeps its ranges and its insertion count. -/
theorem Quiet.inMag {m : InMag} (h : Quiet c o s) (hm : m.ranges = s.inMag.ranges ∧ m.inserted = s.inMag.inserted) :
    Quiet c o { s with inMag := m } := by
  refine ⟨{ h.1 with input := fun k => ?_ }, h.2⟩
  obtain ⟨hr, hi⟩ := h.1.input k
  exact ⟨hm.1.trans hr, hm.2.trans hi⟩

theorem State.feedArrival_quiet {b : Bool} (h : Quiet c o s) : Quiet c o (s.feedArrival b) := by
  have k : Quiet c o (s.onInMag InMag.feedDone) := h.inMag s.inMag.feedDone_same
  unfold State.feedArrival
  dsimp only
  split
  · exact (State.afterArrival_news _ _).quiet (State.clampStrip_quiet k fun _ => newRecord_bondersOk _ _)
  · exact (State.afterArrival_news _ _).quiet (State.clampUnknown_quiet k)

theorem State.lateArrival_quiet (h : Quiet c o s) : Quiet c o s.lateArrival :=
  (State.clearAlarm_news _ _).quiet (State.feedArrival_quiet h)

theorem State.feedRetry_quiet (h : Quiet c o s) : Quiet c o s.feedRetry := by
  unfold State.feedRetry
  split
  · exact h
  · split
    · split
      · exact (State.elevatorTo_news _ _ _).quiet h
      · exact State.giveUpFeed_quiet h
    · exact State.giveUpFeed_quiet h

theorem State.feedContinue_quiet (h : Quiet c o s) : Quiet c o s.feedContinue := by
  unfold State.feedContinue
  split
  · split <;> exact State.giveUpFeed_quiet h
  · exact State.giveUpFeed_quiet h

theorem State.carryFeedChoice_quiet {x : Choice} (h : Quiet c o s) : Quiet c o (s.carryFeedChoice x) := by
  unfold State.carryFeedChoice
  split
  · exact State.feedRetry_quiet h
  · exact State.feedContinue_quiet h

theorem State.feedChoice_quiet {x : Choice} (h : Quiet c o s) : Quiet c o (s.feedChoice x) := by
  unfold State.feedChoice
  split
  · split
    · exact (State.retract_news _).quiet h
    · exact h
  · split
    · exact h
    · exact State.carryFeedChoice_quiet h

theorem State.releaseFeed_quiet (h : Quiet c o s) : Quiet c o s.releaseFeed := by
  unfold State.releaseFeed
  split
  · exact State.feedRetry_quiet h
  · exact h

theorem State.insertOutput_quiet (h : Quiet c o s) (he : s.isEnd = true) : Quiet c o s.insertOutput := by
  refine (State.scanOutput_news _).quiet (s := s.countOutput) ⟨{ h.1 with output := fun k => ?_ }, h.2⟩
  rw [State.isEnd, h.straps] at he
  exact absurd (he.symm.trans k) (by decide)

theorem State.insertInput_quiet (h : Quiet c o s) (he : s.isFirst = true) : Quiet c o s.insertInput := by
  refine (State.clearAlarm_news _ _).quiet ⟨{ h.1 with input := fun k => ?_ }, h.2⟩
  rw [State.isFirst, h.straps] at he
  exact absurd (he.symm.trans k) (by decide)

theorem State.fillSlot_quiet (h : Quiet c o s) : Quiet c o s.fillSlot := by
  unfold State.fillSlot
  split
  · exact State.giveUpRecord_quiet h
  · exact h

theorem State.settleUnload_quiet (h : Quiet c o s) : Quiet c o s.settleUnload := by
  unfold State.settleUnload
  extract_lets m s1 s2
  have h2 : Quiet c o s2 := by
    unfold s2
    split
    · split <;> exact (State.reclamp_news _).quiet h
    · split
      · split
        · exact State.fillSlot_quiet h
        · exact State.giveUpRecord_quiet h
      · exact State.giveUpRecord_quiet h
  split
  · exact (State.scanOutput_news _).quiet h2
  · exact h2

/-! ### The handoff (chapter 6) -/

theorem State.answerOffer_quiet {n : Nat} (h : Quiet c o s) : Quiet c o (s.answerOffer n) := by
  unfold State.answerOffer
  split
  · exact (State.submit_news _ _ _).quiet h
  · split
    · exact (State.submit_news _ _ _).quiet h
    · split
      · exact (State.submit_news _ _ _).quiet h
      · split
        · exact (State.submit_news _ _ _).quiet ((State.queueBeacon_news _).quiet h.noInbound)
        · split <;> exact (State.submit_news _ _ _).quiet h

theorem State.holdBegins_quiet (h : Quiet c o s) : Quiet c o s.holdBegins := by
  unfold State.holdBegins
  extract_lets s1 s2
  have h1 : Quiet c o s1 := by
    unfold s1
    split
    · exact s.endOffer_news.quiet h
    · exact h
  split
  · exact State.emptyWindow_quiet h1
  · exact h1

theorem State.settleJam_quiet (h : Quiet c o s) : Quiet c o s.settleJam := by
  unfold State.settleJam
  split
  · split
    · exact State.clampInbound_quiet h
    · exact State.emptyWindow_quiet h
  · split
    · exact (State.testStale_news _).quiet (State.settleUnload_quiet h)
    · split
      · exact (State.testStale_news _).quiet ((State.reclamp_news _).quiet h)
      · exact State.giveUpRecord_quiet h
  · exact h

theorem State.restartWindow_quiet (h : Quiet c o s) : Quiet c o s.restartWindow := by
  unfold State.restartWindow
  split
  · split
    · exact State.clampUnknown_quiet h
    · exact h
  · split
    · exact State.clampInbound_quiet h
    · exact State.emptyWindow_quiet h
  · split
    · exact (State.testStale_news _).quiet (State.settleUnload_quiet h)
    · split
      · split
        · exact (State.testStale_news _).quiet h
        · exact (State.testStale_news _).quiet ((State.reclamp_news _).quiet h)
      · exact State.giveUpRecord_quiet h
  · split
    · exact (State.testStale_news _).quiet ((State.queueBeacon_news _).quiet h)
    · exact State.giveUpRecord_quiet h

end
end Sys2Proof.Machine

namespace Sys2Proof.Machine

section
variable {c : Instr} {o s : State}

/-! ### The head: requests of single steps (chapter 3) -/

theorem State.startHoming_quiet {n : NextWork} (h : Quiet c o s) : Quiet c o (s.startHoming n) :=
  (State.wireClampReq_news _ _ _).quiet h

theorem State.homingTable_quiet (h : Quiet c o s) : Quiet c o s.homingTable := by
  unfold State.homingTable
  extract_lets s1 s2
  have h1 : Quiet c o s1 :=
    (State.move_news _ _ _ _ _).quiet ((State.move_news (s.enter .homing .homingTable) .x 0 .homing .plain).quiet h)
  have h2 : Quiet c o s2 := by
    unfold s2
    split
    · exact (State.move_news _ _ _ _ _).quiet h1
    · exact h1
  split
  · exact (State.move_news _ _ _ _ _).quiet h2
  · exact h2

theorem State.startClearing_quiet {i : Intent} (h : Quiet c o s) : Quiet c o (s.startClearing i) :=
  (State.wireClampReq_news _ _ _).quiet h

theorem State.startPositioning_quiet (h : Quiet c o s) : Quiet c o s.startPositioning :=
  (State.move_news _ _ _ _ _).quiet h

theorem State.withWire_quiet {f : Recipe → WireEntry → Nat → State} (h : Quiet c o s)
    (hf : ∀ r w u, Quiet c o (f r w u)) : Quiet c o (s.withWire f) := by
  unfold State.withWire
  split
  · exact hf _ _ _
  · exact h

theorem State.startTouch_quiet (h : Quiet c o s) : Quiet c o s.startTouch :=
  State.withWire_quiet h fun _ _ _ => (State.request_news _ _ _ _ rfl).quiet h

theorem State.startLower_quiet (h : Quiet c o s) : Quiet c o s.startLower :=
  State.withWire_quiet h fun _ _ _ => (State.move_news _ _ _ _ _).quiet h

theorem State.startLooping_quiet (h : Quiet c o s) : Quiet c o s.startLooping :=
  (State.wireClampReq_news _ _ _).quiet h

theorem State.startStitch_quiet (h : Quiet c o s) : Quiet c o s.startStitch :=
  State.withWire_quiet h fun _ _ _ => (State.move_news _ _ _ _ _).quiet h

theorem State.startTail_quiet (h : Quiet c o s) : Quiet c o s.startTail :=
  State.withWire_quiet h fun _ _ _ => (State.move_news _ _ _ _ _).quiet h

theorem State.startFire_quiet (h : Quiet c o s) : Quiet c o s.startFire :=
  State.withWire_quiet h fun _ _ _ => (State.request_news (s.enter .sparking .fire) _ .spark .fire rfl).quiet h

/-! ### ENABLE (R30, R42, R44, R63) -/

/-- The set of a generation is a held one of that generation (R18). -/
theorem State.setOf_some {g : Nat} {r : Recipe} (h : s.setOf g = some r) :
    g ≠ 0 ∧ (g = s.activeGen ∨ g = s.priorGen) ∧ r.generation = g := by
  unfold State.setOf at h
  split at h
  · cases h
  next hg =>
    refine ⟨hg, ?_⟩
    split at h
    · next ha =>
      obtain ⟨x, hx, rfl⟩ := Option.map_eq_some_iff.mp h
      exact ⟨.inl ha.symm, by simpa [State.activeGen, hx] using ha⟩
    · split at h
      · next hp =>
        obtain ⟨x, hx, rfl⟩ := Option.map_eq_some_iff.mp h
        exact ⟨.inr hp.symm, by simpa [State.priorGen, hx] using hp⟩
      · cases h

/-- The strip's set is the held set of the generation in the window record (R18). -/
theorem State.stripSet_some {r : Recipe} (h : s.stripSet = some r) :
    ∃ rec, s.window.record = some rec ∧ s.setOf rec.generation = some r := by
  unfold State.stripSet at h
  split at h
  · next rec hr => exact ⟨rec, hr, h⟩
  · cases h

theorem State.abortBond_same (s : State) :
    s.abortBond.out = s.out ∧ s.abortBond.head = s.head ∧ s.abortBond.window = s.window
      ∧ s.abortBond.recipes = s.recipes := by
  unfold State.abortBond
  split <;> exact ⟨rfl, rfl, rfl, rfl⟩

/-- An ENABLE is lawful where it is requested: the bond opens with the parameters of the strip's set. -/
theorem State.enableBond_bounded {b : Bool} (h : Quiet c o s)
    (hs : s.head.state = .firstBond ∨ s.head.state = .secondBond) : Bounded c o (s.enableBond b) := by
  have ha := State.abortBond_quiet h
  obtain ⟨ho, hh, hw, hr⟩ := s.abortBond_same
  unfold State.enableBond
  split
  case h_2 => exact h.bounded
  case h_1 rec w hset _ =>
    refine ⟨ha.1, ha.2.1, fun mW m => ⟨(congrArg Head.state hh) ▸ hs, ?_⟩⟩
    obtain ⟨r, hrec, hgen⟩ := State.stripSet_some hset
    obtain ⟨h0, hheld, hg⟩ := State.setOf_some hgen
    have e : mW = (rec.setAt (if b then w.firstSet else w.secondSet)).power := by
      rcases List.mem_append.mp m with m | m
      · exact absurd m (ha.2.2 mW)
      · cases List.mem_singleton.mp m
        rfl
    obtain ⟨sa, sp⟩ := State.gens_of_recipes hr
    exact ⟨⟨if b then w.firstSet else w.secondSet, rec.generation, _⟩, r, rec, rfl, hw ▸ hrec,
      (State.setOf_of_recipes hr _).trans hgen, h0, hg, sa ▸ sp ▸ hheld, hg, rfl, e⟩

theorem State.beginStep_quiet {w : WireStep} (h : Quiet c o s) (h1 : w ≠ .firstBond) (h2 : w ≠ .secondBond) :
    Quiet c o (s.beginStep w) := by
  have k : Quiet c o { s with head.next := .none, head.heldFor := .nothing } := h
  cases w with
  | positioning => exact State.startPositioning_quiet k
  | touchLearn => exact State.startTouch_quiet k
  | ballDown => exact State.startLower_quiet k
  | firstBond => exact absurd rfl h1
  | looping => exact State.startLooping_quiet k
  | stitchDown => exact State.startStitch_quiet k
  | secondBond => exact absurd rfl h2
  | tail => exact State.startTail_quiet k
  | sparking => exact State.startFire_quiet k

/-- Only the two bond steps request an ENABLE. -/
theorem State.beginStep_bounded {w : WireStep} (h : Quiet c o s) : Bounded c o (s.beginStep w) := by
  by_cases h1 : w = .firstBond
  · subst h1
    exact State.enableBond_bounded (s := ({ s with head.next := .none, head.heldFor := .nothing } : State).enter
      .firstBond .bond) h (.inl rfl)
  · by_cases h2 : w = .secondBond
    · subst h2
      exact State.enableBond_bounded (s := ({ s with head.next := .none, head.heldFor := .nothing } : State).enter
        .secondBond .bond) h (.inr rfl)
    · exact (State.beginStep_quiet h h1 h2).bounded

/-! ### HELD, PARKED and the start of a wire (R39, R47, R50 to R52) -/

theorem State.enterHeld_quiet {f : HeldFor} {n : NextWork} (h : Quiet c o s) : Quiet c o (s.enterHeld f n) := h

theorem State.holdFor_quiet {k : AlarmKind} {n : NextWork} (h : Quiet c o s) : Quiet c o (s.holdFor k n) :=
  State.enterHeld_quiet ((State.raise_news _ _).quiet (s.disableReq_news.quiet h))

theorem State.enterParked_quiet (h : Quiet c o s) : Quiet c o s.enterParked := by
  unfold State.enterParked
  dsimp only
  split
  · exact State.startHoming_quiet h
  · exact (State.feedAfterParking_news _).quiet h

theorem State.closeSample_quiet {b : Bool} (h : Quiet c o s) : Quiet c o (s.closeSample b) := by
  unfold State.closeSample
  split
  · dsimp only
    split
    · exact State.onRecord_quiet h fun r _ hr => r.pullUnit_bondersOk _ hr
    · split
      · exact State.onRecord_quiet h fun r _ hr => hr
      · exact h
  · exact h

theorem State.giveUpWork_quiet (h : Quiet c o s) : Quiet c o s.giveUpWork :=
  State.interrupt_quiet (State.closeSample_quiet h)

theorem State.parkWork_quiet (h : Quiet c o s) : Quiet c o s.parkWork :=
  State.enterParked_quiet (State.giveUpWork_quiet h)

theorem State.wireGate_bounded {w : WireStep} {f : State → State} (h : Quiet c o s) (hf : Bounded c o (f s)) :
    Bounded c o (s.wireGate w f) := by
  unfold State.wireGate
  split
  · exact Quiet.bounded (State.holdFor_quiet (s := { s with head.wireOut := false }) h)
  · exact hf

theorem State.wireStep_bounded {w : WireStep} (h : Quiet c o s) : Bounded c o (s.wireStep w) :=
  State.wireGate_bounded h (State.beginStep_bounded h)

theorem State.wireStep_quiet {w : WireStep} (h : Quiet c o s) (h1 : w ≠ .firstBond) (h2 : w ≠ .secondBond) :
    Quiet c o (s.wireStep w) := by
  unfold State.wireStep State.wireGate
  split
  · exact State.holdFor_quiet h
  · exact State.beginStep_quiet h h1 h2

theorem State.startCycle_quiet {x : Occasion} (h : Quiet c o s) : Quiet c o (s.startCycle x) :=
  (State.move_news _ _ _ _ _).quiet h

theorem State.gatedCycle_quiet {x : Occasion} (h : Quiet c o s) : Quiet c o (s.gatedCycle x) := by
  unfold State.gatedCycle
  split
  · exact State.enterHeld_quiet h
  · exact State.startCycle_quiet h

theorem State.startWire_quiet (h : Quiet c o s) : Quiet c o s.startWire := by
  unfold State.startWire
  dsimp only
  split
  · exact State.enterHeld_quiet h
  · split
    · exact State.startCycle_quiet h
    · exact State.wireStep_quiet h nofun nofun

/-! ### The unit boundary and the pull sample (R53, R136 to R144) -/

theorem State.boundary6_quiet (h : Quiet c o s) : Quiet c o s.boundary6 := by
  unfold State.boundary6
  extract_lets more x s1
  have h1 : Quiet c o s1 := h
  split
  · exact State.enterParked_quiet h1
  · split
    · exact State.enterHeld_quiet h1
    · exact State.startWire_quiet (State.selectUnit_quiet h1)

theorem State.boundary5_quiet (h : Quiet c o s) : Quiet c o s.boundary5 := by
  unfold State.boundary5
  extract_lets x s1 ready s2
  have h2 : Quiet c o s2 := (State.evaluateStrip_news s1).quiet h
  split
  · exact State.boundary6_quiet h2
  · split
    · exact State.boundary6_quiet h2
    · exact State.enterParked_quiet h2

theorem State.boundary4_quiet (h : Quiet c o s) : Quiet c o s.boundary4 := by
  unfold State.boundary4
  dsimp only
  split
  · exact State.enterHeld_quiet h
  · exact State.boundary5_quiet h

theorem State.boundary3_quiet (h : Quiet c o s) : Quiet c o s.boundary3 := by
  unfold State.boundary3
  dsimp only
  split
  · exact State.gatedCycle_quiet h
  · exact State.boundary4_quiet h

theorem State.boundary2_quiet (h : Quiet c o s) : Quiet c o s.boundary2 :=
  State.boundary3_quiet (State.applyDue_quiet (s := { s with head.boundaryStep := 2 }) h)

theorem State.endCycle_quiet {x : Occasion} (h : Quiet c o s) : Quiet c o (s.endCycle x) := by
  unfold State.endCycle
  split
  · exact State.parkWork_quiet h
  · split
    · exact State.boundary4_quiet h
    · exact State.startWire_quiet h
    · exact State.enterParked_quiet h

theorem State.startPull_quiet (h : Quiet c o s) : Quiet c o s.startPull :=
  (State.move_news _ _ _ _ _).quiet ((State.move_news _ _ _ _ _).quiet h)

theorem State.waitPlace_quiet (h : Quiet c o s) : Quiet c o s.waitPlace := h

theorem State.pullTests_quiet (h : Quiet c o s) : Quiet c o s.pullTests := by
  unfold State.pullTests
  split
  · exact h
  · split
    · exact State.enterHeld_quiet h
    · split
      · exact State.startPull_quiet h
      · split
        · split
          · exact State.waitPlace_quiet h
          · have k (f : Sample → Sample) (n : Nat) : Quiet c o ((s.onSample f).closeEntry n .ungraded) :=
              (State.closeEntry_news _ _ _).quiet h
            dsimp only
            split
            · exact State.startPull_quiet (k _ _)
            · exact State.waitPlace_quiet (k _ _)
        · exact State.waitPlace_quiet h

theorem State.boundary1_quiet (h : Quiet c o s) : Quiet c o s.boundary1 := by
  unfold State.boundary1
  extract_lets x s1
  have h1 : Quiet c o s1 := h
  split
  · exact State.boundary2_quiet h1
  · split
    · exact State.enterHeld_quiet h1
    · split
      · exact State.boundary2_quiet (State.onRecord_quiet h1 fun r _ hr => hr)
      · exact State.pullTests_quiet h1

theorem State.runBoundary_quiet {n : Nat} (h : Quiet c o s) : Quiet c o (s.runBoundary n) := by
  unfold State.runBoundary
  split
  · exact State.boundary1_quiet h
  · exact State.boundary1_quiet h
  · exact State.boundary2_quiet h
  · exact State.boundary3_quiet h
  · exact State.boundary4_quiet h
  · exact State.boundary5_quiet h
  · exact State.boundary6_quiet h

theorem State.afterSample_quiet (h : Quiet c o s) : Quiet c o s.afterSample := by
  unfold State.afterSample
  split
  · exact State.enterParked_quiet h
  · exact State.boundary2_quiet h

theorem State.nextPlanWire_quiet (h : Quiet c o s) : Quiet c o s.nextPlanWire := by
  unfold State.nextPlanWire
  split
  · exact h
  · split
    · exact State.afterSample_quiet (State.closeSample_quiet h)
    · split
      · exact State.enterParked_quiet (State.closeSample_quiet h)
      · exact State.pullTests_quiet h

theorem State.resumePull_quiet (h : Quiet c o s) : Quiet c o s.resumePull := by
  unfold State.resumePull
  split
  · exact State.enterParked_quiet h
  · split
    · exact State.nextPlanWire_quiet h
    · exact State.pullTests_quiet h

/-! ### Next work (R35, R37, R55, R59) -/

theorem State.resumeStep_bounded {w : WireStep} (h : Quiet c o s) : Bounded c o (s.resumeStep w) := by
  refine State.wireGate_bounded h ?_
  split
  · exact (State.startWire_quiet h).bounded
  · exact State.beginStep_bounded h

theorem State.resumeWork_bounded {n : NextWork} (h : Quiet c o s) : Bounded c o (s.resumeWork n) := by
  cases n with
  | none => exact (State.enterParked_quiet h).bounded
  | park => exact (State.enterParked_quiet h).bounded
  | step w => exact State.resumeStep_bounded h
  | refire => exact (State.startFire_quiet h).bounded
  | wire => exact (State.startWire_quiet h).bounded
  | stoppedWire => exact (State.startWire_quiet h).bounded
  | boundary k => exact (State.runBoundary_quiet h).bounded
  | cycle x => exact (State.gatedCycle_quiet h).bounded
  | cycleEnd x => exact (State.endCycle_quiet h).bounded
  | pullTests => exact (State.pullTests_quiet h).bounded
  | pullResume => exact (State.resumePull_quiet h).bounded

theorem State.startScan_quiet (h : Quiet c o s) (hp : s.phase ≠ .running) : Quiet c o s.startScan :=
  (State.issue_news _ _ rfl).quiet (h.numbers hp .scanning s.log.newest s.log.spanEnd)

theorem State.scanAfterHoming_quiet (h : Quiet c o s) : Quiet c o s.scanAfterHoming := by
  unfold State.scanAfterHoming
  split
  · next hp => exact State.startScan_quiet h (by simp [hp])
  · exact h

theorem State.endHoming_bounded (h : Quiet c o s) : Bounded c o s.endHoming := by
  have k : Quiet c o ({ s with head.homed := true, head.homingParks := false } : State).scanAfterHoming :=
    State.scanAfterHoming_quiet h
  unfold State.endHoming
  dsimp only
  split
  · exact (State.parkWork_quiet k).bounded
  · exact State.resumeWork_bounded k

theorem State.endClearing_quiet (h : Quiet c o s) : Quiet c o s.endClearing := by
  unfold State.endClearing
  split
  · exact State.parkWork_quiet h
  · split
    · exact State.startWire_quiet h
    · exact State.runBoundary_quiet h
    · exact State.enterParked_quiet h

theorem State.completeWire_quiet (h : Quiet c o s) : Quiet c o s.completeWire := by
  refine State.withWire_quiet h fun r _ _ => ?_
  have k : Quiet c o (s.count .wiresCompleted).advanceWireCount := (State.advanceWireCount_news _).quiet h
  dsimp only
  split
  · split
    · exact State.enterParked_quiet (State.completeUnit_quiet k)
    · exact State.runBoundary_quiet (State.completeUnit_quiet k)
  · split
    · exact State.parkWork_quiet k
    · exact State.startWire_quiet k

theorem State.takeDriveFault_quiet (h : Quiet c o s) : Quiet c o s.takeDriveFault := by
  unfold State.takeDriveFault
  extract_lets x y s1
  have h1 : Quiet c o s1 := State.abortBond_quiet (s.disableReq_news.quiet h)
  split
  · exact h1
  · split
    · exact State.enterParked_quiet (State.scanAfterHoming_quiet h1)
    · exact State.scanAfterHoming_quiet (State.holdFor_quiet (s1.stopPull_news.quiet h1))

/-! ### BYPASS and the choices at the head (R52, R54 to R59, R84) -/

theorem State.bypassHead_quiet (h : Quiet c o s) : Quiet c o s.bypassHead := by
  unfold State.bypassHead
  split
  · exact h
  · split
    · exact State.parkWork_quiet h
    · exact h
  · split
    · exact State.parkWork_quiet h
    · exact h
  · exact h

theorem State.setBypass_quiet (hc : Kept.bypass ∈ c.mayChange) (h : Quiet c o s) : Quiet c o s.setBypass := by
  unfold State.setBypass
  split
  · exact h
  · exact (State.bypassHead_quiet ((State.queueBeacon_news _).quiet (h.bypass hc true))).askStrip

theorem State.clearBypass_quiet (hc : Kept.bypass ∈ c.mayChange) (h : Quiet c o s) : Quiet c o s.clearBypass := by
  have k : Quiet c o ({ s with alarms.bypass := false } : State).queueBeacon :=
    (State.queueBeacon_news _).quiet (h.bypass hc false)
  unfold State.clearBypass
  dsimp only
  split
  · exact h
  · split
    · exact k
    · split
      · exact k
      · split
        · exact State.startHoming_quiet k
        · exact k

theorem State.homeElse_quiet {n : NextWork} {f : State → State} (h : Quiet c o s)
    (hf : ∀ t, Quiet c o t → Quiet c o (f t)) : Quiet c o (s.homeElse n f) := by
  unfold State.homeElse
  split
  · exact hf s h
  · exact State.startHoming_quiet h

theorem State.retryWire_quiet (h : Quiet c o s) : Quiet c o s.retryWire :=
  State.homeElse_quiet (s := { s with head.surface := none }) h fun _ => State.startClearing_quiet

theorem State.skipUnit_quiet (h : Quiet c o s) : Quiet c o s.skipUnit :=
  State.homeElse_quiet (s := { s.rejectUnit with head.boundaryStep := 1, head.doneUnit := none })
    (State.rejectUnit_quiet h) fun _ => State.startClearing_quiet

theorem State.resumeWireOut_bounded (h : Quiet c o s) : Bounded c o s.resumeWireOut := by
  unfold State.resumeWireOut
  split
  · exact State.resumeWork_bounded h
  · exact Quiet.bounded (State.startHoming_quiet h)

theorem State.resumeNoBall_quiet (h : Quiet c o s) : Quiet c o s.resumeNoBall :=
  State.homeElse_quiet h fun _ => State.startFire_quiet

theorem State.retryCycle_quiet (h : Quiet c o s) : Quiet c o s.retryCycle :=
  State.homeElse_quiet h fun _ => State.gatedCycle_quiet

theorem State.continueCycle_quiet (h : Quiet c o s) : Quiet c o s.continueCycle :=
  State.homeElse_quiet (s.creditCycle_news.quiet h) fun _ => State.endCycle_quiet

theorem State.clearAndPark_quiet (h : Quiet c o s) : Quiet c o s.clearAndPark :=
  State.homeElse_quiet (State.giveUpWork_quiet h) fun _ => State.startClearing_quiet

theorem State.parkChoice_quiet (h : Quiet c o s) : Quiet c o s.parkChoice :=
  State.homeElse_quiet (State.giveUpWork_quiet h) fun _ => State.enterParked_quiet

theorem State.driveChoice_quiet {x : Choice} {b : Bool} (h : Quiet c o s) : Quiet c o (s.driveChoice x b) := by
  unfold State.driveChoice
  extract_lets s1
  have h1 : Quiet c o s1 := h
  split
  · exact State.parkWork_quiet h1
  · split
    · exact State.startHoming_quiet h1
    · split
      · exact State.startHoming_quiet (State.giveUpWork_quiet h1)
      · exact State.startHoming_quiet (State.giveUpWork_quiet h1)

theorem State.headChoice_bounded {k : AlarmKind} {x : Choice} {b : Bool} (h : Quiet c o s) :
    Bounded c o (s.headChoice k x b) := by
  unfold State.headChoice
  split
  · exact h.bounded
  · split
    · exact (State.driveChoice_quiet h).bounded
    · split
      · exact (State.parkChoice_quiet h).bounded
      · exact (State.retryCycle_quiet h).bounded
    · split
      · exact (State.parkChoice_quiet (s.creditCycle_news.quiet h)).bounded
      · exact (State.continueCycle_quiet h).bounded
    · split
      · exact (State.parkChoice_quiet h).bounded
      · exact (State.resumeNoBall_quiet h).bounded
    · split
      · exact (State.parkChoice_quiet h).bounded
      · exact State.resumeWireOut_bounded h
    · split
      · exact (State.clearAndPark_quiet (State.rejectUnit_quiet h)).bounded
      · exact (State.skipUnit_quiet h).bounded
    · split
      · exact Quiet.bounded (State.clearAndPark_quiet (s := { s with head.surface := none }) h)
      · exact (State.retryWire_quiet h).bounded
    · exact (State.clearAndPark_quiet h).bounded

theorem State.boundaryContinue_bounded (h : Quiet c o s) : Bounded c o s.boundaryContinue := by
  unfold State.boundaryContinue
  split
  · exact State.resumeWork_bounded h
  · exact h.bounded

theorem State.restartPull_quiet (h : Quiet c o s) : Quiet c o s.restartPull :=
  State.closeSample_quiet (b := false) h

theorem State.clearUnit_quiet (h : Quiet c o s) : Quiet c o s.clearUnit := h

theorem State.restartHead_quiet (h : Quiet c o s) : Quiet c o s.restartHead := by
  have k : Quiet c o ({ s.disableReq.abortBond with head.untrackedBond := false } : State) :=
    State.abortBond_quiet (s.disableReq_news.quiet h)
  exact Quiet.head (State.restartPull_quiet (State.clearUnit_quiet (State.rejectUnit_quiet (k.ignoreDue _)))) _ rfl

theorem State.dupHead_quiet (h : Quiet c o s) : Quiet c o s.dupHead :=
  State.abortBond_quiet (s.disableReq_news.quiet h)

end
end Sys2Proof.Machine

namespace Sys2Proof.Machine

section
variable {c : Instr} {o s : State}

/-! ### Line hold (R51, R170 to R172) -/

theorem State.holdEnds_bounded (h : Quiet c o s) : Bounded c o s.holdEnds := by
  have k : Quiet c o s.askHead.askStrip.askFeed.releaseFeed := State.releaseFeed_quiet h
  unfold State.holdEnds
  dsimp only
  split
  · exact State.resumeWork_bounded k
  · exact k.bounded

theorem State.setHold_bounded (hc : Kept.holdSet ∈ c.mayChange) {x : List Nat} (h : Quiet c o s) :
    Bounded c o (s.setHold x) := by
  have k : Quiet c o { s with alarms.hold := x } := h.hold hc x
  unfold State.setHold
  dsimp only
  split
  · exact (State.holdBegins_quiet k).bounded
  · split
    · exact State.holdEnds_bounded k
    · exact k.bounded

theorem State.addHold_bounded (hc : Kept.holdSet ∈ c.mayChange) {n : Nat} (h : Quiet c o s) :
    Bounded c o (s.addHold n) := by
  unfold State.addHold
  split
  · exact h.bounded
  · exact State.setHold_bounded hc h

theorem State.dropHold_bounded (hc : Kept.holdSet ∈ c.mayChange) {n : Nat} (h : Quiet c o s) :
    Bounded c o (s.dropHold n) := by
  unfold State.dropHold
  split
  · exact State.setHold_bounded hc h
  · exact h.bounded

/-! ### The tests of an event -/

theorem State.settlePlace_quiet (h : Quiet c o s) : Quiet c o s.settlePlace := by
  unfold State.settlePlace
  split
  · split
    · exact State.afterSample_quiet (State.closeSample_quiet h)
    · split
      · exact State.pullTests_quiet h
      · exact h
  · exact h

theorem State.settlePoint_quiet (h : Quiet c o s) : Quiet c o s.settlePoint := by
  unfold State.settlePoint
  split
  · exact State.applyDue_quiet h
  · exact h

theorem State.settleHead_quiet (h : Quiet c o s) : Quiet c o s.settleHead := by
  unfold State.settleHead
  split
  · split
    · exact State.startWire_quiet (State.selectUnit_quiet h)
    · split
      · exact State.startCycle_quiet h
      · exact h
  · exact h

/-- The tests that a head in a bond leaves: the strip, the feed and the record port. -/
theorem State.settle_rest_news (s : State) : News s.settleStrip.settleFeed.settlePort s :=
  ((State.settlePort_news _).trans (State.settleFeed_news _)).trans s.settleStrip_news

/-- A head in a bond meets no application point and starts nothing. -/
theorem State.settle_of_bond (hs : s.head.state = .firstBond ∨ s.head.state = .secondBond) : News s.settle s := by
  have h1 : s.settlePlace = s := by
    rcases hs with hs | hs <;> simp [State.settlePlace, hs]
  have h2 : s.settlePoint = s := by
    rcases hs with hs | hs <;> simp [State.settlePoint, State.atPoint, hs]
  have h3 : s.settleHead = s := by
    rcases hs with hs | hs <;> simp [State.settleHead, hs]
  unfold State.settle
  rw [h1, h2, h3]
  split
  · exact s.settle_rest_news
  · exact .refl s

/-- The tests due keep a command within its bounds; after an ENABLE the head stands in a bond (R30). -/
theorem State.settle_bounded (h : Bounded c o s) : Bounded c o s.settle := by
  by_cases he : ∃ mW, .enable mW ∈ s.out
  · obtain ⟨mW, m⟩ := he
    exact (State.settle_of_bond (h.2.2 mW m).1).bounded h
  · have k : Quiet c o s := ⟨h.1, h.2.1, not_exists.mp he⟩
    unfold State.settle
    split
    · exact (State.settle_rest_news _).bounded
        (State.settleHead_quiet (State.settlePoint_quiet (State.settlePlace_quiet k))).bounded
    · exact h

/-- A command answers a state within its bounds, its agenda empty; with a strap fault nothing of the ledger changes. -/
def Answers (c : Instr) (o : State) (x : Host.Outcome State Fault Refusal) : Prop :=
  ∀ t, x = .next t → Bounded c o t ∧ t.agenda = Agenda.none ∧ (o.phase = .strapFault → t.ledger = o.ledger)

theorem State.perform_answers {f : State → State} (p : Pins)
    (hoff : s.phase = .strapFault → f (s.begin_ p) = s.begin_ p) (hf : Bounded c s (f (s.begin_ p))) :
    Answers c s (answer (s.perform p f)) := by
  rintro t ⟨⟩
  refine ⟨(State.finish_news _ _).bounded (State.settle_bounded hf), rfl, fun hs => ?_⟩
  have off : (s.begin_ p).operating = false := by simp [State.operating, hs]
  have e : (f (s.begin_ p)).settle = s.begin_ p := by rw [hoff hs, State.settle_off off]
  have l : (f (s.begin_ p)).settle.ledger = s.ledger := by
    rw [e]
    rfl
  exact (State.finish_news _ _).1.trans l

theorem event_answers {f : State → State} (p : Pins)
    (hf : ∀ t, t.recipes = s.recipes → Quiet c s t → Bounded c s (f t)) : Answers c s (event s p f) := by
  refine State.perform_answers p (fun hs => by simp [State.whenOperating, State.operating, hs]) ?_
  have k := Quiet.refl c s p
  unfold State.whenOperating
  split
  · exact hf _ rfl k
  · exact k.bounded

theorem portEvent_answers {f : State → State} (p : Pins) (hf : ∀ t, Quiet c s t → Quiet c s (f t)) :
    Answers c s (portEvent s p f) := by
  refine State.perform_answers p (fun hs => by simp [hs]) ?_
  have k := Quiet.refl c s p
  split
  · exact k.bounded
  · exact (hf _ k).bounded

theorem keyEvent_answers {f : State → State} (p : Pins)
    (hf : ∀ t, t.hasPanel = true → Quiet c s t → Bounded c s (f t)) : Answers c s (keyEvent s p f) := by
  refine State.perform_answers p (fun hs => by simp [hs]) ?_
  have k := Quiet.refl c s p
  split
  · next h => exact hf _ (by simpa using (Bool.and_eq_true_iff.mp h).1) k
  · exact k.bounded

theorem panelEvent_answers {f : State → State} (p : Pins)
    (hf : ∀ t, t.hasPanel = true → Quiet c s t → Quiet c s (f t)) : Answers c s (panelEvent s p f) := by
  refine event_answers p fun t _ k => ?_
  split
  · next h => exact (hf _ h k).bounded
  · exact k.bounded

/-! ### Receiving (R186 to R190) -/

/-- What a frame may change besides: the presence table, the last refusal and the duplicate-station fault. -/
theorem Quiet.heard (hc : c.header ≠ none) (h : Quiet c o s) (ps : List Peer) (r : Option LastRefusal) (d : Bool) :
    Quiet c o { s with line.peers := ps, line.lastRefusal := r, dup := d } :=
  ⟨{ h.1 with peers := fun k => absurd k hc, dup := fun k => absurd k hc }, h.2⟩

theorem State.declareDup_quiet (hc : c.header ≠ none) (h : Quiet c o s) : Quiet c o s.declareDup := by
  have k := State.dupHead_quiet h
  unfold State.declareDup State.stopTimers
  split
  · exact ((State.issue_news s.dupHead .lineStop rfl).quiet k).heard hc _ _ true
  · exact k.heard hc _ _ true

theorem State.heard_quiet (hc : c.header ≠ none) {n : Nat} (h : Quiet c o s) : Quiet c o (s.heard n) := by
  have k : Quiet c o { s with
      line.peers := s.line.peers.modify (n - 1) (fun p => { p with present := true }) } := h.heard hc _ _ _
  unfold State.heard
  dsimp only
  split <;> exact k

theorem State.heard_recipes (s : State) (n : Nat) : (s.heard n).recipes = s.recipes := by
  unfold State.heard
  dsimp only
  split <;> rfl

theorem receiveWith_answers {view f : State → State} (h : Hdr) (p : Pins)
    (hv : ∀ t, Quiet c s t → Quiet c s (view t)) (hr : ∀ t, (view t).recipes = t.recipes)
    (hf : ∀ t, t.recipes = s.recipes → Quiet c s t → Bounded c s (f t))
    (hc : c.header ≠ none := by simp [Instr.header]) : Answers c s (receiveWith s h p view f) := by
  refine event_answers p fun t ht k => ?_
  split
  · exact Quiet.bounded k
  · split
    · exact (State.declareDup_quiet hc k).bounded
    · have k1 := hv _ (State.heard_quiet hc (n := h.sender) k)
      dsimp only
      split
      · exact hf _ ((hr _).trans ((State.heard_recipes _ _).trans ht)) k1
      · exact k1.bounded

theorem receive_answers {f : State → State} (h : Hdr) (p : Pins)
    (hf : ∀ t, t.recipes = s.recipes → Quiet c s t → Bounded c s (f t))
    (hc : c.header ≠ none := by simp [Instr.header]) : Answers c s (receive s h p f) :=
  receiveWith_answers h p (fun _ k => k) (fun _ => rfl) hf hc

theorem request_answers {f : State → State} (h : Hdr) (p : Pins)
    (hf : ∀ t, t.recipes = s.recipes → Quiet c s t → Quiet c s (f t))
    (hc : c.header ≠ none := by simp [Instr.header]) : Answers c s (Machine.request s h p f) := by
  refine receive_answers h p (fun t ht k => ?_) hc
  split
  · exact (hf t ht k).bounded
  · exact k.bounded

theorem State.takeBeacon_bounded (hc : Kept.holdSet ∈ c.mayChange) {n : Nat} {b : BeaconView} (h : Quiet c o s) :
    Bounded c o (s.takeBeacon n b) := by
  have h1 : Quiet c o (s.downstreamBeacon n) := by
    unfold State.downstreamBeacon
    split <;> exact h
  have h2 := (State.panelBeacon_news _ n b.alarms).quiet h1
  unfold State.takeBeacon State.beaconHold
  split
  · exact State.addHold_bounded hc h2
  · exact State.dropHold_bounded hc h2

/-! ### Answers to alarms (R166, R167) -/

theorem State.passFlag_quiet (hc : Kept.bypass ∈ c.mayChange) (h : Quiet c o s) : Quiet c o s.passFlag := by
  unfold State.passFlag
  split
  · exact h
  · exact ((State.queueBeacon_news _).quiet (h.bypass hc true)).askStrip

theorem State.markForward_quiet (h : Quiet c o s) : Quiet c o s.markForward := by
  unfold State.markForward
  split <;> exact h

theorem State.choiceEffect_bounded {k : AlarmKind} {x : Choice} (hc : x = .passStrip → Kept.bypass ∈ c.mayChange)
    (h : Quiet c o s) : Bounded c o (s.choiceEffect k x) := by
  have boundary : Bounded c o (if x = .passStrip then s.setBypass else s.boundaryContinue) := by
    split
    · next hx => exact (State.setBypass_quiet (hc hx) h).bounded
    · exact State.boundaryContinue_bounded h
  have head : Quiet c o (if x = .passStrip then s.passFlag else s) := by
    split
    · next hx => exact State.passFlag_quiet (hc hx) h
    · exact h
  unfold State.choiceEffect
  split
  · exact boundary
  · exact boundary
  · exact (State.settleJam_quiet h).bounded
  · exact (State.markForward_quiet h).bounded
  · exact (State.markForward_quiet h).bounded
  · exact (State.feedChoice_quiet h).bounded
  · exact Quiet.bounded h
  · exact Quiet.bounded h
  · exact h.bounded
  · exact State.headChoice_bounded head

theorem State.respond_bounded {n q r : Nat} {x : Choice} (hc : x = .passStrip → Kept.bypass ∈ c.mayChange)
    (h : Quiet c o s) : Bounded c o (s.respond n q x r) := by
  unfold State.respond
  split
  · split
    · split
      · exact State.choiceEffect_bounded hc ((State.removeAlarm_news _ _ _ _).quiet h)
      · exact h.bounded
    · exact h.bounded
  · exact h.bounded

theorem response_answers {n q : Nat} {x : Choice} (h : Hdr) (p : Pins)
    (hx : x = .passStrip → Kept.bypass ∈ c.mayChange)
    (hc : c.header ≠ none := by simp [Instr.header]) : Answers c s (response s h n q x p) :=
  receive_answers h p (fun _ _ k => State.respond_bounded hx k) hc

theorem State.refuse_quiet (hc : c.header ≠ none) {h : Hdr} {k : FrameKind} {x d : Nat} (q : Quiet c o s) :
    Quiet c o (s.refuse h k x d) := by
  have q1 : Quiet c o { s with line.lastRefusal := some ⟨k, x, d⟩ } := q.heard hc _ _ _
  unfold State.refuse
  dsimp only
  split
  · exact q1
  · split <;> exact (State.submit_news _ _ _).quiet q1

/-! ### Start-up (R32, R37, R161, R162, R192) -/

theorem State.findMagazine_quiet (h : Quiet c o s) : Quiet c o s.findMagazine := by
  unfold State.findMagazine
  split
  · split
    · next hf => exact State.insertInput_quiet h hf
    · split
      · next he => exact State.insertOutput_quiet h he
      · exact h
  · exact h

theorem State.findStrip_quiet (h : Quiet c o s) : Quiet c o s.findStrip := by
  unfold State.findStrip
  split
  · exact State.clampUnknown_quiet h
  · exact h

/-- What the start-up scan may change besides: the store's presence, the pull-capability and the block headers. -/
theorem Quiet.store (hc : Kept.recordStore ∈ c.mayChange) (hb : Kept.blockHeaders ∈ c.mayChange) (h : Quiet c o s)
    (cap : Bool) (pr : Bool) (hs : List (Option (Nat × Nat))) :
    Quiet c o { s with pull.capable := cap, log.present := pr, log.headers := hs } :=
  ⟨{ h.1 with store := fun k => absurd hc k, headers := fun k => absurd hb k }, h.2⟩

section Scan
variable (hc : Kept.recordStore ∈ c.mayChange) (hb : Kept.blockHeaders ∈ c.mayChange)
include hc hb

theorem State.leaveStarting_quiet (h : Quiet c o s) (hp : s.phase ≠ .running) : Quiet c o s.leaveStarting := by
  have k : Quiet c o { s with
      phase := .running, pull.capable := s.straps.pullFitted && s.log.present, log.scan := .idle } :=
    (h.numbers hp .running s.log.newest s.log.spanEnd).store hc hb _ _ _
  exact ((State.findMagazine_quiet (State.findStrip_quiet ((State.queueBeacon_news _).quiet k))).askHead.askFeed).askPort

theorem State.endScanWith_quiet {n : Nat} (h : Quiet c o s) (hp : s.phase ≠ .running) :
    Quiet c o (s.endScanWith n) := by
  unfold State.endScanWith
  extract_lets x s1 s2
  have h1 : Quiet c o s1 :=
    (h.numbers hp s.phase s.log.newest (min s.log.newest (max n (s.log.oldestRecord - 1)))).store hc hb _ _ _
  have n2 : News s2 s1 := by
    unfold s2
    split
    · exact s1.needBlock_news _
    · exact .refl s1
  split
  · have n3 := s2.setFull_news.trans n2
    exact State.leaveStarting_quiet hc hb (n3.quiet h1) fun e => hp (n3.phase.symm.trans e)
  · exact State.leaveStarting_quiet hc hb (n2.quiet h1) fun e => hp (n2.phase.symm.trans e)

omit hc hb in
theorem State.scanRead_quiet {x : ScanStep} {b n : Nat} (h : Quiet c o s) : Quiet c o (s.scanRead x b n) :=
  (State.issue_news _ _ rfl).quiet h

theorem State.scanDown_quiet {b n : Nat} (h : Quiet c o s) (hp : s.phase ≠ .running) :
    Quiet c o (s.scanDown b n) := by
  unfold State.scanDown
  split
  · exact State.scanRead_quiet h
  · split
    · exact State.scanRead_quiet h
    · exact State.endScanWith_quiet hc hb h hp

theorem State.headersRead_quiet (h : Quiet c o s) (hp : s.phase ≠ .running) : Quiet c o s.headersRead := by
  have h1 : Quiet c o { s with log := s.log.settleHeaders } := h.store hc hb _ _ _
  unfold State.headersRead
  dsimp only
  split
  · exact State.endScanWith_quiet hc hb (h1.numbers hp s.phase 0 s.log.spanEnd) hp
  · exact State.scanRead_quiet h1

theorem State.upwardDone_quiet {w n : Nat} {x : WritePos} (h : Quiet c o s) (hp : s.phase ≠ .running) :
    Quiet c o (s.upwardDone w n x) :=
  State.scanDown_quiet hc hb (h.numbers hp s.phase (if s.log.newest = 0 then s.log.writeFirst - 1 else s.log.newest)
    s.log.spanEnd) hp

theorem State.scanUp_quiet {n : Nat} {bs : List Byte} (h : Quiet c o s) (hp : s.phase ≠ .running) :
    Quiet c o (s.scanUp n bs) := by
  unfold State.scanUp
  split
  · exact h
  · have k : Quiet c o { s with log := s.log.takeNumber (judgeSlot bs) } :=
      (h.numbers hp s.phase (s.log.takeNumber (judgeSlot bs)).newest
        (s.log.takeNumber (judgeSlot bs)).spanEnd).store hc hb s.pull.capable _ _
    dsimp only
    split
    · exact State.upwardDone_quiet hc hb h hp
    · split
      · exact State.upwardDone_quiet hc hb k hp
      · exact State.scanRead_quiet k

theorem State.scanSlotDown_quiet {b n : Nat} {bs : List Byte} (h : Quiet c o s) (hp : s.phase ≠ .running) :
    Quiet c o (s.scanSlotDown b n bs) := by
  have damaged : Quiet c o ((if s.log.writeBlock = some b then s
      else { s with log.damaged := bump16 s.log.damaged }).scanDown b (n - 1)) := by
    split <;> exact State.scanDown_quiet hc hb h hp
  unfold State.scanSlotDown
  split
  · exact State.endScanWith_quiet hc hb h hp
  · exact damaged
  · exact damaged
  · exact State.scanDown_quiet hc hb h hp

theorem State.noStore_quiet (h : Quiet c o s) (hp : s.phase ≠ .running) : Quiet c o s.noStore :=
  State.leaveStarting_quiet hc hb (h.store hc hb s.pull.capable false _) hp

theorem State.scanHeader_quiet {b : Nat} {bs : List Byte} (h : Quiet c o s) (hp : s.phase ≠ .running) :
    Quiet c o (s.scanHeader b bs) := by
  have k : Quiet c o { s with log.headers := s.log.headers.set b (readHeader bs) } := h.store hc hb _ _ _
  unfold State.scanHeader
  dsimp only
  split
  · exact State.scanRead_quiet k
  · exact State.headersRead_quiet hc hb k hp

theorem State.scanAnswer_quiet {a : StoreAnswer} (h : Quiet c o s) (hp : s.phase ≠ .running) :
    Quiet c o (s.scanAnswer a) := by
  unfold State.scanAnswer
  split
  · exact h
  · exact State.noStore_quiet hc hb h hp
  · exact State.scanHeader_quiet hc hb h hp
  · exact State.scanHeader_quiet hc hb h hp
  · exact State.scanUp_quiet hc hb h hp
  · exact State.scanUp_quiet hc hb h hp
  · exact State.scanSlotDown_quiet hc hb h hp
  · exact State.scanSlotDown_quiet hc hb h hp

end Scan

theorem State.endListen_quiet (h : Quiet c o s) : Quiet c o s.endListen := by
  unfold State.endListen
  split
  case isFalse => exact h
  case isTrue hp =>
    have k1 : Quiet c o { s with phase := .homing, line.beaconTimer := some Config.beaconMs } :=
      h.numbers (by simp [hp]) .homing s.log.newest s.log.spanEnd
    have n := (State.placeBeacon_news' _).trans
      (State.fill_news { s with phase := .homing, line.beaconTimer := some Config.beaconMs })
    have k2 := n.quiet k1
    unfold State.startUpHoming
    dsimp only
    split
    · exact State.startScan_quiet k2 (by simp [n.phase])
    · exact State.startHoming_quiet k2

/-! ### The warm restart (R195) -/

theorem State.settleRestart_news (s : State) (e : AlarmEntry) : News (s.settleRestart e) s := by
  have k := (State.panelSettled_news _ s.stn e.seq).trans (s.submit_news .settled (settledFrame e .restart 0))
  unfold State.settleRestart
  dsimp only
  split <;> exact k

theorem State.settleRestart_fold_news (es : List AlarmEntry) (s : State) :
    News (es.foldl State.settleRestart s) s := by
  induction es generalizing s with
  | nil => exact .refl s
  | cons e es ih => exact (ih _).trans (s.settleRestart_news e)

section Restart
variable (hh : c.header ≠ none) (hb : Kept.bypass ∈ c.mayChange) (hl : Kept.holdSet ∈ c.mayChange)

theorem State.restartLine_quiet (hh : c.header ≠ none) (h : Quiet c o s) : Quiet c o s.restartLine :=
  h.heard hh s.line.peers none s.dup

theorem State.restartPanel_quiet (h : Quiet c o s) : Quiet c o s.restartPanel := by
  unfold State.restartPanel
  split
  · next hp => exact h.panel hp _
  · exact h

theorem State.restartAlarms_quiet (hb : Kept.bypass ∈ c.mayChange) (hl : Kept.holdSet ∈ c.mayChange)
    (h : Quiet c o s) : Quiet c o s.restartAlarms := by
  unfold State.restartAlarms
  extract_lets x s1 y s2
  have h1 : Quiet c o s1 := (State.settleRestart_fold_news _ { s with alarms.queue := [] }).quiet h
  have h2 : Quiet c o s2 := (h1.bypass hb false).hold hl _
  split
  · exact h2.askStrip
  · exact h2

theorem State.restartInput_quiet (h : Quiet c o s) : Quiet c o s.restartInput := by
  unfold State.restartInput
  extract_lets fed m retracts s1
  have hm : m.ranges = s.inMag.ranges ∧ m.inserted = s.inMag.inserted := by
    unfold m
    split
    · exact s.inMag.feedDone_same
    · exact ⟨rfl, rfl⟩
  have h1 : Quiet c o s1 := h.inMag (m := { m with
    feed := if retracts then .retracting else .idle
    feedSlot := none
    feedTimer := none
    waiting := none
    retrying := false
    retractJam := false
    insertedSinceJam := false }) hm
  split
  · exact (State.retract_news _).quiet h1
  · exact h1

theorem State.restartOutput_quiet (h : Quiet c o s) : Quiet c o s.restartOutput := by
  unfold State.restartOutput
  split
  · dsimp only
    split
    · split
      · exact (State.scanSlot_news _ _).quiet (h.ignoreDue _)
      · exact (State.endScan_news _).quiet (h.ignoreDue _)
    · exact h
  · exact h
  · exact h

theorem State.dropBelt_quiet (h : Quiet c o s) : Quiet c o s.dropBelt := by
  unfold State.dropBelt
  split <;> exact h

theorem State.restartFull_quiet (h : Quiet c o s) : Quiet c o s.restartFull := by
  unfold State.restartFull
  split
  · exact (s.raise_news _).quiet h
  · exact h

theorem State.restartLog_quiet (h : Quiet c o s) : Quiet c o s.restartLog := (State.closeAll_news _).quiet h

theorem State.restartHoming_quiet (h : Quiet c o s) : Quiet c o s.restartHoming :=
  State.startHoming_quiet (s := { s with head.restartHoming := true }) h

include hh hb hl in
theorem State.restart_quiet (h : Quiet c o s) : Quiet c o s.restart := by
  have h1 := State.restartHead_quiet
    (State.restartAlarms_quiet hb hl (State.restartPanel_quiet (State.restartLine_quiet hh h)))
  have h2 : Quiet c o s.restartLine.restartPanel.restartAlarms.restartHead.restartEnergy.restartMarks := h1
  have h3 := State.restartWindow_quiet (State.restartOutput_quiet (State.restartInput_quiet h2))
  exact (State.queueBeacon_news _).quiet
    (State.restartHoming_quiet (State.restartFull_quiet (State.restartLog_quiet (State.dropBelt_quiet h3))))

end Restart
end
end Sys2Proof.Machine

namespace Sys2Proof.Machine

section
variable {c : Instr} {o s : State}

/-! ### Frames and service requests -/

theorem State.takeTake_quiet {n : Nat} (h : Quiet c o s) : Quiet c o (s.takeTake n) := by
  unfold State.takeTake
  split
  · split
    · exact (s.acceptTake_news _).quiet h
    · exact h
  · exact h

theorem State.takeDecline_quiet {n : Nat} (h : Quiet c o s) : Quiet c o (s.takeDecline n) := by
  unfold State.takeDecline
  split
  · exact s.endOffer_news.quiet h
  · exact h

theorem State.takeRecord_quiet (hc : Kept.badRecords ∈ c.mayChange) {bs : List Byte} (h : Quiet c o s) :
    Quiet c o (s.takeRecord bs) := by
  unfold State.takeRecord
  split
  · split
    · next hr => exact h.records s.window.record (some _) fun k => ⟨(h.sound k).2.1, checkRecord_bondersOk hr⟩
    · exact ⟨{ h.1 with badRecords := fun k => absurd hc k }, h.2⟩
  · exact h

theorem fromUpstream_quiet {x : Hdr} {f : State → State} (h : Quiet c o s) (hf : Quiet c o (f s)) :
    Quiet c o (fromUpstream s x f) := by
  unfold fromUpstream
  split
  · exact hf
  · exact h

theorem fromDownstream_quiet {x : Hdr} {f : State → State} (h : Quiet c o s) (hf : Quiet c o (f s)) :
    Quiet c o (fromDownstream s x f) := by
  unfold fromDownstream
  split
  · exact hf
  · exact h

/-- A change of the pending set, made before any activation of the command. -/
theorem Quiet.pending (hr : s.recipes = o.recipes) (h : Quiet c o s) (q : PendingSet)
    (hq : Kept.segments ∉ c.mayChange → q.segments = o.recipes.pending.segments) :
    Quiet c o { s with recipes.pending := q } := by
  have ha : s.recipes.active = o.recipes.active := congrArg RecipeStore.active hr
  have hp : s.recipes.prior = o.recipes.prior := congrArg RecipeStore.prior hr
  exact ⟨{ h.1 with segments := fun k => .inl (hq k), active := .inl ⟨ha, hp⟩ }, h.2⟩

theorem State.acceptSegment_quiet (hc : Kept.segments ∈ c.mayChange) {bs : List Byte} (hr : s.recipes = o.recipes)
    (h : Quiet c o s) : Quiet c o (s.acceptSegment bs) := by
  unfold State.acceptSegment
  dsimp only
  split <;> exact h.pending hr _ fun k => absurd hc k

theorem State.activate_quiet (hc : c.header ≠ none) {x : Hdr} {g r : Nat} (hr : s.recipes = o.recipes)
    (h : Quiet c o s) : Quiet c o (s.activate x g r) := by
  have refused (n d : Nat) : Quiet c o (s.refuse x .recipeActivate n d) := State.refuse_quiet hc h
  unfold State.activate
  split
  · exact refused _ _
  · split
    · split
      · exact (h.pending hr { s.recipes.pending with due := some r } fun _ => by rw [hr]).askPoint
      · exact refused _ _
      · exact refused _ _
    · exact refused _ _

theorem State.snapshot_quiet (hc : Kept.snapshot ∈ c.mayChange) {b : Bool} (h : Quiet c o s) :
    Quiet c o (s.snapshot b) :=
  ⟨{ h.1 with snapshot := fun k => absurd hc k }, h.2⟩

theorem State.pullRead_quiet (hc : c.header ≠ none) {x : Hdr} {n m : Nat} (h : Quiet c o s) :
    Quiet c o (s.pullRead x n m) := by
  have refused (n d : Nat) : Quiet c o (s.refuse x .pullRead n d) := State.refuse_quiet hc h
  unfold State.pullRead
  split
  · exact refused _ _
  · split
    · exact refused _ _
    · split
      · exact refused _ _
      · split
        · exact refused _ _
        · exact h

/-- COLLECTED only raises the span's end (R158). -/
theorem State.collect_quiet (hc : c.header ≠ none) {x : Hdr} {n m : Nat} (h : Quiet c o s) :
    Quiet c o (s.collect x n m) := by
  have refused (n d : Nat) : Quiet c o (s.refuse x .collected n d) := State.refuse_quiet hc h
  unfold State.collect
  dsimp only
  split
  · exact refused _ _
  · split
    · exact refused _ _
    · split
      · exact refused _ _
      · split
        · exact refused _ _
        · split
          · exact h
          · next hs =>
            split
            · exact refused _ _
            · refine ⟨{ h.1 with numbers := fun k => ?_ }, h.2⟩
              obtain ⟨hp, hn, he⟩ := h.1.numbers k
              exact ⟨hp, hn, he.trans (Nat.le_of_not_le hs)⟩

theorem State.skipSlots_quiet (hc : c.header ≠ none) {x : Hdr} {n m : Nat} (h : Quiet c o s) :
    Quiet c o (s.skipSlots x n m) := by
  have refused (n d : Nat) : Quiet c o (s.refuse x .skipSlots n d) := State.refuse_quiet hc h
  unfold State.skipSlots
  split
  · exact refused _ _
  · next hf =>
    split
    · exact refused _ _
    · split
      · exact refused _ _
      · split
        · exact refused _ _
        · split
          · exact refused _ _
          · next q hq =>
            have k : Quiet c o { s with inMag := q } := by
              refine ⟨{ h.1 with input := fun e => ?_ }, h.2⟩
              rw [State.isFirst, h.straps, Bool.not_eq_true', Bool.not_eq_false] at hf
              exact absurd (hf.symm.trans e) (by decide)
            exact ((State.reply_news _ _ _).quiet k).askFeed

theorem State.readMagazine_quiet (hc : c.header ≠ none) {x : Hdr} (h : Quiet c o s) : Quiet c o (s.readMagazine x) := by
  unfold State.readMagazine
  split
  · exact (s.reply_news _ _).quiet h
  · split
    · exact (s.reply_news _ _).quiet h
    · exact State.refuse_quiet hc h

/-! ### The line's own events (R188, R190) -/

theorem State.startSend_quiet (h : Quiet c o s) : Quiet c o s.startSend := by
  unfold State.startSend
  split
  · exact (State.issue_news _ _ rfl).quiet h
  · exact h

theorem State.dropHead_news (s : State) : News s.dropHead s := State.fill_news _

theorem State.abortHead_quiet (hc : Kept.lineFaults ∈ c.mayChange) (h : Quiet c o s) : Quiet c o s.abortHead := by
  unfold State.abortHead
  split
  · exact h
  · split
    · exact (State.dropHead_news _).quiet (s := { s with line.lineFaults := bump16 s.line.lineFaults })
        ⟨{ h.1 with lineFaults := fun k => absurd hc k }, h.2⟩
    · exact h

theorem State.mismatch_quiet (hc : Kept.lineFaults ∈ c.mayChange) (h : Quiet c o s) : Quiet c o s.mismatch := by
  unfold State.mismatch
  split
  · exact h
  · have k : Quiet c o (({ s with line.sending := none, line.last := none } : State).issue .lineStop) :=
      (State.issue_news _ _ rfl).quiet h
    dsimp only
    split
    · exact State.abortHead_quiet hc k
    · exact k

theorem State.sent_quiet (h : Quiet c o s) : Quiet c o s.sent := by
  unfold State.sent
  split
  · exact h
  · dsimp only
    split
    · exact (State.dropHead_news _).quiet h
    · exact h

/-! ### Answers of the ports -/

theorem State.onAnswer_bounded {pt : Port} {ok : Use → Bool} {f : Use → State → State} (h : Quiet c o s)
    (hf : ∀ u t, Quiet c o t → Bounded c o (f u t)) : Bounded c o (s.onAnswer pt ok f) := by
  unfold State.onAnswer
  split
  · exact h.bounded
  · split
    · exact hf _ _ h
    · exact Quiet.bounded h

theorem State.onAnswer_quiet {pt : Port} {ok : Use → Bool} {f : Use → State → State} (h : Quiet c o s)
    (hf : ∀ u t, Quiet c o t → Quiet c o (f u t)) : Quiet c o (s.onAnswer pt ok f) := by
  unfold State.onAnswer
  split
  · exact h
  · split
    · exact hf _ _ h
    · exact h

/-- The answer to one request of the head's axes. -/
theorem State.onAxis_answers {a : Axis} {u : Use} {f : State → State} (p : Pins)
    (hf : ∀ t, Quiet c s t → Bounded c s (f t)) : Answers c s (event s p fun t => t.onAxis a u f) :=
  event_answers p fun _ _ k => State.onAnswer_bounded k fun _ t kt => hf t kt

theorem State.allDone_quiet {u : Use} {f : State → State} (h : Quiet c o s) (hf : Quiet c o (f s)) :
    Quiet c o (s.allDone u f) := by
  unfold State.allDone
  split
  · exact h
  · exact hf

theorem State.homingAnswered_bounded (h : Quiet c o s) : Bounded c o s.homingAnswered := by
  unfold State.homingAnswered
  split
  · exact (State.homingTable_quiet h).bounded
  · unfold State.allDone
    split
    · exact h.bounded
    · exact State.endHoming_bounded h
  · exact h.bounded

theorem State.positioned_quiet (h : Quiet c o s) : Quiet c o s.positioned := by
  unfold State.positioned
  split
  · exact State.withWire_quiet h fun _ _ _ => (State.moveTable_news _ _ _).quiet h
  · exact State.allDone_quiet h (State.withWire_quiet h fun _ _ _ => (State.move_news _ _ _ _ _).quiet h)
  · split
    · exact State.wireStep_quiet h nofun nofun
    · exact State.wireStep_quiet h nofun nofun
  · exact h

theorem State.looped_quiet (h : Quiet c o s) : Quiet c o s.looped := by
  unfold State.looped
  split
  · exact State.withWire_quiet h fun _ _ _ => (State.move_news _ _ _ _ _).quiet h
  · exact State.withWire_quiet h fun _ _ _ => (State.move_news _ _ _ _ _).quiet h
  · exact State.withWire_quiet h fun _ _ _ => (State.moveTable_news _ _ _).quiet h
  · exact State.allDone_quiet h (State.wireStep_quiet h nofun nofun)
  · exact h

theorem State.tailMoved_quiet (h : Quiet c o s) : Quiet c o s.tailMoved := by
  unfold State.tailMoved
  split
  · exact (State.wireClampReq_news _ _ _).quiet h
  · exact State.wireStep_quiet h nofun nofun
  · exact h

theorem State.clamped_quiet {u : Use} (h : Quiet c o s) : Quiet c o (s.clamped u) := by
  unfold State.clamped
  split
  · exact (State.move_news _ _ _ _ _).quiet h
  · exact State.withWire_quiet h fun _ _ _ => (State.move_news _ _ _ _ _).quiet h
  · exact (State.move_news _ _ _ _ _).quiet h
  · exact (State.move_news _ _ _ _ _).quiet h
  · exact (State.request_news { s with head.stage := .condFire } _ .spark .fire rfl).quiet h
  · exact h

theorem State.conditioned_quiet (h : Quiet c o s) : Quiet c o s.conditioned := by
  unfold State.conditioned
  split
  · exact (State.moveTable_news _ _ _).quiet h
  · exact State.allDone_quiet h ((State.wireClampReq_news _ _ _).quiet h)
  · exact h

theorem State.cycleSparked_quiet (h : Quiet c o s) : Quiet c o s.cycleSparked := by
  unfold State.cycleSparked
  split
  · exact State.endCycle_quiet ((State.creditCycle_news { s with head.sparks := 4 }).quiet h)
  · exact (State.request_news { s with head.sparks := s.head.sparks + 1 } _ .spark .fire rfl).quiet h

theorem State.endFirstBond_quiet {r : BondReport} (h : Quiet c o s) : Quiet c o (s.endFirstBond r) := by
  have k (t : Tally) : Quiet c o ((((s.disableReq.count .firstAttempted).count t).untrackedEnd).driftIf
      (r.pad == .stuck) r) :=
    (State.driftIf_news _ _ _).quiet ((State.untrackedEnd_news _).quiet (s.disableReq_news.quiet h))
  unfold State.endFirstBond
  dsimp only
  split
  · exact State.wireStep_quiet (k _) nofun nofun
  · exact State.holdFor_quiet (k _)

theorem State.endSecondBond_quiet {r : BondReport} (h : Quiet c o s) : Quiet c o (s.endSecondBond r) := by
  have k (t : Tally) : Quiet c o ((((s.disableReq.count .secondAttempted).count t).untrackedEnd).driftIf
      s.pins.frameContact r) :=
    (State.driftIf_news _ _ _).quiet ((State.untrackedEnd_news _).quiet (s.disableReq_news.quiet h))
  unfold State.endSecondBond
  dsimp only
  split
  · exact State.wireStep_quiet (k _) nofun nofun
  · exact State.holdFor_quiet (k _)

theorem State.takeSample_quiet {v i : Nat} (h : Quiet c o s) : Quiet c o (s.takeSample v i) := by
  unfold State.takeSample
  split
  · exact h
  · dsimp only
    split
    · exact h
    · unfold State.endBond
      dsimp only
      split
      · exact State.endFirstBond_quiet h
      · exact State.endSecondBond_quiet h

theorem State.axisFault_quiet {a : Axis} (h : Quiet c o s) : Quiet c o (s.axisFault a) := by
  unfold State.axisFault
  split
  · split
    · exact State.takeDriveFault_quiet h
    · exact h
  · exact State.takeDriveFault_quiet h

/-! ### The window's sensors, timers and belt (chapter 6) -/

theorem State.fedStripIn_quiet (h : Quiet c o s) : Quiet c o s.fedStripIn := by
  unfold State.fedStripIn
  split
  · exact State.feedArrival_quiet h
  · exact State.lateArrival_quiet h
  · exact State.clampInbound_quiet h

theorem State.stripIn_quiet (h : Quiet c o s) : Quiet c o s.stripIn := by
  unfold State.stripIn
  split
  · exact h
  · split
    · split
      · exact State.clampUnknown_quiet h
      · exact State.clampUnknown_quiet h
    · split
      · exact State.fedStripIn_quiet h
      · exact State.clampInbound_quiet h
    · exact h

theorem State.stripOutClear_quiet (h : Quiet c o s) : Quiet c o s.stripOutClear := by
  unfold State.stripOutClear
  split
  · exact h
  · split
    · split
      · dsimp only
        split
        · exact State.fillSlot_quiet h
        · exact h
      · exact h
    · exact State.giveUpRecord_quiet h

theorem State.arrivalExpired_quiet (hc : Kept.withdrawn ∈ c.mayChange) (h : Quiet c o s) :
    Quiet c o s.arrivalExpired := by
  unfold State.arrivalExpired
  split
  · exact State.emptyWindow_quiet (s := { s.withdraw Owner.isTake with line.withdrawn := bump16 s.line.withdrawn })
      ⟨{ h.1 with withdrawn := fun k => absurd hc k }, h.2⟩
  · exact s.jamWindow_news.quiet h

theorem State.beltFaulted_news (s : State) : News s.beltFaulted s := by
  unfold State.beltFaulted
  split
  · exact s.jamWindow_news
  · exact .refl s

/-! ### The magazines' sensors and answers (chapter 7) -/

theorem State.removeInput_news (s : State) : News s.removeInput s := by
  unfold State.removeInput
  dsimp only
  split
  · exact .refl s
  · exact State.jamFeed_news { s with inMag.current := false }
  · exact .refl s

theorem State.searched_quiet (h : Quiet c o s) : Quiet c o s.searched := by
  unfold State.searched
  split
  · split
    · exact (s.searchFrom_news _).quiet h
    · split
      · exact State.startPush_quiet h
      · exact (State.searchFrom_news _ _).quiet h
  · exact h

theorem State.retried_quiet (h : Quiet c o s) : Quiet c o s.retried := by
  unfold State.retried
  split
  · next n _ _ =>
    extract_lets s1 mark
    have hm (x : InSlot) : Quiet c o (mark x) := by
      unfold mark
      split <;> exact h
    split
    · split
      · exact State.startPush_quiet (hm _)
      · exact State.giveUpFeed_quiet (hm _)
    · exact State.giveUpFeed_quiet (hm _)
  · exact h

theorem State.pushAnswered_news (s : State) : News s.pushAnswered s := by
  unfold State.pushAnswered
  split
  · exact s.retract_news
  · exact .refl s

theorem State.retracted_quiet (h : Quiet c o s) : Quiet c o s.retracted := by
  unfold State.retracted
  split
  · exact h
  · exact State.carryFeedChoice_quiet h
  · exact h

theorem State.pushFaulted_news (s : State) : News s.pushFaulted s := by
  unfold State.pushFaulted
  split
  · exact s.jamFeed_news
  · exact s.pushAnswered_news

theorem State.retractFaulted_quiet (h : Quiet c o s) : Quiet c o s.retractFaulted := by
  unfold State.retractFaulted
  split
  · exact s.jamRetract_news.quiet h
  · exact State.carryFeedChoice_quiet h
  · exact h

theorem State.outputInserted_quiet (h : Quiet c o s) (he : s.isEnd = true) : Quiet c o s.outputInserted := by
  unfold State.outputInserted
  split
  · refine ⟨{ h.1 with output := fun k => ?_ }, h.2⟩
    rw [State.isEnd, h.straps] at he
    exact absurd (he.symm.trans k) (by decide)
  · exact State.insertOutput_quiet h he

theorem State.outputRemoved_quiet (h : Quiet c o s) : Quiet c o s.outputRemoved := by
  unfold State.outputRemoved
  dsimp only
  split
  · exact (State.jamWindow_news _).quiet h
  · exact h

theorem State.scanned_quiet (h : Quiet c o s) : Quiet c o s.scanned := by
  unfold State.scanned
  split
  · exact (State.scanSlot_news _ _).quiet h
  · exact h

theorem State.unloadReady_quiet (h : Quiet c o s) : Quiet c o s.unloadReady := by
  unfold State.unloadReady
  split
  · exact (State.request_news _ .beltOut (.axis .b) .belt rfl).quiet ((s.stripClampReq_news false).quiet h)
  · exact h

theorem State.elevated_bounded {u : Use} (h : Quiet c o s) : Bounded c o (s.elevated u) := by
  unfold State.elevated
  split
  · exact State.homingAnswered_bounded h
  · exact (State.searched_quiet h).bounded
  · exact (State.retried_quiet h).bounded
  · exact (State.scanned_quiet h).bounded
  · exact (State.unloadReady_quiet h).bounded
  · exact h.bounded

theorem State.elevatorFaulted_bounded {u : Use} (h : Quiet c o s) : Bounded c o (s.elevatorFaulted u) := by
  unfold State.elevatorFaulted
  split
  · exact State.homingAnswered_bounded h
  · exact (s.jamFeed_news.quiet h).bounded
  · exact (s.jamFeed_news.quiet h).bounded
  · split
    · exact (s.endScan_news.quiet h).bounded
    · exact h.bounded
  · split
    · exact (s.jamWindow_news.quiet h).bounded
    · exact h.bounded
  · exact h.bounded

/-! ### The pull cycle and the record port (chapters 8 and 9) -/

theorem State.pullPositioned_quiet (h : Quiet c o s) : Quiet c o s.pullPositioned := by
  unfold State.pullPositioned
  split
  · exact h
  · split
    · refine State.allDone_quiet h ?_
      split
      · exact (State.moveTable_news _ _ _).quiet h
      · exact h
    · exact State.allDone_quiet h ((State.move_news _ _ _ _ _).quiet h)
    · exact h

theorem State.endRise_quiet {m : Sample} {n : Nat} {v : Verdict} (h : Quiet c o s) : Quiet c o (s.endRise m n v) := by
  have k : Quiet c o ((s.count .pullsMade).countIf (v == .low) .pullsLow) :=
    State.countIf_quiet (s := s.count .pullsMade) h
  exact (State.move_news _ _ _ _ _).quiet ((State.offerPlaces_news _).quiet k)

theorem State.takeForce_quiet {f : Nat} (h : Quiet c o s) : Quiet c o (s.takeForce f) := by
  unfold State.takeForce
  split
  · exact h
  · split
    · dsimp only
      split
      · exact State.endRise_quiet h
      · exact h
    · exact h

theorem State.riseDone_quiet (h : Quiet c o s) : Quiet c o s.riseDone := by
  unfold State.riseDone
  split
  · exact h
  · split
    · exact State.endRise_quiet h
    · exact h

theorem State.advancePos_news (s : State) : News s.advancePos s := by
  unfold State.advancePos
  split
  · split
    · exact s.needBlock_news _
    · exact .refl s
  · exact .refl s

/-- A written entry only raises the newest record number (R153). -/
theorem State.entryWritten_quiet {e : LogEntry} (h : Quiet c o s) : Quiet c o (s.entryWritten e) := by
  have k0 (n : Nat) (hn : s.log.newest ≤ n) : Quiet c o { s with log.newest := n } := by
    refine ⟨{ h.1 with numbers := fun k => ?_ }, h.2⟩
    obtain ⟨hp, hl, he⟩ := h.1.numbers k
    exact ⟨hp, hl.trans hn, he⟩
  have k : Quiet c o { s with log.newest := match e with | .record _ => s.log.newest + 1 | .mark _ => s.log.newest } := by
    cases e with
    | record r => exact k0 _ (Nat.le_succ _)
    | mark n => exact k0 _ le_rfl
  unfold State.entryWritten
  extract_lets x s1
  have h1 : Quiet c o s1 := (State.advancePos_news _).quiet k
  refine Quiet.askPort ((State.offerPlaces_news _).quiet ?_)
  split
  · exact s1.setFull_news.quiet h1
  · exact h1

theorem Quiet.headers (hc : Kept.blockHeaders ∈ c.mayChange) (h : Quiet c o s) (x : List (Option (Nat × Nat))) :
    Quiet c o { s with log.headers := x } :=
  ⟨{ h.1 with headers := fun k => absurd hc k }, h.2⟩

theorem State.headerWritten_quiet (hc : Kept.blockHeaders ∈ c.mayChange) {b : Nat} (h : Quiet c o s) :
    Quiet c o (s.headerWritten b) :=
  h.headers hc _

theorem State.clearFull_news (s : State) : News s.clearFull s := by
  unfold State.clearFull
  split
  · exact (State.offerPlaces_news _).trans (State.clearAlarm_news { s with log.full := false } _)
  · exact .refl s

theorem State.erased_quiet (hc : Kept.blockHeaders ∈ c.mayChange) {b : Nat} (h : Quiet c o s) :
    Quiet c o (s.erased b) := by
  have k : Quiet c o { s with log.headers := s.log.headers.set b none } := h.headers hc _
  unfold State.erased
  dsimp only
  split
  · exact (State.clearFull_news _).quiet k
  · exact k

theorem State.slotRead_quiet {b n : Nat} {bs : List Byte} (h : Quiet c o s) : Quiet c o (s.slotRead b n bs) := by
  unfold State.slotRead
  dsimp only
  split
  · split
    · split
      · split
        · exact (State.answerRead_news _ _).quiet h
        · exact h
      · exact h
    · exact h
  · exact h

end
end Sys2Proof.Machine

namespace Sys2Proof.Machine

section
variable {c : Instr} {o s : State}

/-! ### The operator's keys (chapter 11) -/

theorem State.buzz_news (s : State) : News s.buzz s := s.issue_news _ rfl

theorem State.sendTo_bounded {n : Nat} {done own : State → State} {f : Frame} (h : Quiet c o s)
    (hd : ∀ t, t.hasPanel = s.hasPanel → Quiet c o t → Quiet c o (done t))
    (ho : ∀ t, Quiet c o t → Bounded c o (own t)) : Bounded c o (s.sendTo n done own f) := by
  unfold State.sendTo
  split
  · exact ho _ (hd _ rfl h)
  · split
    · exact (s.buzz_news.quiet h).bounded
    · exact ((State.submit_news _ _ _).quiet (hd _ rfl h)).bounded

theorem State.toggleHold_bounded (hc : Kept.holdSet ∈ c.mayChange) (h : Quiet c o s) : Bounded c o s.toggleHold := by
  unfold State.toggleHold
  split
  · exact (State.queueBeacon_news _).bounded ((State.submit_news _ _ _).bounded (State.dropHold_bounded hc h))
  · exact (State.queueBeacon_news _).bounded ((State.submit_news _ _ _).bounded (State.addHold_bounded hc h))

/-- Absence may change the presence table and the hold set (R170, R190). -/
theorem State.becomeAbsent_bounded (hc : Kept.holdSet ∈ c.mayChange) (hp : ∃ m p, c = .presenceTimeout m p) {n : Nat}
    (h : Quiet c o s) : Bounded c o (s.becomeAbsent n) := by
  unfold State.becomeAbsent
  split
  · obtain ⟨m, p, rfl⟩ := hp
    have k : Quiet (.presenceTimeout m p) o { s with line.peers := s.line.peers.set (n - 1) ⟨false, none⟩ } :=
      ⟨{ h.1 with peers := fun _ e => absurd rfl (e m p) }, h.2⟩
    exact (State.panelAbsent_news _ _).bounded (State.dropHold_bounded hc k)
  · exact h.bounded

section Keys
variable (hp : s.hasPanel = true)
include hp

theorem State.onPanel_quiet {f : Panel → Panel} (h : Quiet c o s) : Quiet c o (s.onPanel f) := h.panel hp _

theorem State.overlayMove_quiet {b : Bool} (h : Quiet c o s) : Quiet c o (s.overlayMove b) := by
  unfold State.overlayMove
  split
  · split
    · exact State.onPanel_quiet hp h
    · exact s.buzz_news.quiet h
  · exact s.buzz_news.quiet h

theorem State.overlayDigit_quiet {d : Nat} (h : Quiet c o s) : Quiet c o (s.overlayDigit d) := by
  unfold State.overlayDigit
  split
  · split
    · exact State.onPanel_quiet hp h
    · exact s.buzz_news.quiet h
  · exact s.buzz_news.quiet h

theorem State.overlayEnter_bounded (hc : Kept.bypass ∈ c.mayChange) (h : Quiet c o s) : Bounded c o s.overlayEnter := by
  unfold State.overlayEnter
  split
  · exact State.sendTo_bounded h (fun t e k => (t.panelChange_news _ (e.trans hp)).quiet k)
      fun t k => State.respond_bounded (fun _ => hc) k
  · exact (s.buzz_news.quiet h).bounded

theorem State.overlayKey_bounded {k : Key} (hc : k = .enter → Kept.bypass ∈ c.mayChange) (h : Quiet c o s) :
    Bounded c o (s.overlayKey k) := by
  unfold State.overlayKey
  split
  · exact (State.overlayMove_quiet hp h).bounded
  · exact (State.overlayMove_quiet hp h).bounded
  · exact (State.overlayDigit_quiet hp h).bounded
  · exact State.overlayEnter_bounded hp (hc rfl) h
  · exact ((s.panelChange_news _ hp).quiet h).bounded
  · exact (s.buzz_news.quiet h).bounded

theorem State.pushScreen_quiet {x : Screen} (h : Quiet c o s) : Quiet c o (s.pushScreen x) := by
  unfold State.pushScreen
  split
  · exact State.onPanel_quiet hp h
  · exact s.buzz_news.quiet h

theorem State.popScreen_quiet (h : Quiet c o s) : Quiet c o s.popScreen := by
  unfold State.popScreen
  split
  · exact State.onPanel_quiet hp h
  · split
    · exact s.buzz_news.quiet h
    · exact State.onPanel_quiet hp h

theorem State.menuItem_quiet {d : Nat} (h : Quiet c o s) : Quiet c o (s.menuItem d) := by
  unfold State.menuItem
  split
  · exact State.pushScreen_quiet hp h
  · split
    · exact State.onPanel_quiet hp h
    · split
      · exact State.onPanel_quiet hp h
      · split
        · exact State.onPanel_quiet hp h
        · exact s.buzz_news.quiet h

theorem State.menuDigit_quiet {d : Nat} (h : Quiet c o s) : Quiet c o (s.menuDigit d) := by
  unfold State.menuDigit
  split
  · split
    · exact State.onPanel_quiet hp h
    · exact s.buzz_news.quiet h
  · split
    · exact State.onPanel_quiet hp h
    · exact s.buzz_news.quiet h
  · exact s.buzz_news.quiet h
  · exact State.menuItem_quiet hp h

theorem State.menuEnter_bounded (hb : Kept.bypass ∈ c.mayChange) (hs : Kept.snapshot ∈ c.mayChange)
    (h : Quiet c o s) : Bounded c o s.menuEnter := by
  have clear (t : State) (e : t.hasPanel = s.hasPanel) (k : Quiet c o t) : Quiet c o t.clearBuffer :=
    State.onPanel_quiet (e.trans hp) k
  unfold State.menuEnter
  split
  · exact State.sendTo_bounded h clear fun _ k => (State.setBypass_quiet hb k).bounded
  · exact State.sendTo_bounded h clear fun _ k => (State.clearBypass_quiet hb k).bounded
  · exact (State.snapshot_quiet hs (clear s rfl h)).bounded
  · exact (s.buzz_news.quiet h).bounded

theorem State.gradeMove_quiet {b : Bool} (h : Quiet c o s) : Quiet c o (s.gradeMove b) := by
  unfold State.gradeMove
  split
  · split
    · exact State.onPanel_quiet hp h
    · exact s.buzz_news.quiet h
  · exact s.buzz_news.quiet h

theorem State.gradeDigit_quiet {d : Nat} (h : Quiet c o s) : Quiet c o (s.gradeDigit d) := by
  unfold State.gradeDigit
  split
  · split
    · exact State.onPanel_quiet hp h
    · exact s.buzz_news.quiet h
  · exact s.buzz_news.quiet h

theorem State.gradeEnter_bounded (h : Quiet c o s) : Bounded c o s.gradeEnter := by
  unfold State.gradeEnter
  split
  · split
    · exact State.sendTo_bounded h (fun _ e k => State.onPanel_quiet (e.trans hp) k)
        fun t k => ((t.gradeEntry_news _ _).quiet k).bounded
    · exact ((State.buzz_news _).quiet (State.onPanel_quiet hp h)).bounded
  · exact (s.buzz_news.quiet h).bounded

/-- What ENTER alone may change: the bypass flag and the snapshot (R169, R178, R197). -/
theorem State.screenKey_bounded {k : Key} (hb : k = .enter → Kept.bypass ∈ c.mayChange)
    (hs : k = .enter → Kept.snapshot ∈ c.mayChange) (h : Quiet c o s) : Bounded c o (s.screenKey k) := by
  have scroll (b : Bool) : Bounded c o (s.scrollScreen b) := (State.onPanel_quiet hp h).bounded
  unfold State.screenKey
  split
  · exact (State.pushScreen_quiet hp h).bounded
  · exact (State.popScreen_quiet hp h).bounded
  · exact (State.menuDigit_quiet hp h).bounded
  · exact State.menuEnter_bounded hp (hb rfl) (hs rfl) h
  · exact (State.gradeDigit_quiet hp h).bounded
  · exact State.gradeEnter_bounded hp h
  · exact (State.gradeMove_quiet hp h).bounded
  · exact (State.gradeMove_quiet hp h).bounded
  · exact scroll true
  · exact scroll true
  · exact scroll true
  · exact scroll false
  · exact scroll false
  · exact scroll false
  · exact (s.buzz_news.quiet h).bounded

/-- An accepted key: HOLD may change the hold set, ENTER the bypass flag and the snapshot, no key anything else. -/
theorem State.acceptKey_bounded {k : Key} (hh : k = .hold → Kept.holdSet ∈ c.mayChange)
    (hb : k = .enter → Kept.bypass ∈ c.mayChange) (hs : k = .enter → Kept.snapshot ∈ c.mayChange)
    (h : Quiet c o s) : Bounded c o (s.acceptKey k) := by
  have h1 : Quiet c o (s.onPanel fun p => { p with accepted := some k, idleMs := 0 }) := State.onPanel_quiet hp h
  unfold State.acceptKey State.takeKey
  split
  · exact (State.onPanel_quiet (s := s.onPanel _) hp h1).bounded
  · split
    · exact h1.bounded
    · split
      · next hk => exact State.toggleHold_bounded (hh hk) h1
      · split
        · exact State.overlayKey_bounded (s := s.onPanel _) hp hb h1
        · exact State.screenKey_bounded (s := s.onPanel _) hp hb hs h1

theorem State.scanKeys_bounded {x : Scan} (hh : Kept.holdSet ∈ c.mayChange) (hb : Kept.bypass ∈ c.mayChange)
    (hs : Kept.snapshot ∈ c.mayChange) (h : Quiet c o s) : Bounded c o (s.scanKeys x) := by
  have h1 : Quiet c o (s.onPanel fun p => p.scan x) := State.onPanel_quiet hp h
  have h2 : Bounded c o (s.onPanel fun p => p.scan x).standbyTest := ((State.standbyTest_news _).quiet h1).bounded
  unfold State.scanKeys
  dsimp only
  split
  · split
    · exact State.acceptKey_bounded (s := s.onPanel _) hp (fun _ => hh) (fun _ => hb) (fun _ => hs) h1
    · exact h2
  · split
    · exact ((State.standbyTest_news _).quiet (State.onPanel_quiet (s := s.onPanel _) hp h1)).bounded
    · exact h2
  · exact h2

theorem State.reopen_quiet {w : PanelEntry → Bool} (h : Quiet c o s) : Quiet c o (s.reopen w) := by
  unfold State.reopen
  split
  · exact (s.panelChange_news _ hp).quiet h
  · exact h

end Keys

/-- A key row: HOLD may change the hold set, ENTER the bypass flag and the snapshot. -/
theorem pressKey_answers {k : Key} (p : Pins) (hh : k = .hold → Kept.holdSet ∈ c.mayChange)
    (hb : k = .enter → Kept.bypass ∈ c.mayChange) (hs : k = .enter → Kept.snapshot ∈ c.mayChange) :
    Answers c s (keyEvent s p fun t => t.pressKey k) := by
  refine keyEvent_answers p fun t hp h => ?_
  unfold State.pressKey
  rw [if_pos hp]
  exact State.acceptKey_bounded (s := t.onPanel _) hp hh hb hs (State.onPanel_quiet hp h)

/-! ### Every command but a hardware reset -/

/-- A frame that only its kind's owner acts on, quietly. -/
theorem receive_quiet_answers {f : State → State} (h : Hdr) (p : Pins)
    (hf : ∀ t, Quiet c s t → Quiet c s (f t))
    (hc : c.header ≠ none := by simp [Instr.header]) : Answers c s (receive s h p f) :=
  receive_answers h p (fun t _ k => (hf t k).bounded) hc

theorem event_quiet_answers {f : State → State} (p : Pins) (hf : ∀ t, Quiet c s t → Quiet c s (f t)) :
    Answers c s (event s p f) :=
  event_answers p fun t _ k => (hf t k).bounded

/-- A guarded event: outside its guard nothing happens. -/
theorem Quiet.guard {q : Prop} [Decidable q] {t : State} (h : Quiet c o s) (ht : q → Quiet c o t) :
    Quiet c o (if q then t else s) := by
  split
  · exact ht ‹_›
  · exact h

theorem State.whenRunning_quiet {f : State → State} (h : Quiet c o s) (hf : Quiet c o (f s)) :
    Quiet c o (s.whenRunning f) := h.guard fun _ => hf

end

/-- Frames of stations and panels stay within their bounds. -/
theorem exec_beacon_answers (h : Hdr) (bs : List Byte) (p : Pins) (s : State) :
    Answers (.beacon h bs p) s (exec (.beacon h bs p) s) := by
  change Answers _ _ (execBeacon h bs p s)
  unfold execBeacon
  split
  · refine receiveWith_answers h p (fun t k => ?_) (fun _ => rfl) fun t _ k =>
      State.takeBeacon_bounded (by simp [Instr.mayChange]) k
    exact k.heard (by simp [Instr.header]) _ t.line.lastRefusal t.dup
  · exact receive_quiet_answers h p fun _ k => k

theorem Quiet.locked {c : Instr} {o s : State} (hc : Kept.lockSense ∈ c.mayChange) (h : Quiet c o s) (x : Head) :
    Quiet c o { s with head := x } :=
  ⟨{ h.1 with locked := fun k => absurd hc k }, h.2⟩

/-- Every command but a hardware reset stays within its bounds and empties the agenda. -/
theorem exec_answers (c : Instr) (s : State) (hc : ∀ x p, c ≠ .hardwareReset x p) : Answers c s (exec c s) := by
  cases c with
  | hardwareReset x p => exact absurd rfl (hc x p)
  | listenEnd p =>
    show Answers _ _ (execListenEnd p s)
    exact event_quiet_answers p fun _ => State.endListen_quiet
  | restart h p =>
    show Answers _ _ (execRestart h p s)
    exact request_answers h p fun t _ k => by
      split
      · exact State.restart_quiet (by simp [Instr.header]) (by simp [Instr.mayChange]) (by simp [Instr.mayChange]) k
      · exact State.refuse_quiet (by simp [Instr.header]) k
  | beacon h bs p => exact exec_beacon_answers h bs p s
  | offer h n p =>
    show Answers _ _ (execOffer h n p s)
    exact receive_quiet_answers h p fun t k => by
      split
      · exact k
      · exact fromUpstream_quiet k (State.answerOffer_quiet k)
  | take h n p =>
    show Answers _ _ (execTake h n p s)
    exact receive_quiet_answers h p fun _ k => fromDownstream_quiet k (State.takeTake_quiet k)
  | decline h n r p =>
    show Answers _ _ (execDecline h n r p s)
    exact receive_quiet_answers h p fun _ k => fromDownstream_quiet k (State.takeDecline_quiet k)
  | stripRecord h bs p =>
    show Answers _ _ (execStripRecord h bs p s)
    exact receive_quiet_answers h p fun _ k =>
      k.guard fun _ => fromUpstream_quiet k (State.takeRecord_quiet (by simp [Instr.mayChange]) k)
  | alarm h q kd n u w p =>
    show Answers _ _ (execAlarm h q kd n u w p s)
    exact receive_quiet_answers h p fun t k => by
      split
      · exact (t.panelAlarm_news _ _ _ _).quiet k
      · exact k
  | settled h q kd ch r p =>
    show Answers _ _ (execSettled h q kd ch r p s)
    exact receive_quiet_answers h p fun t k => (t.panelSettled_news _ _).quiet k
  | retry h n q p =>
    show Answers _ _ (execRetry h n q p s)
    exact response_answers h p nofun
  | skipUnit h n q p =>
    show Answers _ _ (execSkipUnit h n q p s)
    exact response_answers h p nofun
  | passStrip h n q p =>
    show Answers _ _ (execPassStrip h n q p s)
    exact response_answers h p fun _ => by simp [Instr.mayChange]
  | resume h n q p =>
    show Answers _ _ (execResume h n q p s)
    exact response_answers h p nofun
  | continue_ h n q p =>
    show Answers _ _ (execContinue h n q p s)
    exact response_answers h p nofun
  | forward h n q p =>
    show Answers _ _ (execForward h n q p s)
    exact response_answers h p nofun
  | grade h n r m p =>
    show Answers _ _ (execGrade h n r m p s)
    exact receive_quiet_answers h p fun t k => k.guard fun _ => (t.gradeEntry_news _ _).quiet k
  | hold h n p =>
    show Answers _ _ (execHold h n p s)
    exact receive_answers h p fun t _ k => by
      split
      · exact State.addHold_bounded (by simp [Instr.mayChange]) k
      · exact k.bounded
  | release h n p =>
    show Answers _ _ (execRelease h n p s)
    exact receive_answers h p fun t _ k => by
      split
      · exact State.dropHold_bounded (by simp [Instr.mayChange]) k
      · exact k.bounded
  | bypass h n p =>
    show Answers _ _ (execBypass h n p s)
    exact receive_quiet_answers h p fun _ k =>
      k.guard fun _ => State.setBypass_quiet (by simp [Instr.mayChange]) k
  | resumeBonding h n p =>
    show Answers _ _ (execResumeBonding h n p s)
    exact receive_quiet_answers h p fun _ k =>
      k.guard fun _ => State.clearBypass_quiet (by simp [Instr.mayChange]) k
  | recipeSegment h bs p =>
    show Answers _ _ (execRecipeSegment h bs p s)
    exact request_answers h p fun t ht k => by
      split
      · exact k
      · split
        · exact State.refuse_quiet (by simp [Instr.header]) k
        · exact State.acceptSegment_quiet (by simp [Instr.mayChange]) ht k
  | recipeActivate h g r p =>
    show Answers _ _ (execRecipeActivate h g r p s)
    exact request_answers h p fun _ ht k => State.activate_quiet (by simp [Instr.header]) ht k
  | tallySnapshot h m p =>
    show Answers _ _ (execTallySnapshot h m p s)
    exact request_answers h p fun t _ k => by
      have hs (b : Bool) : Quiet (.tallySnapshot h m p) s (t.snapshot b) :=
        State.snapshot_quiet (by simp [Instr.mayChange]) k
      split
      · exact hs false
      · split
        · exact hs true
        · exact State.refuse_quiet (by simp [Instr.header]) k
  | tallyRead h p =>
    show Answers _ _ (execTallyRead h p s)
    exact request_answers h p fun t _ k => (t.reply_news _ _).quiet k
  | pullRead h n m p =>
    show Answers _ _ (execPullRead h n m p s)
    exact request_answers h p fun _ _ k => State.pullRead_quiet (by simp [Instr.header]) k
  | collected h n m p =>
    show Answers _ _ (execCollected h n m p s)
    exact request_answers h p fun _ _ k => State.collect_quiet (by simp [Instr.header]) k
  | skipSlots h n m p =>
    show Answers _ _ (execSkipSlots h n m p s)
    exact request_answers h p fun _ _ k => State.skipSlots_quiet (by simp [Instr.header]) k
  | magazineRead h p =>
    show Answers _ _ (execMagazineRead h p s)
    exact request_answers h p fun _ _ k => State.readMagazine_quiet (by simp [Instr.header]) k
  | errorDetail h p =>
    show Answers _ _ (execErrorDetail h p s)
    exact request_answers h p fun t _ k => (t.reply_news _ _).quiet k
  | discardedFrame h p =>
    show Answers _ _ (execDiscardedFrame h p s)
    exact receive_quiet_answers h p fun _ k => k
  | badFrame p =>
    show Answers _ _ (execBadFrame p s)
    exact event_quiet_answers p fun _ k => k
  | quietGapExpiry p =>
    show Answers _ _ (execQuietGapExpiry p s)
    exact event_quiet_answers p fun _ => State.startSend_quiet
  | readbackMismatch p =>
    show Answers _ _ (execReadbackMismatch p s)
    exact event_quiet_answers p fun _ => State.mismatch_quiet (by simp [Instr.mayChange])
  | frameSent p =>
    show Answers _ _ (execFrameSent p s)
    exact event_quiet_answers p fun _ => State.sent_quiet
  | presenceTimeout n p =>
    show Answers _ _ (execPresenceTimeout n p s)
    exact event_answers p fun t _ k => by
      split
      · exact State.becomeAbsent_bounded (by simp [Instr.mayChange]) ⟨n, p, rfl⟩ k
      · exact k.bounded
  | beaconTimerExpiry p =>
    show Answers _ _ (execBeaconTimerExpiry p s)
    exact event_quiet_answers p fun t k => k.guard fun _ => t.placeBeacon_news'.quiet k
  | homingMoveDone a p =>
    show Answers _ _ (execHomingMoveDone a p s)
    exact State.onAxis_answers p fun _ => State.homingAnswered_bounded
  | positioningMoveDone a p =>
    show Answers _ _ (execPositioningMoveDone a p s)
    exact State.onAxis_answers p fun _ k => (State.positioned_quiet k).bounded
  | contact n p =>
    show Answers _ _ (execContact n p s)
    exact State.onAxis_answers p fun _ k => Quiet.bounded (State.wireStep_quiet k nofun nofun)
  | searchLimitReached p =>
    show Answers _ _ (execSearchLimitReached p s)
    exact State.onAxis_answers p fun _ k => (State.holdFor_quiet k).bounded
  | ballDownDone p =>
    show Answers _ _ (execBallDownDone p s)
    exact State.onAxis_answers p fun _ => State.wireStep_bounded
  | loopingMoveDone a p =>
    show Answers _ _ (execLoopingMoveDone a p s)
    exact State.onAxis_answers p fun _ k => (State.looped_quiet k).bounded
  | stitchDownDone p =>
    show Answers _ _ (execStitchDownDone p s)
    exact State.onAxis_answers p fun _ => State.wireStep_bounded
  | tailMoveDone p =>
    show Answers _ _ (execTailMoveDone p s)
    exact event_quiet_answers p fun _ k => State.onAnswer_quiet k fun u t kt => by
      split
      · exact State.endClearing_quiet kt
      · exact State.tailMoved_quiet kt
  | wireClampDone p =>
    show Answers _ _ (execWireClampDone p s)
    exact event_quiet_answers p fun _ k => State.onAnswer_quiet k fun _ _ => State.clamped_quiet
  | stripClampDone p =>
    show Answers _ _ (execStripClampDone p s)
    exact event_quiet_answers p fun _ k => State.onAnswer_quiet k fun _ _ kt => kt
  | conditioningMoveDone a p =>
    show Answers _ _ (execConditioningMoveDone a p s)
    exact State.onAxis_answers p fun _ k => (State.conditioned_quiet k).bounded
  | driveFault a p =>
    show Answers _ _ (execDriveFault a p s)
    exact event_quiet_answers p fun _ k => k.guard fun _ => State.axisFault_quiet k
  | transducerSample v i p =>
    show Answers _ _ (execTransducerSample v i p s)
    exact event_quiet_answers p fun _ => State.takeSample_quiet
  | lock p =>
    show Answers _ _ (execLock p s)
    exact event_quiet_answers p fun _ k => k.locked (by simp [Instr.mayChange]) _
  | unlock p =>
    show Answers _ _ (execUnlock p s)
    exact event_quiet_answers p fun _ k => k.locked (by simp [Instr.mayChange]) _
  | sparkOk p =>
    show Answers _ _ (execSparkOk p s)
    exact event_quiet_answers p fun _ k => State.onAnswer_quiet k fun _ t kt => by
      split
      · exact State.cycleSparked_quiet kt
      · exact State.completeWire_quiet kt
  | sparkOpen p =>
    show Answers _ _ (execSparkOpen p s)
    exact event_quiet_answers p fun _ k => State.onAnswer_quiet k fun _ t kt => by
      split <;> exact State.holdFor_quiet kt
  | wirePresentFalls p =>
    show Answers _ _ (execWirePresentFalls p s)
    exact event_quiet_answers p fun _ k => k
  | stripInRises p =>
    show Answers _ _ (execStripInRises p s)
    exact event_quiet_answers p fun _ k => State.whenRunning_quiet k (State.stripIn_quiet k)
  | stripOutClears p =>
    show Answers _ _ (execStripOutClears p s)
    exact event_quiet_answers p fun _ k => State.whenRunning_quiet k (State.stripOutClear_quiet k)
  | offerTimerExpiry p =>
    show Answers _ _ (execOfferTimerExpiry p s)
    exact event_quiet_answers p fun t k => k.guard fun _ => t.endOffer_news.quiet k
  | arrivalTimerExpiry p =>
    show Answers _ _ (execArrivalTimerExpiry p s)
    exact event_quiet_answers p fun _ k =>
      k.guard fun _ => State.arrivalExpired_quiet (by simp [Instr.mayChange]) k
  | exitTimerExpiry p =>
    show Answers _ _ (execExitTimerExpiry p s)
    exact event_quiet_answers p fun t k => k.guard fun _ => t.jamWindow_news.quiet k
  | beltDone p =>
    show Answers _ _ (execBeltDone p s)
    exact State.onAxis_answers p fun _ k => k.bounded
  | beltFault p =>
    show Answers _ _ (execBeltFault p s)
    exact State.onAxis_answers p fun t k => (t.beltFaulted_news.quiet k).bounded
  | inputMagInserted p =>
    show Answers _ _ (execInputMagInserted p s)
    exact event_quiet_answers p fun t k => k.guard fun hf => State.whenRunning_quiet k (State.insertInput_quiet k hf)
  | inputMagRemoved p =>
    show Answers _ _ (execInputMagRemoved p s)
    exact event_quiet_answers p fun t k => k.guard fun _ => State.whenRunning_quiet k (t.removeInput_news.quiet k)
  | outputMagInserted p =>
    show Answers _ _ (execOutputMagInserted p s)
    exact event_quiet_answers p fun t k => k.guard fun he => State.whenRunning_quiet k (State.outputInserted_quiet k he)
  | outputMagRemoved p =>
    show Answers _ _ (execOutputMagRemoved p s)
    exact event_quiet_answers p fun t k => k.guard fun _ => State.whenRunning_quiet k (State.outputRemoved_quiet k)
  | elevatorDone p =>
    show Answers _ _ (execElevatorDone p s)
    exact event_answers p fun _ _ k => State.onAnswer_bounded k fun _ _ => State.elevated_bounded
  | elevatorFault p =>
    show Answers _ _ (execElevatorFault p s)
    exact event_answers p fun _ _ k => State.onAnswer_bounded k fun _ _ => State.elevatorFaulted_bounded
  | pusherDone p =>
    show Answers _ _ (execPusherDone p s)
    exact event_quiet_answers p fun _ k => State.onAnswer_quiet k fun _ t kt => by
      split
      · exact t.pushAnswered_news.quiet kt
      · exact State.retracted_quiet kt
  | pusherFault p =>
    show Answers _ _ (execPusherFault p s)
    exact event_quiet_answers p fun _ k => State.onAnswer_quiet k fun _ t kt => by
      split
      · exact t.pushFaulted_news.quiet kt
      · exact State.retractFaulted_quiet kt
  | feedTimerExpiry p =>
    show Answers _ _ (execFeedTimerExpiry p s)
    exact event_quiet_answers p fun t k => k.guard fun _ => t.jamFeed_news.quiet k
  | slotSenseRises p =>
    show Answers _ _ (execSlotSenseRises p s)
    exact event_quiet_answers p fun _ k => k.guard fun _ => State.fillSlot_quiet k
  | unloadTimerExpiry p =>
    show Answers _ _ (execUnloadTimerExpiry p s)
    exact event_quiet_answers p fun t k => k.guard fun _ => t.jamWindow_news.quiet k
  | pullPositioningDone a p =>
    show Answers _ _ (execPullPositioningDone a p s)
    exact State.onAxis_answers p fun _ k => (State.pullPositioned_quiet k).bounded
  | forceSample f p =>
    show Answers _ _ (execForceSample f p s)
    exact event_quiet_answers p fun _ => State.takeForce_quiet
  | hookRiseDone p =>
    show Answers _ _ (execHookRiseDone p s)
    exact State.onAxis_answers p fun _ k => (State.riseDone_quiet k).bounded
  | hookReturnDone p =>
    show Answers _ _ (execHookReturnDone p s)
    exact State.onAxis_answers p fun _ k => (State.nextPlanWire_quiet k).bounded
  | entryWriteDone p =>
    show Answers _ _ (execEntryWriteDone p s)
    exact portEvent_answers p fun t k => by
      split
      · exact State.entryWritten_quiet k
      · exact k
  | headerWriteDone p =>
    show Answers _ _ (execHeaderWriteDone p s)
    exact portEvent_answers p fun t k => by
      split
      · exact State.headerWritten_quiet (by simp [Instr.mayChange]) k
      · exact k
  | eraseDone p =>
    show Answers _ _ (execEraseDone p s)
    exact portEvent_answers p fun t k => by
      split
      · exact State.erased_quiet (by simp [Instr.mayChange]) k
      · exact k
  | pullReadSlotDone bs p =>
    show Answers _ _ (execPullReadSlotDone bs p s)
    exact portEvent_answers p fun t k => by
      split
      · split
        · exact k
        · exact State.slotRead_quiet k
      · exact k
  | scanReadDone a p =>
    show Answers _ _ (execScanReadDone a p s)
    exact event_quiet_answers p fun _ k => k.guard fun hp =>
      State.scanAnswer_quiet (by simp [Instr.mayChange]) (by simp [Instr.mayChange]) k (by simp [hp])
  | storeAnswerTimeout p =>
    show Answers _ _ (execStoreAnswerTimeout p s)
    exact event_quiet_answers p fun _ k => k.guard fun hp =>
      State.noStore_quiet (by simp [Instr.mayChange]) (by simp [Instr.mayChange]) k (by simp [hp.1])
  | keyScan x p =>
    show Answers _ _ (execKeyScan x p s)
    exact keyEvent_answers p fun _ hp k => State.scanKeys_bounded hp (by simp [Instr.mayChange])
      (by simp [Instr.mayChange]) (by simp [Instr.mayChange]) k
  | keyRelease p =>
    show Answers _ _ (execKeyRelease p s)
    exact keyEvent_answers p fun _ hp k => (State.onPanel_quiet hp k).bounded
  | holdKey p =>
    show Answers _ _ (execHoldKey p s)
    exact pressKey_answers p (fun _ => by simp [Instr.mayChange]) nofun nofun
  | menuKey p =>
    show Answers _ _ (execMenuKey p s)
    exact pressKey_answers p nofun nofun nofun
  | backKey p =>
    show Answers _ _ (execBackKey p s)
    exact pressKey_answers p nofun nofun nofun
  | upKey p =>
    show Answers _ _ (execUpKey p s)
    exact pressKey_answers p nofun nofun nofun
  | downKey p =>
    show Answers _ _ (execDownKey p s)
    exact pressKey_answers p nofun nofun nofun
  | digitKey d p =>
    show Answers _ _ (execDigitKey d p s)
    exact pressKey_answers p nofun nofun nofun
  | enterKey p =>
    show Answers _ _ (execEnterKey p s)
    exact pressKey_answers p nofun (fun _ => by simp [Instr.mayChange]) fun _ => by simp [Instr.mayChange]
  | sendTimerExpiry n q p =>
    show Answers _ _ (execSendTimerExpiry n q p s)
    exact panelEvent_answers p fun _ hp k => State.reopen_quiet hp k
  | deferralTimerExpiry p =>
    show Answers _ _ (execDeferralTimerExpiry p s)
    exact panelEvent_answers p fun _ hp k => k.guard fun _ => State.reopen_quiet (s := State.onPanel _ _) hp (State.onPanel_quiet hp k)
  | standby p =>
    show Answers _ _ (execStandby p s)
    exact panelEvent_answers p fun _ hp k => (State.standbyTest_news _).quiet (State.onPanel_quiet hp k)

/-- Settles O52: every command but a hardware reset stays within its bounds. -/
theorem everyCommandKeepsItsBounds : Obligations.EveryCommandKeepsItsBounds := by
  intro c s t hc ht
  obtain ⟨⟨k, hpanel, henable⟩, hagenda, -⟩ := exec_answers c s hc t ht
  exact ⟨k.straps, k.pending, hagenda, hpanel, k.input, k.output, k.snapshot, k.peers, k.hold, k.bypass, k.headers,
    k.store, k.locked, k.badRecords, k.lineFaults, k.withdrawn, k.segments, k.dup,
    k.active.imp And.left And.right, fun h => (k.numbers h).2, fun mW m => (henable mW m).2⟩

theorem State.strapOk_iff (s : State) :
    s.strapOk = true ↔ s.phase = .strapFault ∨ within s.straps.stn 1 6 = true := by
  simp [State.strapOk]

/-- A hardware reset leaves no record, and a strap outside 1..6 is a strap fault (R192). -/
theorem State.afterReset_sound (x : Straps) (p : Pins) (q : List Instr) :
    (State.afterReset x p q).window.bondersOk = true ∧ (State.afterReset x p q).strapOk = true := by
  refine ⟨rfl, (State.strapOk_iff _).mpr ?_⟩
  unfold State.afterReset
  dsimp only
  split
  · next h => exact .inr (by simpa [within] using h)
  · exact .inl rfl

/-- Every command keeps the bonders of the window's records lawful: with a strap fault it changes none, otherwise the
strap is a lawful bonder's number. -/
theorem exec_keeps_bonders {c : Instr} {s t : State} (hb : s.window.bondersOk = true) (hs : s.strapOk = true)
    (ht : exec c s = .next t) : t.window.bondersOk = true ∧ t.strapOk = true := by
  by_cases hc : ∃ x p, c = .hardwareReset x p
  · obtain ⟨x, p, rfl⟩ := hc
    obtain rfl : State.afterReset x p s.pending = t := Host.Outcome.next.inj ht
    exact State.afterReset_sound x p s.pending
  · obtain ⟨⟨k, -, -⟩, -, hoff⟩ := exec_answers c s (fun x p e => hc ⟨x, p, e⟩) t ht
    obtain ⟨hr, hi⟩ := s.window.bondersOk_iff.mp hb
    rcases (State.strapOk_iff s).mp hs with hf | hw
    · have same := hoff hf
      have hp : t.phase = .strapFault := (congrArg Ledger.phase same).trans hf
      have er : t.window.record = s.window.record := congrArg Ledger.record same
      have ei : t.window.inbound = s.window.inbound := congrArg Ledger.inbound same
      exact ⟨t.window.bondersOk_iff.mpr ⟨er ▸ hr, ei ▸ hi⟩, (State.strapOk_iff t).mpr (.inl hp)⟩
    · obtain ⟨kw, kr, ki⟩ := k.units ⟨hw, hr, hi⟩
      exact ⟨t.window.bondersOk_iff.mpr ⟨kr, ki⟩, (State.strapOk_iff t).mpr (.inr kw)⟩

/-- Settles O56: every step keeps the bonders of the records in the window lawful. -/
theorem unitBondersStayLawful : Obligations.UnitBondersStayLawful := by
  intro s t hb hs ht
  unfold step at ht
  split at ht
  · obtain rfl : s = t := Host.Outcome.next.inj ht
    exact ⟨hb, hs⟩
  · next c rest _ => exact exec_keeps_bonders (s := { s with pending := rest }) hb hs ht

end Sys2Proof.Machine

/-! ## Layouts: what is written is read back (R13 to R15, R150, R151) -/

namespace Sys2Proof.Machine

/-! ### Bytes and fields -/

theorem beBytes_length (k n : Nat) : (beBytes k n).length = k := by
  induction k with
  | zero => rfl
  | succ k ih => simp [beBytes, ih]

theorem byteOf_toNat {n : Nat} (h : n < 256) : (byteOf n).toNat = n := by
  simpa [byteOf] using h

theorem beNat_append (as bs : List Byte) : beNat (as ++ bs) = beNat as * 256 ^ bs.length + beNat bs := by
  unfold beNat
  rw [List.foldl_append]
  generalize as.foldl (fun a b => a * 256 + b.toNat) 0 = x
  induction bs generalizing x with
  | nil => simp
  | cons b bs ih =>
    rw [List.foldl_cons, List.foldl_cons, ih (x * 256 + b.toNat), ih (0 * 256 + b.toNat), List.length_cons, pow_succ]
    ring

theorem beNat_cons (b : Byte) (bs : List Byte) : beNat (b :: bs) = b.toNat * 256 ^ bs.length + beNat bs := by
  simpa [beNat] using beNat_append [b] bs

/-- A number that fits is read back from its bytes. -/
theorem beNat_beBytes (k : Nat) {n : Nat} (h : n < 256 ^ k) : beNat (beBytes k n) = n := by
  have mod (k n : Nat) : beNat (beBytes k n) = n % 256 ^ k := by
    induction k generalizing n with
    | zero => simp [beBytes, beNat, Nat.mod_one]
    | succ k ih =>
      have hb : (byteOf (n / 256 ^ k)).toNat = n / 256 ^ k % 256 := by simp [byteOf]
      rw [beBytes, beNat_cons, beBytes_length, ih, hb, pow_succ, Nat.mod_mul]
      ring
  rw [mod, Nat.mod_eq_of_lt h]

/-- A field behind a run of bytes of known length. -/
theorem field_append_right {as : List Byte} (bs : List Byte) {o : Nat} (k : Nat) (h : as.length ≤ o) :
    field (as ++ bs) o k = field bs (o - as.length) k := by
  unfold field
  rw [List.drop_append, List.drop_eq_nil_of_le h, List.nil_append]

/-- A field inside the first of two runs of bytes. -/
theorem field_append_left (as bs : List Byte) {o k : Nat} (h : o + k ≤ as.length) :
    field (as ++ bs) o k = field as o k := by
  unfold field
  rw [List.drop_append_of_le_length (by omega), List.take_append_of_le_length (by simp; omega)]

/-- A field that is a whole run of bytes. -/
theorem field_whole (bs : List Byte) {k : Nat} (h : bs.length = k) : field bs 0 k = beNat bs := by
  unfold field
  rw [List.drop_zero, List.take_of_length_le (by omega)]

/-- The field at the front of a run of bytes. -/
theorem field_front {as : List Byte} (bs : List Byte) {k : Nat} (h : as.length = k) :
    field (as ++ bs) 0 k = beNat as := by
  rw [field_append_left as bs (by omega), field_whole as h]

/-! ### Log slots (R150, R151) -/

/-- Thirty bytes with a lawful kind and number check are judged good with their CRC behind them. -/
theorem judgeSlot_withCrc {bs : List Byte} (hl : bs.length = 30) (hk : 1 ≤ field bs 0 1 ∧ field bs 0 1 ≤ 3)
    (hs : if field bs 0 1 = 3 then field bs 9 1 = numberCheck (bs.take 9)
      else field bs 5 1 = numberCheck (bs.take 5)) :
    judgeSlot (withCrc bs) = .good (field bs 0 1) (field bs 1 4) := by
  have left (o k : Nat) (h : o + k ≤ 30) : field (withCrc bs) o k = field bs o k :=
    field_append_left bs _ (by omega)
  have take (n : Nat) (h : n ≤ 30) : (withCrc bs).take n = bs.take n := List.take_append_of_le_length (by omega)
  have crc : field (withCrc bs) 30 2 = (crc16 ((withCrc bs).take 30)).toNat := by
    rw [take 30 le_rfl, List.take_of_length_le (by omega), withCrc, field_append_right _ _ (by omega), hl,
      Nat.sub_self, field_whole _ (beBytes_length 2 _), beNat_beBytes 2 (BitVec.isLt _)]
  have len : (withCrc bs).length = 32 := by simp [withCrc, beBytes_length, hl]
  have erased : (withCrc bs == List.replicate 32 255#8) = false := by
    refine beq_false_of_ne fun e => ?_
    have h0 : field (withCrc bs) 0 1 = 255 := by
      rw [e]
      decide
    rw [left 0 1 (by omega)] at h0
    omega
  unfold judgeSlot
  simp only [erased, crc, len, left 0 1 (by omega), left 1 4 (by omega), left 9 1 (by omega), left 5 1 (by omega),
    take 9 (by omega), take 5 (by omega)]
  split at hs <;> simp_all

theorem numberCheck_lt (bs : List Byte) : numberCheck bs < 256 := by
  unfold numberCheck
  omega

/-- The number check of a run of bytes stands behind it. -/
theorem field_numberCheck {hd : List Byte} (bs : List Byte) {n : Nat} (h : hd.length = n) :
    field (hd ++ byteOf (numberCheck hd) :: bs) n 1 = numberCheck ((hd ++ byteOf (numberCheck hd) :: bs).take n) := by
  subst h
  rw [field_append_right _ _ le_rfl, Nat.sub_self, List.take_left]
  exact (field_front (as := [byteOf (numberCheck hd)]) bs rfl).trans
    (by simpa [beNat] using byteOf_toNat (numberCheck_lt hd))

/-- A slot of a kind below 3 with its number and their check in front. -/
theorem judgeSlot_numbered {k n : Nat} (bs : List Byte) (hk : k = 1 ∨ k = 2) (hn : n < 4294967296)
    (hl : bs.length = 24) :
    judgeSlot (withCrc ((byteOf k :: beBytes 4 n) ++ byteOf (numberCheck (byteOf k :: beBytes 4 n)) :: bs))
      = .good k n := by
  have len : (byteOf k :: beBytes 4 n).length = 5 := by simp [beBytes_length]
  have kind : field ((byteOf k :: beBytes 4 n) ++ byteOf (numberCheck (byteOf k :: beBytes 4 n)) :: bs) 0 1 = k := by
    rw [field_append_left _ _ (by omega)]
    refine (field_front (as := [byteOf k]) _ rfl).trans ?_
    simpa [beNat] using byteOf_toNat (n := k) (by omega)
  have number : field ((byteOf k :: beBytes 4 n) ++ byteOf (numberCheck (byteOf k :: beBytes 4 n)) :: bs) 1 4 = n := by
    rw [field_append_left _ _ (by omega)]
    exact (field_whole (beBytes 4 n) (beBytes_length 4 n)).trans (beNat_beBytes 4 hn)
  rw [judgeSlot_withCrc (by simp [beBytes_length, hl]) (by omega), kind, number]
  rw [kind, if_neg (by omega)]
  exact field_numberCheck bs len

theorem judgeSlot_pullEntry {n : Nat} (r : PullRecord) (hn : n < 4294967296) :
    judgeSlot (withCrc (pullEntryBytes n r)) = .good 1 n := by
  unfold pullEntryBytes
  simp only [List.append_assoc, List.cons_append, List.nil_append]
  exact judgeSlot_numbered _ (.inl rfl) hn (by simp [beBytes_length])

theorem judgeSlot_spanMark {n : Nat} (hn : n < 4294967296) : judgeSlot (withCrc (spanMarkBytes n)) = .good 2 n := by
  unfold spanMarkBytes
  simp only [List.append_assoc, List.cons_append, List.nil_append]
  exact judgeSlot_numbered _ (.inr rfl) hn (by simp)

theorem readHeader_header {q f : Nat} (hq : q < 4294967296) (hf : f < 4294967296) :
    readHeader (withCrc (headerBytes q f)) = some (q, f) := by
  have e : headerBytes q f = (byteOf 3 :: beBytes 4 q ++ beBytes 4 f)
      ++ byteOf (numberCheck (byteOf 3 :: beBytes 4 q ++ beBytes 4 f)) :: List.replicate 20 0 := by
    simp [headerBytes]
  have len : (byteOf 3 :: beBytes 4 q ++ beBytes 4 f).length = 9 := by simp [beBytes_length]
  have total : (headerBytes q f).length = 30 := by simp [e, beBytes_length]
  have kind : field (headerBytes q f) 0 1 = 3 := by
    rw [e]
    rfl
  have seq : field (headerBytes q f) 1 4 = q := by
    rw [e, List.append_assoc]
    exact (field_front (as := beBytes 4 q) _ (beBytes_length 4 q)).trans (beNat_beBytes 4 hq)
  have first : field (headerBytes q f) 5 4 = f := by
    rw [e, List.append_assoc, field_append_right _ _ (by simp [beBytes_length])]
    simp only [List.length_cons, beBytes_length]
    exact (field_front (as := beBytes 4 f) _ (beBytes_length 4 f)).trans (beNat_beBytes 4 hf)
  have good : judgeSlot (withCrc (headerBytes q f)) = .good 3 q := by
    rw [judgeSlot_withCrc total (by omega), kind, seq]
    rw [kind, if_pos rfl, e]
    exact field_numberCheck _ len
  have firstSlot : field (withCrc (headerBytes q f)) 5 4 = f := (field_append_left _ _ (by omega)).trans first
  simp only [readHeader, good, firstSlot]

end Sys2Proof.Machine

namespace Sys2Proof.Machine

/-! ### Strip records (R13 to R15) -/

theorem field_byte (b : Byte) (bs : List Byte) (o : Nat) (h : bs[o]? = some b) : field bs o 1 = b.toNat := by
  obtain ⟨ho, hb⟩ := List.getElem?_eq_some_iff.mp h
  unfold field
  rw [List.drop_eq_getElem_cons ho, hb]
  simp [beNat]

/-- Runs of `k` bytes for each item of a list: the run of one item is found at its place. -/
theorem drop_take_flatMap {α : Type} {f : α → List Byte} {k : Nat} (hf : ∀ a, (f a).length = k) (l : List α) (i : Nat)
    (h : i < l.length) : ((l.flatMap f).drop (k * i)).take k = f l[i] := by
  induction l generalizing i with
  | nil => cases h
  | cons a l ih =>
    rw [List.flatMap_cons]
    cases i with
    | zero => simp [← hf a]
    | succ i =>
      have e : k * (i + 1) = (f a).length + k * i := by rw [hf]; ring
      rw [e, List.drop_append, List.drop_eq_nil_of_le (by omega)]
      simpa using ih i (by simpa using h)

theorem flatMap_length {α : Type} {f : α → List Byte} {k : Nat} (hf : ∀ a, (f a).length = k) (l : List α) :
    (l.flatMap f).length = l.length * k := by
  induction l with
  | nil => simp
  | cons a l ih => simp [hf, ih, Nat.succ_mul, Nat.add_comm]

/-- The four places of the partial field (R14). -/
def partialField (ps : List (Nat × Nat)) : List (Nat × Nat) := (ps ++ List.replicate 4 (0, 0)).take 4

theorem partialField_length (ps : List (Nat × Nat)) : (partialField ps).length = 4 := by
  simp [partialField]

/-- The fixed part of a record's payload: 17 bytes. -/
def recordHead (r : StripRecord) : List Byte :=
  beBytes 4 r.serial ++ beBytes 1 r.generation ++ beBytes 2 r.run ++ beBytes 1 r.units.length
    ++ [byteOf (bitsNat [r.selected, r.taken, r.skipped])]

theorem recordHead_length (r : StripRecord) : (recordHead r).length = 9 := by simp [recordHead, beBytes_length]

theorem partialBytes_length (ps : List (Nat × Nat)) : (partialBytes ps).length = 8 :=
  (flatMap_length (k := 2) (f := fun (p : Nat × Nat) => [byteOf p.1, byteOf p.2]) (fun _ => rfl) (partialField ps)).trans
    (by rw [partialField_length])

theorem groupBytes_length (r : StripRecord) (g : Nat) : (groupBytes r g).length = 3 := beBytes_length _ _

theorem encodeRecord_eq (r : StripRecord) :
    encodeRecord r = recordHead r ++ (partialBytes r.partials ++ (List.range 12).flatMap (groupBytes r)) := by
  simp [encodeRecord, recordHead]

theorem encodeRecord_length (r : StripRecord) : (encodeRecord r).length = 53 := by
  rw [encodeRecord_eq, List.length_append, List.length_append, recordHead_length, partialBytes_length,
    flatMap_length (groupBytes_length r), List.length_range]

/-! The head's fields. -/

theorem encodeRecord_field_head (r : StripRecord) {o k : Nat} (h : o + k ≤ 9) :
    field (encodeRecord r) o k = field (recordHead r) o k := by
  rw [encodeRecord_eq, field_append_left _ _ (by rw [recordHead_length]; exact h)]

theorem encodeRecord_serial (r : StripRecord) (h : r.serial < 4294967296) :
    field (encodeRecord r) 0 4 = r.serial := by
  rw [encodeRecord_field_head r (by omega)]
  exact beNat_beBytes 4 h

theorem encodeRecord_generation (r : StripRecord) (h : r.generation < 256) :
    field (encodeRecord r) 4 1 = r.generation := by
  rw [encodeRecord_field_head r (by omega)]
  exact beNat_beBytes 1 h

theorem encodeRecord_run (r : StripRecord) (h : r.run < 65536) : field (encodeRecord r) 5 2 = r.run := by
  rw [encodeRecord_field_head r (by omega)]
  exact beNat_beBytes 2 h

theorem encodeRecord_unitCount (r : StripRecord) (h : r.units.length < 256) :
    field (encodeRecord r) 7 1 = r.units.length := by
  rw [encodeRecord_field_head r (by omega)]
  exact beNat_beBytes 1 h

theorem bit_bitsNat (a b c : Bool) :
    let n := (byteOf (bitsNat [a, b, c])).toNat
    bit n 0 = a ∧ bit n 1 = b ∧ bit n 2 = c := by
  cases a <;> cases b <;> cases c <;> decide

theorem encodeRecord_flags (r : StripRecord) :
    bit (field (encodeRecord r) 8 1) 0 = r.selected ∧ bit (field (encodeRecord r) 8 1) 1 = r.taken
      ∧ bit (field (encodeRecord r) 8 1) 2 = r.skipped := by
  have e : field (encodeRecord r) 8 1 = (byteOf (bitsNat [r.selected, r.taken, r.skipped])).toNat := by
    rw [encodeRecord_field_head r (by omega)]
    exact field_byte _ _ _ rfl
  rw [e]
  exact bit_bitsNat _ _ _

/-! The partial list. -/

/-- Two bytes of one place of the partial field. -/
theorem encodeRecord_place (r : StripRecord) (i : Nat) (h : i < 4) (p : Nat × Nat)
    (hp : (partialField r.partials)[i]'(by rw [partialField_length]; exact h) = p) (h1 : p.1 < 256) (h2 : p.2 < 256) :
    field (encodeRecord r) (9 + 2 * i) 1 = p.1 ∧ field (encodeRecord r) (10 + 2 * i) 1 = p.2 := by
  have hb : ((partialBytes r.partials).drop (2 * i)).take 2 = [byteOf p.1, byteOf p.2] :=
    (drop_take_flatMap (f := fun (p : Nat × Nat) => [byteOf p.1, byteOf p.2]) (fun _ => rfl) (partialField r.partials) i
      (by rw [partialField_length]; exact h)).trans (by rw [hp])
  have byte (j : Nat) (hj : j < 2) : (encodeRecord r)[9 + 2 * i + j]? = [byteOf p.1, byteOf p.2][j]? := by
    rw [← hb, List.getElem?_take_of_lt hj, List.getElem?_drop, encodeRecord_eq,
      List.getElem?_append_right (by rw [recordHead_length]; omega), recordHead_length,
      List.getElem?_append_left (by rw [partialBytes_length]; omega)]
    congr 1
    omega
  constructor
  · exact (field_byte (byteOf p.1) _ _ (byte 0 (by omega))).trans (byteOf_toNat h1)
  · have e : 10 + 2 * i = 9 + 2 * i + 1 := by omega
    rw [e, field_byte (byteOf p.2) _ _ (byte 1 (by omega)), byteOf_toNat h2]

theorem partialPlacesOf_encodeRecord (r : StripRecord) (h : ∀ p ∈ r.partials, p.1 < 256 ∧ p.2 < 256) :
    partialPlacesOf (encodeRecord r) = partialField r.partials := by
  have bound : ∀ p ∈ partialField r.partials, p.1 < 256 ∧ p.2 < 256 := by
    intro p hp
    rcases List.mem_append.mp (List.mem_of_mem_take hp) with m | m
    · exact h p m
    · rw [List.eq_of_mem_replicate m]
      decide
  refine List.ext_getElem (by simp [partialPlacesOf, partialField_length]) fun i hi hi' => ?_
  have h4 : i < 4 := by rwa [partialField_length] at hi'
  obtain ⟨b1, b2⟩ := bound _ (List.getElem_mem hi')
  obtain ⟨e1, e2⟩ := encodeRecord_place r i h4 _ rfl b1 b2
  simp [partialPlacesOf, e1, e2]

theorem usedPartials_append_zeros {ps : List (Nat × Nat)} (n : Nat) (h : ∀ p ∈ ps, p.1 ≠ 0) :
    usedPartials (ps ++ List.replicate n (0, 0)) = ps := by
  induction ps with
  | nil => cases n <;> simp [usedPartials, List.replicate_succ]
  | cons p ps ih =>
    rw [List.cons_append, usedPartials, if_neg (h p List.mem_cons_self),
      ih fun q hq => h q (List.mem_cons_of_mem _ hq)]

theorem partialField_eq {ps : List (Nat × Nat)} (h : ps.length ≤ 4) :
    partialField ps = ps ++ List.replicate (4 - ps.length) (0, 0) := by
  unfold partialField
  rw [List.take_append, List.take_of_length_le h, List.take_replicate]
  congr 2
  omega

/-! The units. -/

/-- The code of a unit by its place, 0 past the last unit. -/
def StripRecord.codeAt (r : StripRecord) (n : Nat) : Nat :=
  match r.units[n]? with
  | some e => e.code
  | none => 0

theorem groupBytes_eq (r : StripRecord) (g : Nat) :
    groupBytes r g = beBytes 3 (((r.codeAt (4 * g) * 64 + r.codeAt (4 * g + 1)) * 64 + r.codeAt (4 * g + 2)) * 64
      + r.codeAt (4 * g + 3)) := rfl

theorem UnitEntry.code_lt {e : UnitEntry} (h : e.bonder < 8) : e.code < 64 := by
  have hs : e.state.code ≤ 5 := by cases e.state <;> decide
  unfold UnitEntry.code
  omega

theorem UnitEntry.of_code {e : UnitEntry} (h : e.bonder < 8) :
    UnitState.ofCode (e.code / 8) = some e.state ∧ e.code % 8 = e.bonder := by
  have hd : e.code / 8 = e.state.code := by
    unfold UnitEntry.code
    omega
  have hm : e.code % 8 = e.bonder := by
    unfold UnitEntry.code
    omega
  refine ⟨?_, hm⟩
  rw [hd]
  cases e.state <;> rfl

/-- One of four 6-bit codes is read back from their 24 bits. -/
theorem digit_of_group {a b c d : Nat} (hb : b < 64) (hc : c < 64) (hd : d < 64) (ha : a < 64) :
    let n := ((a * 64 + b) * 64 + c) * 64 + d
    n / 64 ^ 3 % 64 = a ∧ n / 64 ^ 2 % 64 = b ∧ n / 64 ^ 1 % 64 = c ∧ n / 64 ^ 0 % 64 = d := by
  dsimp only
  norm_num
  omega

theorem unitCode_encodeRecord (r : StripRecord) (hr : ∀ n, r.codeAt n < 64) {n : Nat} (h : n < 48) :
    unitCode (encodeRecord r) n = r.codeAt n := by
  have hg : n / 4 < 12 := by omega
  have bytes : field (encodeRecord r) (17 + 3 * (n / 4)) 3 = beNat (groupBytes r (n / 4)) := by
    rw [encodeRecord_eq, field_append_right _ _ (by rw [recordHead_length]; omega), recordHead_length,
      field_append_right _ _ (by rw [partialBytes_length]; omega), partialBytes_length]
    have e : 17 + 3 * (n / 4) - 9 - 8 = 3 * (n / 4) := by omega
    have k := drop_take_flatMap (groupBytes_length r) (List.range 12) (n / 4) (by simpa using hg)
    rw [List.getElem_range] at k
    rw [e, field, k]
  obtain ⟨d0, d1, d2, d3⟩ := digit_of_group (hr (4 * (n / 4) + 1)) (hr (4 * (n / 4) + 2)) (hr (4 * (n / 4) + 3))
    (hr (4 * (n / 4)))
  have h0 := hr (4 * (n / 4))
  have h1 := hr (4 * (n / 4) + 1)
  have h2 := hr (4 * (n / 4) + 2)
  have h3 := hr (4 * (n / 4) + 3)
  unfold unitCode
  rw [bytes, groupBytes_eq, beNat_beBytes 3 (by norm_num; omega)]
  have cases4 : n % 4 = 0 ∨ n % 4 = 1 ∨ n % 4 = 2 ∨ n % 4 = 3 := by omega
  rcases cases4 with e | e | e | e
  · rw [e, d0]
    congr 1
    omega
  · rw [e, d1]
    congr 1
    omega
  · rw [e, d2]
    congr 1
    omega
  · rw [e, d3]
    congr 1
    omega

/-- A list is read back item by item. -/
theorem mapM_range'_eq_some {α : Type} {f : Nat → Option α} (l : List α) (a : Nat)
    (h : ∀ i (hi : i < l.length), f (a + i) = some l[i]) : (List.range' a l.length).mapM f = some l := by
  induction l generalizing a with
  | nil => rfl
  | cons x l ih =>
    have hx : f a = some x := h 0 (by simp)
    have hl : (List.range' (a + 1) l.length).mapM f = some l := ih (a + 1) fun i hi => by
      rw [show a + 1 + i = a + (i + 1) by omega]
      exact h (i + 1) (by simpa using hi)
    rw [List.length_cons, List.range'_succ, List.mapM_cons, hx, hl]
    rfl

theorem readUnits_encodeRecord (r : StripRecord) (hl : r.units.length ≤ 48) (hb : ∀ e ∈ r.units, e.bonder < 8) :
    (List.range r.units.length).mapM (fun n =>
      (UnitState.ofCode (unitCode (encodeRecord r) n / 8)).map
        (fun st => (⟨st, unitCode (encodeRecord r) n % 8⟩ : UnitEntry))) = some r.units := by
  have hr (n : Nat) : r.codeAt n < 64 := by
    unfold StripRecord.codeAt
    split
    · next e he => exact UnitEntry.code_lt (hb e (List.mem_of_getElem? he))
    · omega
  rw [List.range_eq_range']
  refine mapM_range'_eq_some r.units 0 fun i hi => ?_
  have hc : unitCode (encodeRecord r) (0 + i) = r.units[i].code := by
    rw [unitCode_encodeRecord r hr (by omega), Nat.zero_add, StripRecord.codeAt, List.getElem?_eq_getElem hi]
  obtain ⟨h1, h2⟩ := UnitEntry.of_code (hb _ (List.getElem_mem hi))
  rw [hc, h1, h2]
  rfl

/-! The record check. -/

/-- What the laws of a record say of the sizes that its layout rests on (R13 to R15). -/
theorem StripRecord.lawful_sizes {r : StripRecord} (h : r.lawful = true) :
    r.units.length ≤ 48 ∧ (∀ e ∈ r.units, e.bonder < 8) ∧ r.partials.length ≤ 4
      ∧ ∀ p ∈ r.partials, p.1 ≠ 0 ∧ p.1 < 256 ∧ p.2 < 256 := by
  simp only [StripRecord.lawful, partialsFit, Bool.and_eq_true, decide_eq_true_eq, List.all_eq_true] at h
  obtain ⟨⟨⟨⟨⟨-, hl⟩, hu⟩, -⟩, ⟨⟨-, hp⟩, -⟩, h4⟩, -⟩ := h
  refine ⟨hl, fun e he => ?_, h4, fun p m => ?_⟩
  · have k := hu e he
    simp only [bonderFits, Bool.and_eq_true, decide_eq_true_eq] at k
    omega
  · obtain ⟨⟨he, -⟩, h2⟩ := hp p m
    unfold StripRecord.entry at he
    split at he
    · next e k =>
      split at k
      · cases k
      · next h0 =>
        obtain ⟨hlt, -⟩ := List.getElem?_eq_some_iff.mp k
        exact ⟨h0, by omega, by omega⟩
    · cases he

theorem readRecord_encodeRecord {r : StripRecord} (h : r.lawful = true) (hs : r.serial < 4294967296)
    (hg : r.generation < 256) (hr : r.run < 65536) : readRecord (encodeRecord r) = some r := by
  obtain ⟨hl, hb, h4, hp⟩ := StripRecord.lawful_sizes h
  obtain ⟨f0, f1, f2⟩ := encodeRecord_flags r
  have places := partialPlacesOf_encodeRecord r fun p m => (hp p m).2
  have used : usedPartials (partialPlacesOf (encodeRecord r)) = r.partials := by
    rw [places, partialField_eq h4, usedPartials_append_zeros _ fun p m => (hp p m).1]
  unfold readRecord
  simp only [encodeRecord_unitCount r (by omega), readUnits_encodeRecord r hl hb, encodeRecord_serial r hs,
    encodeRecord_generation r hg, encodeRecord_run r hr, used, f0, f1, f2]

/-- A lawful record passes the record check whole (R15). -/
theorem checkRecord_encodeRecord {r : StripRecord} (h : r.lawful = true) (hs : r.serial < 4294967296)
    (hg : r.generation < 256) (hr : r.run < 65536) : checkRecord (encodeRecord r) = some r := by
  obtain ⟨-, -, h4, hp⟩ := StripRecord.lawful_sizes h
  have rest : (partialPlacesOf (encodeRecord r)).drop r.partials.length
      = List.replicate (4 - r.partials.length) (0, 0) := by
    rw [partialPlacesOf_encodeRecord r fun p m => (hp p m).2, partialField_eq h4, List.drop_left]
  unfold checkRecord
  simp only [encodeRecord_length, readRecord_encodeRecord h hs hg hr, h, rest]
  simp

/-- Settles O51: a lawful strip record is read back whole, and the log judges what it wrote good. -/
theorem layoutsReadBackWhole : Obligations.LayoutsReadBackWhole := by
  refine ⟨fun r h hs hg hr => ⟨encodeRecord_length r, checkRecord_encodeRecord h hs hg hr⟩, fun n r hn => ⟨?_, ?_⟩,
    fun n hn => judgeSlot_spanMark hn, fun q f hq hf => readHeader_header hq hf⟩
  · simp [withCrc, pullEntryBytes, beBytes_length]
  · exact judgeSlot_pullEntry r hn

end Sys2Proof.Machine

/-! ## What a frame placed on the station line leaves

The operations of the station line, of the panel's list and of the alarm queue append requests, keep every queued frame
but a BEACON, and make no test of the event's end due but the beacon's. -/

namespace Sys2Proof.Machine

/-- `t` comes from `s` by frames and beacons placed, and by what the panel and their owners do at once. -/
structure Posts (t s : State) : Prop where
  news : News t s
  change : LineChange t s
  agenda : t.agenda = { s.agenda with beacon := t.agenda.beacon }
  frames : ∀ q ∈ s.line.txQueue, q.frame.kind ≠ .beacon → q ∈ t.line.txQueue
  awaits : ∀ u, u ≠ .clampStrip → u ≠ .belt → t.awaiting u = s.awaiting u

theorem Posts.refl (s : State) : Posts s s :=
  ⟨.refl s, .refl s, rfl, fun _ m _ => m, fun _ _ _ => rfl⟩

theorem Posts.trans {u t s : State} (h : Posts u t) (k : Posts t s) : Posts u s where
  news := h.news.trans k.news
  change := h.change.trans k.change
  agenda := by rw [h.agenda, k.agenda]
  frames q m hq := h.frames q (k.frames q m hq) hq
  awaits v hc hb := (h.awaits v hc hb).trans (k.awaits v hc hb)

theorem Posts.out {t s : State} (h : Posts t s) : s.out ⊆ t.out := h.news.2.2.2.subset

theorem Posts.calm {t s : State} (h : Posts t s) : t.agenda.calm = s.agenda.calm := by
  rw [h.agenda]
  rfl

theorem PanelChange.posts {t s : State} (h : PanelChange t s) (n : News t s) : Posts t s := by
  have hl : t.line = s.line := (congrArg State.line h :)
  have ha : t.agenda = s.agenda := (congrArg State.agenda h :)
  have hd : t.due = s.due := (congrArg State.due h :)
  refine ⟨n, h.line, by rw [ha], fun q m _ => hl ▸ m, fun u _ _ => ?_⟩
  simp only [State.awaiting, hd]

/-- A request whose answer nobody waits for by its use. -/
theorem State.request_posts (s : State) (r : Request) (pt : Port) (u : Use) (hr : r.isEnable = false)
    (hu : u = .clampStrip ∨ u = .belt) : Posts (s.request r pt u) s := by
  refine ⟨s.request_news r pt u hr, s.request_change r pt u, rfl, fun _ m _ => m, fun v hc hb => ?_⟩
  have hv : (u == v) = false := by
    rcases hu with rfl | rfl
    · exact beq_eq_false_iff_ne.mpr (Ne.symm hc)
    · exact beq_eq_false_iff_ne.mpr (Ne.symm hb)
  simp [State.awaiting, State.request, hv]

/-! ### The transmit queue (R191) -/

theorem State.onPlaced_posts (s : State) (o : Owner) : Posts (s.onPlaced o) s := by
  unfold State.onPlaced
  split
  · split
    · have hc := State.request_posts { s with window.recordQueued := true } (.stripClamp false) .stripClamp .clampStrip
        rfl (.inl rfl)
      have hs : Posts { s with window.recordQueued := true } s := ⟨.refl s, rfl, rfl, fun _ m _ => m, fun _ _ _ => rfl⟩
      exact ((State.request_posts _ _ _ _ rfl (.inr rfl)).trans hc).trans hs
    · exact .refl s
  · exact ⟨.refl s, rfl, rfl, fun _ m _ => m, fun _ _ _ => rfl⟩
  · exact .refl s

/-- A frame joins the end of the queue. -/
theorem State.append_posts (s : State) (f : TxFrame) (b : Timer) :
    Posts { s with line.txQueue := s.line.txQueue ++ [f], line.beaconTimer := b } s :=
  ⟨.refl s, rfl, rfl, fun _ m _ => List.mem_append_left _ m, fun _ _ _ => rfl⟩

theorem State.placeItem_posts (s : State) (w : Waiting) : Posts (s.placeItem w) s := by
  cases w with
  | beaconDue =>
    exact ((State.panelBeacon_panel _ _ _).posts (State.panelBeacon_news _ _ _)).trans (s.append_posts _ _)
  | frame o f => exact (State.onPlaced_posts _ _).trans (s.append_posts ⟨f, 0⟩ s.line.beaconTimer)

/-- What waits for room is another list. -/
theorem State.waiting_posts (s : State) (ws : List Waiting) : Posts { s with line.waiting := ws } s :=
  ⟨.refl s, rfl, rfl, fun _ m _ => m, fun _ _ _ => rfl⟩

theorem State.drain_posts (ws : List Waiting) (s : State) : Posts (State.drain ws s) s := by
  induction ws generalizing s with
  | nil => exact s.waiting_posts []
  | cons w ws ih =>
    unfold State.drain
    split
    · exact (ih _).trans (s.placeItem_posts w)
    · exact s.waiting_posts _

theorem State.submit_posts (s : State) (o : Owner) (f : Frame) : Posts (s.submit o f) s := by
  unfold State.submit
  split
  · exact (State.drain_posts _ _).trans (s.waiting_posts _)
  · exact .refl s

/-- A beacon replaces the one queued in its place. -/
theorem State.rebeacon_posts (s : State) (f : Frame) :
    Posts { s with line.txQueue := s.line.txQueue.map (fun t =>
      if t.frame.kind == .beacon then { t with frame := f } else t) } s := by
  refine ⟨.refl s, rfl, rfl, fun q m hq => List.mem_map.mpr ⟨q, m, ?_⟩, fun _ _ _ => rfl⟩
  simp [hq]

theorem State.placeBeacon_posts (s : State) : Posts s.placeBeacon s := by
  unfold State.placeBeacon
  split
  · exact .refl s
  · split
    · exact s.rebeacon_posts _
    · split
      · exact .refl s
      · exact (State.drain_posts _ _).trans (s.waiting_posts _)

theorem State.queueBeacon_posts (s : State) : Posts s.queueBeacon s := by
  have h := s.placeBeacon_posts
  exact ⟨h.news, s.queueBeacon_change, congrArg (fun a : Agenda => { a with beacon := true }) h.agenda, h.frames, h.awaits⟩

theorem State.submitReplies_posts (k : FrameKind) (fs : List Frame) (s : State) :
    Posts (State.submitReplies k s fs) s := by
  induction fs generalizing s with
  | nil => exact .refl s
  | cons f fs ih =>
    cases fs with
    | nil => exact s.submit_posts _ _
    | cons g gs => exact (ih _).trans (s.submit_posts _ _)

theorem State.reply_posts (s : State) (k : FrameKind) (fs : List Frame) : Posts (s.reply k fs) s :=
  (State.submitReplies_posts k fs _).trans (s.waiting_posts _)

/-- With room in the queue and nothing waiting, a frame with no effect of its own joins the queue. -/
theorem State.submit_placed {s : State} {n : Nat} (hn : 1 ≤ n) (h : s.lineFree n = true) (o : Owner) (f : Frame) :
    ⟨f, 0⟩ ∈ (s.submit o f).line.txQueue := by
  obtain ⟨⟨⟨hroom, hw⟩, hop⟩, hl⟩ : ((s.line.txQueue.length + n ≤ Config.txPlaces ∧ s.line.waiting = [])
      ∧ s.operating = true) ∧ s.phase ≠ .listening := by simpa [State.lineFree] using h
  have hfree : (({ s with line.waiting := [.frame o f] } : State).lineHasRoom) = true := by
    have hlt : s.line.txQueue.length < Config.txPlaces := by omega
    have hop2 : ({ s with line.waiting := [.frame o f] } : State).operating = true := hop
    simp [State.lineHasRoom, hop2, hl, hlt]
  have hlen : (State.onPlaced { s with line.waiting := [.frame o f], line.txQueue := s.line.txQueue ++ [⟨f, 0⟩] } o).line.txQueue
      = s.line.txQueue ++ [⟨f, 0⟩] := by
    unfold State.onPlaced
    split
    · split <;> rfl
    · rfl
    · rfl
  have e : s.submit o f = State.drain [.frame o f] { s with line.waiting := [.frame o f] } := by
    simp [State.submit, hop, State.fill, hw]
  rw [e]
  simp only [State.drain, hfree, if_true, State.placeItem]
  rw [hlen]
  exact List.mem_append_right _ (List.mem_singleton.mpr rfl)

/-! ### The alarm queue (R164, R167) -/

theorem State.addAlarm_posts (s : State) (e : AlarmEntry) :
    Posts (s.addAlarm e) { s with alarms.queue := s.alarms.queue ++ [e], alarms.counter := nextSeq e.seq } :=
  ((State.queueBeacon_posts _).trans ((State.panelAlarm_panel _ _ _ _ _).posts (State.panelAlarm_news _ _ _ _ _))).trans
    (State.submit_posts _ _ _)

/-- An alarm is settled: it leaves the queue, frames are placed, and then the tests of its kind are due. -/
theorem State.removeAlarm_asks (s : State) (e : AlarmEntry) (c : Choice) (r : Nat) :
    ∃ u, s.removeAlarm e c r = u.askSettled e.kind
      ∧ Posts u { s with alarms.queue := s.alarms.queue.filter (fun x => x.seq != e.seq) } :=
  ⟨_, rfl, ((State.queueBeacon_posts _).trans ((State.panelSettled_panel _ _ _).posts (State.panelSettled_news _ _ _))).trans
    ((State.submit_posts _ _ _).trans (State.waiting_posts _ _))⟩

/-- Settling an alarm of the other kinds makes no test due. -/
theorem State.askSettled_of_other {k : AlarmKind} (h : k.holdsWindow = false ∧ k ≠ .feedJam) (s : State) :
    s.askSettled k = s := by
  simp [State.askSettled, h]

theorem State.removeAlarm_posts (s : State) (e : AlarmEntry) (c : Choice) (r : Nat)
    (hk : e.kind.holdsWindow = false ∧ e.kind ≠ .feedJam) :
    Posts (s.removeAlarm e c r) { s with alarms.queue := s.alarms.queue.filter (fun x => x.seq != e.seq) } := by
  obtain ⟨u, hu, hp⟩ := s.removeAlarm_asks e c r
  rwa [hu, State.askSettled_of_other hk]

/-- SETTLED joins a queue with room (R167), before its beacon. -/
theorem State.removeAlarm_settled (s : State) (e : AlarmEntry) (c : Choice) (r : Nat)
    (hk : e.kind.holdsWindow = false ∧ e.kind ≠ .feedJam) (h : s.lineFree 2 = true) :
    ⟨settledFrame e c r, 0⟩ ∈ (s.removeAlarm e c r).line.txQueue := by
  unfold State.removeAlarm
  rw [State.askSettled_of_other hk]
  refine ((State.queueBeacon_posts _).trans
    ((State.panelSettled_panel _ _ _).posts (State.panelSettled_news _ _ _))).frames _ ?_ (by simp [settledFrame])
  refine State.submit_placed (n := 2) (by decide) ?_ _ _
  obtain ⟨⟨⟨hroom, hw⟩, hop⟩, hl⟩ : ((s.line.txQueue.length + 2 ≤ Config.txPlaces ∧ s.line.waiting = [])
      ∧ s.operating = true) ∧ s.phase ≠ .listening := by simpa [State.lineFree] using h
  simp [State.lineFree, State.withdraw, hroom, hw, hl]
  exact hop

end Sys2Proof.Machine

/-! ## What the work that follows an event leaves

The unit boundary, the start of a unit or of a cycle, and the tests at the end of an event select and request; the strip
record, the counts and the marks of the strip stay (R53, R87, R96, R119). -/

namespace Sys2Proof.Machine

/-- The parts of a state that starting work leaves. -/
structure StripView where
  record : Option StripRecord
  inbound : Option StripRecord
  inboundSerial : Option Nat
  doneHere : Nat
  forward : Bool
  freshWait : Bool
  arrivalTimer : Timer
  exitTimer : Timer
  counters : List Counter
  surface : Option Nat
  wireCount : Nat
  debt : Int
  table : Option EnergyRow
  full : Bool

/-- What `Onward` speaks of: the parts that stay, and those that change in few ways. -/
structure Scene where
  strip : StripView
  out : List Request
  frames : List TxFrame
  alarms : List AlarmEntry
  window : WindowState
  inMag : InMag

def State.scene (s : State) : Scene where
  strip :=
    { record := s.window.record, inbound := s.window.inbound, inboundSerial := s.window.inboundSerial
      doneHere := s.window.doneHere, forward := s.window.forward, freshWait := s.window.freshWait
      arrivalTimer := s.window.arrivalTimer, exitTimer := s.window.exitTimer, counters := s.tally.counters
      surface := s.head.surface, wireCount := s.head.wireCount, debt := s.head.debt, table := s.energy.table
      full := s.agenda.full }
  out := s.out
  frames := s.line.txQueue
  alarms := s.alarms.queue
  window := s.window.state
  inMag := s.inMag

/-- The alarms that starting work can raise (R47, R119, R129). -/
def startAlarms : List AlarmKind := [.wireOut, .inputEmpty, .outputFull]

/-- From scene `a` work has gone on to scene `b`: the strip is as it was, unless it has been offered or unloaded from a
window that no alarm holds, and the feed stands still unless the window is EMPTY. -/
structure Scene.Leads (b a : Scene) : Prop where
  strip : b.strip = a.strip
  out : a.out ⊆ b.out
  frames : ∀ q ∈ a.frames, q.frame.kind ≠ .beacon → q ∈ b.frames
  alarms : ∃ l, b.alarms = a.alarms ++ l ∧ ∀ e ∈ l, e.kind ∈ startAlarms
  window : b.window = a.window ∨ (a.window = .clamped ∧ a.alarms.any (fun e => e.kind.holdsWindow) = false
    ∧ (b.window = .offered ∨ b.window = .outbound))
  inMag : a.window ≠ .empty → b.inMag = a.inMag

/-- Work has gone on from `s` to `t`. -/
def Onward (t s : State) : Prop := t.scene.Leads s.scene

theorem Onward.refl (s : State) : Onward s s where
  strip := rfl
  out := List.Subset.refl _
  frames _ m _ := m
  alarms := ⟨[], (List.append_nil _).symm, fun _ m => absurd m List.not_mem_nil⟩
  window := .inl rfl
  inMag _ := rfl

theorem Scene.Leads.trans {c b a : Scene} (h : c.Leads b) (k : b.Leads a) : c.Leads a where
  strip := h.strip.trans k.strip
  out := List.Subset.trans k.out h.out
  frames q m hq := h.frames q (k.frames q m hq) hq
  alarms := by
    obtain ⟨l, hl, kl⟩ := h.alarms
    obtain ⟨m, hm, km⟩ := k.alarms
    refine ⟨m ++ l, by rw [hl, hm, List.append_assoc], fun e he => ?_⟩
    exact (List.mem_append.mp he).elim (km e) (kl e)
  window := by
    obtain ⟨m, hm, -⟩ := k.alarms
    rcases h.window with hw | ⟨hc, hno, hw⟩
    · rw [hw]
      exact k.window
    · rcases k.window with kw | ⟨-, -, kw⟩
      · rw [hm, List.any_append, Bool.or_eq_false_iff] at hno
        exact .inr ⟨kw ▸ hc, hno.1, hw⟩
      · rw [hc] at kw
        rcases kw with kw | kw <;> cases kw
  inMag ha := by
    have hb : b.window ≠ .empty := by
      rcases k.window with kw | ⟨-, -, kw | kw⟩
      · rwa [kw]
      · rw [kw]; decide
      · rw [kw]; decide
    exact (h.inMag hb).trans (k.inMag ha)

theorem Onward.trans {u t s : State} (h : Onward u t) (k : Onward t s) : Onward u s := Scene.Leads.trans h k

theorem Posts.onward {t s : State} (h : Posts t s) : Onward t s where
  strip := by
    have hf : t.agenda.full = s.agenda.full := by rw [h.agenda]
    have hc := h.change
    unfold LineChange at hc
    rw [State.scene, State.scene, hf, hc]
  out := h.out
  frames := h.frames
  alarms := ⟨[], by
    rw [List.append_nil]
    exact congrArg Alarms.queue h.change.alarms, fun _ m => absurd m List.not_mem_nil⟩
  window := .inl h.change.alarm.winState
  inMag _ := h.change.alarm.inMag

theorem State.issue_onward (s : State) (r : Request) : Onward (s.issue r) s :=
  { Onward.refl s with out := List.subset_append_left _ _ }

theorem State.request_onward (s : State) (r : Request) (pt : Port) (u : Use) : Onward (s.request r pt u) s :=
  s.issue_onward r

theorem State.move_onward (s : State) (a : Axis) (z : Int) (u : Use) (x : MoveArg) : Onward (s.move a z u x) s :=
  s.issue_onward _

theorem State.raise_onward (s : State) (k : AlarmKind) (h : k ∈ startAlarms) : Onward (s.raise k) s := by
  unfold State.raise
  split
  · exact .refl s
  · exact Onward.trans (State.addAlarm_posts s _).onward
      { Onward.refl s with alarms := ⟨[_], rfl, fun e m => by rw [List.mem_singleton.mp m]; exact h⟩ }

/-! ### Starting a wire or a cycle (R39, R47, R83) -/

theorem State.disableReq_onward (s : State) : Onward s.disableReq s := by
  unfold State.disableReq
  split
  · exact State.issue_onward _ _
  · exact .refl s

theorem State.wireStep_positioning_onward (s : State) : Onward (s.wireStep .positioning) s := by
  unfold State.wireStep State.wireGate
  split
  · exact Onward.trans (State.raise_onward _ .wireOut (by decide)) (State.disableReq_onward { s with head.wireOut := false })
  · exact State.move_onward _ _ _ _ _

theorem State.startCycle_onward (s : State) (o : Occasion) : Onward (s.startCycle o) s := State.move_onward _ _ _ _ _

theorem State.gatedCycle_onward (s : State) (o : Occasion) : Onward (s.gatedCycle o) s := by
  unfold State.gatedCycle
  split
  · exact .refl s
  · exact s.startCycle_onward o

theorem State.startWire_onward (s : State) : Onward s.startWire s := by
  unfold State.startWire
  dsimp only
  split
  · exact .refl s
  · split
    · exact State.startCycle_onward _ _
    · exact State.wireStep_positioning_onward _

theorem State.selectUnit_onward (s : State) : Onward s.selectUnit s := by
  unfold State.selectUnit
  split
  · split <;> exact .refl s
  · exact .refl s

theorem State.startHoming_onward (s : State) (n : NextWork) : Onward (s.startHoming n) s := State.request_onward _ _ _ _

theorem State.feedAfterParking_onward (s : State) : Onward s.feedAfterParking s := by
  unfold State.feedAfterParking
  split <;> exact .refl s

theorem State.enterParked_onward (s : State) : Onward s.enterParked s := by
  unfold State.enterParked
  dsimp only
  split
  · exact State.startHoming_onward _ _
  · exact State.feedAfterParking_onward _

/-! ### Passing the strip on (R95, R98, R113) -/

theorem State.makeOffer_onward (s : State) (h : s.offerable = true) : Onward s.makeOffer s := by
  have hs : s.window.state = .clamped ∧ s.windowAlarm = false := by
    simp only [State.offerable, Bool.and_eq_true, Bool.not_eq_true', beq_iff_eq] at h
    exact ⟨h.1.1.1.1.1.2, h.1.1.1.1.2⟩
  exact Onward.trans ((State.submit_posts _ _ _).trans (State.queueBeacon_posts _)).onward
    { Onward.refl s with window := .inr ⟨hs.1, hs.2, .inl rfl⟩, inMag := fun _ => rfl }

theorem State.startUnload_onward (s : State) (hc : s.window.state = .clamped) (hw : s.windowAlarm = false) :
    Onward s.startUnload s := by
  unfold State.startUnload
  split
  · exact Onward.trans (State.queueBeacon_posts _).onward (Onward.trans (State.request_onward _ _ _ _)
      { Onward.refl s with window := .inr ⟨hc, hw, .inr rfl⟩, inMag := fun _ => rfl })
  · exact .refl s

theorem State.outputFull_onward (s : State) : Onward s.outputFull s := by
  unfold State.outputFull
  split
  · exact .refl s
  · exact s.raise_onward .outputFull (by decide)

theorem State.outputAnswer_onward (s : State) : Onward s.outputAnswer s := by
  unfold State.outputAnswer
  split
  · next h =>
    obtain ⟨hc, -, hw⟩ := h
    split
    · exact s.startUnload_onward hc hw
    · split
      · exact .refl s
      · exact s.outputFull_onward
  · exact .refl s

theorem State.evaluateStrip_onward (s : State) : Onward s.evaluateStrip s := by
  unfold State.evaluateStrip
  split
  · split
    · exact s.outputAnswer_onward
    · split
      · next h => exact s.makeOffer_onward h
      · exact .refl s
  · exact .refl s

/-! ### The unit boundary (R53) -/

theorem State.boundary6_onward (s : State) : Onward s.boundary6 s := by
  unfold State.boundary6
  extract_lets more s1
  split
  · exact State.enterParked_onward _
  · split
    · exact .refl s
    · exact (State.startWire_onward _).trans (State.selectUnit_onward { s with head.boundaryStep := 6 })

theorem State.boundary5_onward (s : State) : Onward s.boundary5 s := by
  have h := State.evaluateStrip_onward { s with head.boundaryStep := 5 }
  unfold State.boundary5
  dsimp only
  split
  · exact (State.boundary6_onward _).trans h
  · split
    · exact (State.boundary6_onward _).trans h
    · exact (State.enterParked_onward _).trans h

theorem State.boundary4_onward (s : State) : Onward s.boundary4 s := by
  unfold State.boundary4
  dsimp only
  split
  · exact .refl s
  · exact State.boundary5_onward _

theorem State.boundary3_onward (s : State) : Onward s.boundary3 s := by
  unfold State.boundary3
  dsimp only
  split
  · exact State.gatedCycle_onward _ _
  · exact State.boundary4_onward _

theorem State.standbyTest_onward (s : State) : Onward s.standbyTest s := by
  unfold State.standbyTest
  split <;> exact .refl s

theorem State.applyDue_onward (s : State) : Onward s.applyDue s := by
  unfold State.applyDue State.applyActivation
  split
  · exact .refl s
  · split
    · have ha (u : State) : Onward u.askHead.askFeed u := .refl u
      refine (ha _).trans ((State.queueBeacon_posts _).onward.trans ((State.standbyTest_onward _).trans ?_))
      exact .refl s
    · exact .refl s

theorem State.boundary2_onward (s : State) : Onward s.boundary2 s :=
  (State.boundary3_onward _).trans (State.applyDue_onward { s with head.boundaryStep := 2 })

/-! ### The tests before a plan wire (R137) -/

theorem State.offerPlacesFuel_onward (n : Nat) (s : State) : Onward (State.offerPlacesFuel n s) s := by
  induction n generalizing s with
  | zero => exact .refl s
  | succ n ih =>
    unfold State.offerPlacesFuel
    split
    · split
      · exact ih _
      · exact .refl s
    · exact .refl s

theorem State.closeEntry_onward (s : State) (n : Nat) (m : BreakMode) : Onward (s.closeEntry n m) s := by
  unfold State.closeEntry State.offerPlaces
  split
  · exact State.offerPlacesFuel_onward _ _
  · exact .refl s

theorem State.startPull_onward (s : State) : Onward s.startPull s :=
  (State.move_onward _ _ _ _ _).trans (State.move_onward _ _ _ _ _)

theorem State.pullTests_onward (s : State) : Onward s.pullTests s := by
  unfold State.pullTests
  split
  · exact .refl s
  · split
    · exact .refl s
    · split
      · exact s.startPull_onward
      · split
        · split
          · exact .refl s
          · next r _ _ _ =>
            have h := State.closeEntry_onward (s.onSample (fun m => { m with placeMade := true })) r.ref .ungraded
            dsimp only
            split
            · exact (State.startPull_onward _).trans h
            · exact h
        · exact .refl s

/-- Step 1 of a boundary, where a sample due and a full log mark the record as skipped. -/
theorem State.boundary1_onward (s : State) :
    Onward s.boundary1 s ∨ Onward s.boundary1 (s.onRecord (fun r => { r with skipped := true })) := by
  unfold State.boundary1
  dsimp only
  split
  · exact .inl (State.boundary2_onward _)
  · split
    · exact .inl (.refl s)
    · split
      · exact .inr (State.boundary2_onward _)
      · exact .inl (State.pullTests_onward _)

/-! ### The record port (R153, R159) -/

theorem State.answerRead_onward (s : State) (r : ReadSpan) : Onward (s.answerRead r) s := by
  unfold State.answerRead
  split
  · exact (State.reply_posts _ _ _).onward
  · exact .refl s

theorem State.startErase_onward (s : State) (b : Nat) : Onward (s.startErase b) s := State.issue_onward _ _

theorem State.aheadErase_onward (s : State) :
    Onward (match s.log.aheadDue with | some a => s.startErase a | none => s) s := by
  split
  · exact s.startErase_onward _
  · exact .refl s

theorem State.arbitrateWrites_onward (s : State) : Onward s.arbitrateWrites s := by
  unfold State.arbitrateWrites
  split
  · exact State.issue_onward _ _
  · split
    · exact s.aheadErase_onward
    · exact State.issue_onward _ _
  · exact s.aheadErase_onward

theorem State.serveRead_onward (s : State) (r : ReadSpan) (v : ReadService) : Onward (s.serveRead r v) s := by
  unfold State.serveRead
  dsimp only
  split
  · exact (State.arbitrateWrites_onward _).trans (s.answerRead_onward _)
  · exact State.issue_onward _ _

theorem State.arbitrateRead_onward (s : State) : Onward s.arbitrateRead s := by
  unfold State.arbitrateRead
  split
  · split
    · exact s.serveRead_onward _ _
    · exact s.serveRead_onward _ _
    · exact s.arbitrateWrites_onward
  · exact s.arbitrateWrites_onward

theorem State.arbitrate_onward (s : State) : Onward s.arbitrate s := by
  unfold State.arbitrate
  split
  · split
    · split
      · exact s.startErase_onward _
      · exact s.arbitrateRead_onward
    · exact s.arbitrateRead_onward
  · exact .refl s

/-! ### The feed (R119) -/

theorem State.inputEmpty_onward (s : State) : Onward s.inputEmpty s := by
  unfold State.inputEmpty
  split
  · exact .refl s
  · exact s.raise_onward .inputEmpty (by decide)

/-- With the window EMPTY, the search of a slot changes the feed. -/
theorem State.searchFrom_onward (s : State) (n : Nat) (h : s.window.state = .empty) : Onward (s.searchFrom n) s := by
  unfold State.searchFrom
  split
  · exact Onward.trans (State.request_onward _ _ _ _)
      { Onward.refl s with strip := rfl, inMag := fun e => absurd h e }
  · exact Onward.trans (State.inputEmpty_onward _) { Onward.refl s with strip := rfl, inMag := fun e => absurd h e }

theorem State.testFeed_onward (s : State) : Onward s.testFeed s := by
  unfold State.testFeed
  split
  · next h =>
    have he : s.window.state = .empty := by
      simp only [State.feedAllowed, Bool.and_eq_true, beq_iff_eq] at h
      tauto
    split
    · exact s.searchFrom_onward 1 he
    · exact s.inputEmpty_onward
  · exact .refl s

/-! ### The end of an event (R191) -/

/-- With FULL not just set, the tests at the end of an event only let work go on. -/
theorem State.settlePlace_onward (s : State) (h : s.agenda.full = false) : Onward s.settlePlace s := by
  unfold State.settlePlace
  rw [h]
  split
  · simp only [Bool.false_and, Bool.false_eq_true, if_false]
    split
    · exact s.pullTests_onward
    · exact .refl s
  · exact .refl s

theorem State.settlePoint_onward (s : State) : Onward s.settlePoint s := by
  unfold State.settlePoint
  split
  · exact s.applyDue_onward
  · exact .refl s

theorem State.settleHead_onward (s : State) : Onward s.settleHead s := by
  unfold State.settleHead
  split
  · split
    · exact (State.startWire_onward _).trans s.selectUnit_onward
    · split
      · exact s.startCycle_onward _
      · exact .refl s
  · exact .refl s

theorem State.settleStrip_onward (s : State) : Onward s.settleStrip s := by
  unfold State.settleStrip
  split
  · exact s.evaluateStrip_onward
  · exact .refl s

theorem State.settleFeed_onward (s : State) : Onward s.settleFeed s := by
  unfold State.settleFeed
  split
  · exact s.testFeed_onward
  · exact .refl s

theorem State.settlePort_onward (s : State) : Onward s.settlePort s := by
  unfold State.settlePort
  split
  · exact s.arbitrate_onward
  · exact .refl s

theorem State.settle_onward (s : State) (h : s.agenda.full = false) : Onward s.settle s := by
  unfold State.settle
  split
  · exact (State.settlePort_onward _).trans ((State.settleFeed_onward _).trans ((State.settleStrip_onward _).trans
      ((State.settleHead_onward _).trans ((State.settlePoint_onward _).trans (s.settlePlace_onward h)))))
  · exact .refl s

theorem State.beaconAfter_posts (s old : State) : Posts (s.beaconAfter old) s := by
  unfold State.beaconAfter
  split
  · exact s.placeBeacon_posts
  · exact .refl s

theorem State.keepLine_posts (s : State) : Posts s.keepLine s := by
  refine ⟨s.keepLine_news, s.keepLine_change, by rw [s.keepLine_agenda], fun q m _ => ?_, fun u _ _ => ?_⟩
  · unfold State.keepLine
    split <;> exact m
  · unfold State.keepLine State.awaiting
    split <;> rfl

/-- The end of an event places a beacon at most; its agenda is empty. -/
theorem State.finish_onward (old s : State) (h : s.agenda.full = false) : Onward (State.finish old s) s := by
  have k := ((State.keepLine_posts _).trans (s.beaconAfter_posts old)).onward
  refine { k with strip := ?_ }
  calc (State.finish old s).scene.strip = { (s.beaconAfter old).keepLine.scene.strip with full := false } := rfl
    _ = { s.scene.strip with full := false } := by rw [k.strip]
    _ = s.scene.strip := by rw [← h]; rfl

/-- What follows an event's effect lets work go on. -/
theorem State.finish_settle_onward (old s : State) (h : s.agenda.full = false) :
    Onward (State.finish old s.settle) s := by
  have k := s.settle_onward h
  have e : s.settle.agenda.full = false := (congrArg StripView.full k.strip).trans h
  exact (State.finish_onward old _ e).trans k

end Sys2Proof.Machine

/-! ## The unit's entry in the strip record (R3 to R6) -/

namespace Sys2Proof.Machine

theorem StripRecord.entry_ne_zero {r : StripRecord} {n : Nat} {e : UnitEntry} (h : r.entry n = some e) : n ≠ 0 := by
  rintro rfl
  simp [StripRecord.entry] at h

theorem StripRecord.entry_setEntry {r : StripRecord} {n : Nat} {e : UnitEntry} (h : r.entry n = some e)
    (x : UnitEntry) : (r.setEntry n x).entry n = some x := by
  have hn := r.entry_ne_zero h
  have hlt : n - 1 < r.units.length := by
    simp only [StripRecord.entry, hn, if_false] at h
    exact (List.getElem?_eq_some_iff.mp h).1
  simp [StripRecord.entry, StripRecord.setEntry, hn, hlt]

theorem StripRecord.entry_setEntry_ne {r : StripRecord} {n m : Nat} (hn : n ≠ 0) (hm : m ≠ n) (x : UnitEntry) :
    (r.setEntry n x).entry m = r.entry m := by
  unfold StripRecord.entry StripRecord.setEntry
  split
  · rfl
  · exact List.getElem?_set_ne (by omega)

/-- An OPEN or PARTIAL unit is finished: its entry is the one given, its place in the partial list is gone (R4, R6). -/
theorem StripRecord.finishUnit_of_unfinished {r : StripRecord} {n : Nat} {e : UnitEntry} (h : r.entry n = some e)
    (he : e.state = .opened ∨ e.state = .partialDone) (stn : Nat) (st : UnitState) :
    r.finishUnit n stn st = { r.setEntry n ⟨st, stn⟩ with partials := r.partials.filter (fun x => x.1 != n) } := by
  unfold StripRecord.finishUnit
  simp only [h, he, if_true]
  rfl

/-- What R4 and R6 say of the record `r'` that finishing unit `n` of `r` leaves. -/
structure StripRecord.Finishes (r' r : StripRecord) (n stn : Nat) (st : UnitState) : Prop where
  entry : r'.entry n = some ⟨st, stn⟩
  others : ∀ m, m ≠ n → r'.entry m = r.entry m
  partials : r'.partials = r.partials.filter (fun x => x.1 != n)

theorem StripRecord.finishUnit_finishes {r : StripRecord} {n : Nat} {e : UnitEntry} (h : r.entry n = some e)
    (he : e.state = .opened ∨ e.state = .partialDone) (stn : Nat) (st : UnitState) :
    (r.finishUnit n stn st).Finishes r n stn st := by
  rw [r.finishUnit_of_unfinished h he]
  exact ⟨r.entry_setEntry h _, fun m hm => r.entry_setEntry_ne (r.entry_ne_zero h) hm _, rfl⟩

end Sys2Proof.Machine

/-! ## O37: SPARK OK completes the wire -/

namespace Sys2Proof.Machine

/-- The head's state once its wire count has advanced under the active set `b` (R82). -/
def Head.wireCounted (h : Head) (b : Recipe) : Head :=
  { h with
    wireCount := if b.interval ≤ h.wireCount + 1 then 0 else h.wireCount + 1
    debt := if b.interval ≤ h.wireCount + 1 then h.debt + 1 else h.debt }

theorem State.advanceWireCount_posts {s : State} {b : Recipe} (h : s.activeSet = some b) :
    Posts s.advanceWireCount { s with head := s.head.wireCounted b } := by
  unfold State.advanceWireCount Head.wireCounted
  simp only [h]
  split
  · exact State.queueBeacon_posts _
  · exact .refl _

/-- SPARK OK that answers the FIRE of a wire completes it; the event's tests follow. -/
theorem exec_sparkOk {s : State} {rest : List Due} (p : Pins) (hop : s.operating = true)
    (hs : s.head.state ≠ .conditioning)
    (hd : takeAnswer .spark (fun _ => true) s.due = some (⟨.spark, .fire, true⟩, rest)) :
    exec (.sparkOk p) s = .next (State.finish s ({ s.begin_ p with due := rest } : State).completeWire.settle) := by
  show answer (s.perform p _) = _
  rw [s.perform_on p _ hop]
  unfold State.perform State.onAnswer answer
  have hd2 : takeAnswer .spark (fun _ => true) (s.begin_ p).due = some (⟨.spark, .fire, true⟩, rest) := hd
  have hs2 : (s.begin_ p).head.state ≠ .conditioning := hs
  simp only [hd2, hs2, if_true, if_false]

theorem State.withWire_of_onWire {s : State} {r : Recipe} {w : WireEntry} {n : Nat} (h : s.onWire r w n)
    (f : Recipe → WireEntry → Nat → State) : s.withWire f = f r w n := by
  obtain ⟨hr, hw, hn⟩ := h
  simp only [State.withWire, hr, hw, hn]

/-- The state after the tally and the wire count of a completed wire. -/
def State.wireDone (s : State) : State := (s.count .wiresCompleted).advanceWireCount

theorem State.wireDone_posts {s : State} {b : Recipe} (h : s.activeSet = some b) :
    Posts s.wireDone { s.count .wiresCompleted with head := s.head.wireCounted b } :=
  State.advanceWireCount_posts (s := s.count .wiresCompleted) h

/-- What follows an effect that makes no test due but, perhaps, a beacon. -/
theorem State.finish_settle_calm {u : State} (old : State) (h : u.agenda.calm = true) :
    LineChange (State.finish old u.settle) u ∧ u.out ⊆ (State.finish old u.settle).out
      ∧ ∀ q ∈ u.line.txQueue, q.frame.kind ≠ .beacon → q ∈ (State.finish old u.settle).line.txQueue := by
  have hf : u.agenda.full = false := by
    simp only [Agenda.calm, Bool.and_eq_true, Bool.not_eq_true'] at h
    exact h.1.2
  have hon := State.finish_settle_onward old u hf
  refine ⟨?_, hon.out, hon.frames⟩
  rw [State.settle_calm h]
  exact State.finish_change old u

/-- The wire that follows the one just completed. -/
def State.onNextWire (s : State) : State := { s with head.wire := s.head.wire + 1 }

/-- What the start of a wire clears before its positioning. -/
def State.wireBegun (s : State) : State :=
  { s with head.boundaryStep := 0, head.doneUnit := none, head.next := .none, head.heldFor := .nothing }

theorem State.startPositioning_head (s : State) : s.startPositioning.head =
    { s.head with state := if s.head.surface.isNone then .searching else .ballDown, stage := .posZ } := rfl

theorem State.startPositioning_out (s : State) : s.startPositioning.out = s.out ++ [.move .z 0 .plain] := rfl

theorem State.startPositioning_agenda (s : State) : s.startPositioning.agenda = s.agenda := rfl

theorem State.startPositioning_tally (s : State) : s.startPositioning.tally = s.tally := rfl

/-- Out of line hold, below debt +8 and with the wire fine, the start of a wire is its positioning (R39). -/
theorem State.startWire_positions {s : State} (hh : s.alarms.hold = []) (hd : s.head.debt ≠ 8)
    (hw : s.wireFine s.pins = true) :
    s.startWire = s.wireBegun.startPositioning := by
  obtain ⟨ho, hp⟩ : s.head.wireOut = false ∧ s.pins.wirePresent = true := by simpa [State.wireFine] using hw
  simp [State.startWire, State.holding, State.wireStep, State.wireGate, State.beginStep, State.wireBegun, hh, hd, ho, hp]

section
variable {s : State} {r : Recipe} {w : WireEntry} {n : Nat}

/-- Short of the last wire, the next one starts (R46). -/
theorem State.completeWire_next (h : s.onWire r w n) (hl : s.head.wire < r.wires)
    (hw : s.wireDone.windsDown = false) :
    s.completeWire = s.wireDone.onNextWire.startWire := by
  have hw2 : s.wireDone.onNextWire.windsDown = false := hw
  unfold State.wireDone State.onNextWire at hw2 ⊢
  unfold State.completeWire
  rw [State.withWire_of_onWire h]
  simp [hw2, Nat.not_le.mpr hl]

/-- With the last wire the unit completes and its boundary begins (R46, R53). -/
theorem State.completeWire_last (h : s.onWire r w n) (hl : r.wires ≤ s.head.wire)
    (hw : s.wireDone.completeUnit.windsDown = false) :
    s.completeWire = s.wireDone.completeUnit.boundary1 := by
  unfold State.wireDone at hw ⊢
  unfold State.completeWire
  rw [State.withWire_of_onWire h]
  simp [hw, hl, State.runBoundary]

/-- The unit in progress becomes DONE (R4, R77). -/
theorem State.completeUnit_of_unit (h : s.head.unit = some n) :
    s.completeUnit = ({ ((s.onRecord (fun r => r.finishUnit n s.stn .done)).count .unitsDone) with
      window.doneHere := s.window.doneHere + 1
      energy.table := s.energy.working
      head.doneUnit := some n } : State).clearUnit := by
  unfold State.completeUnit
  simp only [h]

end

section
variable {old v t : State} {r b : Recipe} {w : WireEntry} {n : Nat}

/-- Short of the last wire, the next one begins with MOVE(Z, 0) (R39, R46, R82). -/
theorem State.completeWire_next_settled (ht : t = State.finish old v.completeWire.settle) (hcalm : v.agenda.calm = true)
    (hw : v.onWire r w n) (hb : v.activeSet = some b) (hwind : v.windsDown = false) (hl : v.head.wire < r.wires)
    (hhold : v.alarms.hold = []) (hdebt : (v.head.wireCounted b).debt ≠ 8) (hfine : v.wireFine v.pins = true) :
    t.head.wire = v.head.wire + 1 ∧ t.head.unit = some n
      ∧ t.head.wireCount = (v.head.wireCounted b).wireCount ∧ t.head.debt = (v.head.wireCounted b).debt
      ∧ t.head.stage = .posZ ∧ .move .z 0 .plain ∈ t.out
      ∧ t.tally.counters = v.tally.counters.modify 0 Counter.bump ∧ t.window.record = v.window.record := by
  have hp := State.wireDone_posts hb
  have hhead : v.wireDone.head = v.head.wireCounted b := hp.change.alarm.head
  have halarms : v.wireDone.alarms = v.alarms := hp.change.alarms
  have hpins : v.wireDone.pins = v.pins := hp.change.alarm.pins
  have hwind2 : v.wireDone.windsDown = false := by
    rw [State.windsDown, hhead, halarms]
    exact hwind
  have hhold2 : v.wireDone.onNextWire.alarms.hold = [] := (congrArg Alarms.hold halarms).trans hhold
  have hdebt2 : v.wireDone.onNextWire.head.debt ≠ 8 := fun e => hdebt ((congrArg Head.debt hhead).symm.trans e)
  have hfine2 : v.wireDone.onNextWire.wireFine v.wireDone.onNextWire.pins = true := by
    show (!v.wireDone.head.wireOut && v.wireDone.pins.wirePresent) = true
    rw [hhead, hpins]
    exact hfine
  rw [State.completeWire_next hw hl hwind2, State.startWire_positions hhold2 hdebt2 hfine2] at ht
  have hcalm2 : v.wireDone.onNextWire.wireBegun.startPositioning.agenda.calm = true := by
    rw [State.startPositioning_agenda]
    exact hp.calm.trans hcalm
  obtain ⟨hc, ho, -⟩ := State.finish_settle_calm old hcalm2
  rw [← ht, State.startPositioning_out] at ho
  rw [← ht] at hc
  have hbegun : v.wireDone.onNextWire.wireBegun.head = { v.head.wireCounted b with
      wire := v.head.wire + 1, boundaryStep := 0, doneUnit := none, next := .none, heldFor := .nothing } := by
    simp only [State.wireBegun, State.onNextWire, hhead, Head.wireCounted]
  have htally : t.tally = _ := hc.alarm.tally.trans ((State.startPositioning_tally _).trans hp.change.alarm.tally)
  have hrecord : t.window.record = _ := hc.alarm.record.trans hp.change.alarm.record
  rw [hc.alarm.head, State.startPositioning_head, hbegun]
  exact ⟨rfl, hw.2.2, rfl, rfl, rfl, ho (List.mem_append_right _ (List.mem_singleton.mpr rfl)),
    congrArg Tallies.counters htally, hrecord⟩

/-- The record that step 1 of a boundary and the work after it leave: its units and partial list stay. -/
theorem StripRecord.Finishes.of_boundary {u : State} {r' r : StripRecord} {stn : Nat} {st : UnitState}
    (hf : r'.Finishes r n stn st) (hr : u.window.record = some r')
    (h : Onward t u ∨ Onward t (u.onRecord (fun r => { r with skipped := true }))) :
    ∃ r'', t.window.record = some r'' ∧ r''.Finishes r n stn st := by
  rcases h with h | h
  · exact ⟨r', (congrArg StripView.record h.strip).trans hr, hf⟩
  · refine ⟨{ r' with skipped := true }, (congrArg StripView.record h.strip).trans ?_, ⟨hf.entry, hf.others, hf.partials⟩⟩
    show u.window.record.map _ = _
    rw [hr]
    rfl

/-- Step 1 of a boundary and the work after it leave all but the record. -/
theorem Onward.strip_of_boundary {u : State}
    (h : Onward t u ∨ Onward t (u.onRecord (fun r => { r with skipped := true }))) :
    { t.scene.strip with record := none } = { u.scene.strip with record := none } := by
  rcases h with h | h <;> exact congrArg (fun v : StripView => { v with record := none }) h.strip

/-- With the last wire the unit becomes DONE, whatever its boundary then begins (R4, R46, R77). -/
theorem State.completeWire_last_settled (ht : t = State.finish old v.completeWire.settle)
    (hfull : v.agenda.full = false) (hw : v.onWire r w n) (hb : v.activeSet = some b) (hwind : v.windsDown = false)
    (hl : r.wires ≤ v.head.wire) {rec : StripRecord} {e : UnitEntry} (hrec : v.window.record = some rec)
    (he : rec.entry n = some e) (hst : e.state = .opened ∨ e.state = .partialDone) :
    ∃ r', t.window.record = some r' ∧ r'.Finishes rec n v.stn .done
      ∧ t.window.doneHere = v.window.doneHere + 1 ∧ t.energy.table = v.energy.working
      ∧ t.head.wireCount = (v.head.wireCounted b).wireCount ∧ t.head.debt = (v.head.wireCounted b).debt
      ∧ t.tally.counters = (v.tally.counters.modify 0 Counter.bump).modify 10 Counter.bump := by
  have hp := State.wireDone_posts hb
  have hhead : v.wireDone.head = v.head.wireCounted b := hp.change.alarm.head
  have hc := State.completeUnit_of_unit (s := v.wireDone) (n := n) (by rw [hhead]; exact hw.2.2)
  generalize hu : v.wireDone.completeUnit = u at hc
  have hstrip : u.scene.strip = { v.scene.strip with
      record := some (rec.finishUnit n v.stn .done), doneHere := v.window.doneHere + 1, table := v.energy.working
      counters := (v.tally.counters.modify 0 Counter.bump).modify 10 Counter.bump
      wireCount := (v.head.wireCounted b).wireCount, debt := (v.head.wireCounted b).debt } := by
    have hstn : v.wireDone.stn = v.stn := congrArg Straps.stn hp.change.alarm.straps
    have hr : v.wireDone.window.record = some rec := hp.change.alarm.record.trans hrec
    calc u.scene.strip = { v.wireDone.scene.strip with
            record := v.wireDone.window.record.map (fun r => r.finishUnit n v.wireDone.stn .done)
            doneHere := v.wireDone.scene.strip.doneHere + 1
            table := v.wireDone.energy.working
            counters := v.wireDone.scene.strip.counters.modify 10 Counter.bump } := by rw [hc]; rfl
      _ = _ := by rw [hp.onward.strip, hr, hstn, hp.change.alarm.energy]; rfl
  have hwind2 : u.windsDown = false := by
    have h2 : v.wireDone.windsDown = false := by
      rw [State.windsDown, hhead, hp.change.alarms]
      exact hwind
    rw [hc]
    exact h2
  rw [State.completeWire_last hw hl (by rwa [hu]), hu] at ht
  have hfull2 : u.boundary1.agenda.full = false := by
    have hf : u.agenda.full = v.agenda.full := congrArg StripView.full hstrip
    rcases u.boundary1_onward with h | h <;> exact (congrArg StripView.full h.strip).trans (hf.trans hfull)
  have hon : Onward t u ∨ Onward t (u.onRecord (fun r => { r with skipped := true })) := by
    rw [ht]
    exact u.boundary1_onward.imp (State.finish_settle_onward old _ hfull2).trans
      (State.finish_settle_onward old _ hfull2).trans
  obtain ⟨r', hr', hf⟩ := (StripRecord.finishUnit_finishes he hst v.stn .done).of_boundary
    (congrArg StripView.record hstrip) hon
  have hk := Onward.strip_of_boundary hon
  rw [hstrip] at hk
  exact ⟨r', hr', hf, congrArg StripView.doneHere hk, congrArg StripView.table hk, congrArg StripView.wireCount hk,
    congrArg StripView.debt hk, congrArg StripView.counters hk⟩

end

/-- Settles O37: the completed wire either begins the next one or makes the unit DONE. -/
theorem sparkOkCompletesWire : Obligations.SparkOkCompletesWire := by
  intro p s rest r w n b hop hw hb hs hwind hd
  have hx := exec_sparkOk p hop hs hd
  generalize hv : ({ s.begin_ p with due := rest } : State) = v at hx
  have hvw : v.onWire r w n := hv ▸ hw
  have hvb : v.activeSet = some b := hv ▸ hb
  have hvwind : v.windsDown = false := hv ▸ hwind
  have hhead : v.head = s.head := hv ▸ rfl
  have hstn : v.stn = s.stn := hv ▸ rfl
  have hwindow : v.window = s.window := hv ▸ rfl
  have henergy : v.energy = s.energy := hv ▸ rfl
  have htally : v.tally = s.tally := hv ▸ rfl
  have hcalm : v.agenda.calm = true := hv ▸ rfl
  have hfull : v.agenda.full = false := hv ▸ rfl
  refine ⟨fun hl hhold hdebt hfine => ⟨_, hx, ?_⟩, fun hl rec e hrec he hst => ?_⟩
  · have k := State.completeWire_next_settled (old := s) rfl hcalm hvw hvb hvwind (hhead ▸ hl) (hv ▸ hhold)
      (by rw [hhead]; exact hdebt) (hv ▸ hfine)
    rw [hhead, htally, hwindow] at k
    exact k
  · obtain ⟨r', hr', hf, hrest⟩ := State.completeWire_last_settled (old := s) rfl hfull hvw hvb hvwind (hhead ▸ hl)
      (hwindow ▸ hrec) he hst
    rw [hhead, htally, hwindow, henergy] at hrest
    rw [hstn] at hf
    exact ⟨_, r', hx, hr', hf.entry, hf.others, hf.partials, hrest⟩

end Sys2Proof.Machine

/-! ## O40: the strip sensors move the window -/

namespace Sys2Proof.Machine

/-! ### Raised alarms (R31, R103) -/

/-- `t` comes from `s` by frames placed and by alarms of the kinds `ks` raised. -/
structure Raises (ks : List AlarmKind) (t s : State) : Prop where
  change : AlarmChange t s
  out : s.out ⊆ t.out
  agenda : t.agenda = { s.agenda with beacon := t.agenda.beacon }
  queue : ∃ l, t.alarms.queue = s.alarms.queue ++ l ∧ ∀ e ∈ l, e.kind ∈ ks
  awaits : ∀ u, u ≠ .clampStrip → u ≠ .belt → t.awaiting u = s.awaiting u

theorem Posts.raises {t s : State} (h : Posts t s) (ks : List AlarmKind) : Raises ks t s where
  change := h.change.alarm
  out := h.out
  agenda := h.agenda
  queue := ⟨[], by rw [List.append_nil]; exact congrArg Alarms.queue h.change.alarms, fun _ m => absurd m List.not_mem_nil⟩
  awaits := h.awaits

theorem Raises.trans {ks : List AlarmKind} {u t s : State} (h : Raises ks u t) (k : Raises ks t s) : Raises ks u s where
  change := h.change.trans k.change
  out := List.Subset.trans k.out h.out
  agenda := by rw [h.agenda, k.agenda]
  queue := by
    obtain ⟨l, hl, kl⟩ := h.queue
    obtain ⟨m, hm, km⟩ := k.queue
    exact ⟨m ++ l, by rw [hl, hm, List.append_assoc], fun e he => (List.mem_append.mp he).elim (km e) (kl e)⟩
  awaits v hc hb := (h.awaits v hc hb).trans (k.awaits v hc hb)

theorem State.raise_raises (s : State) {k : AlarmKind} {ks : List AlarmKind} (h : k ∈ ks) : Raises ks (s.raise k) s := by
  unfold State.raise
  split
  · exact (Posts.refl s).raises ks
  · have hp := s.addAlarm_posts ⟨freeSeq s.alarms.queue 17 s.alarms.counter, k, s.context⟩
    refine ⟨s.addAlarm_change _, hp.out, hp.agenda, ⟨[⟨freeSeq s.alarms.queue 17 s.alarms.counter, k, s.context⟩],
      congrArg Alarms.queue hp.change.alarms, fun e m => ?_⟩, hp.awaits⟩
    rw [List.mem_singleton.mp m]
    exact h

theorem AlarmChange.window {t s : State} (h : AlarmChange t s) :
    t.window = { s.window with recordQueued := t.window.recordQueued } := (congrArg State.window h :)

theorem AlarmChange.operating {t s : State} (h : AlarmChange t s) : t.operating = s.operating := by
  rw [State.operating, h.phase, h.dup, State.operating]

/-- The alarms that the clamping of a strip can raise (R31, R103). -/
def clampAlarms : List AlarmKind := [.recordLost, .staleGeneration]

theorem State.testStale_raises (s : State) : Raises clampAlarms s.testStale s := by
  unfold State.testStale
  split
  · split
    · exact s.raise_raises (by decide)
    · exact (Posts.refl s).raises _
  · exact (Posts.refl s).raises _

/-! ### The clamping of a strip (R103, R109, R112) -/

/-- The strip is clamped with the record `r` and counted; no frame is placed and no alarm raised yet. -/
def State.clampedWith (s : State) (r : StripRecord) : State :=
  ((({ s.dropStripData.stripClampReq true with
    window.state := .clamped
    window.record := some r
    window.inbound := none
    window.inboundSerial := none
    window.arrivalTimer := none } : State).count .stripsReceived).askHead.askStrip)

theorem State.clampedWith_operating (s : State) (r : StripRecord) : (s.clampedWith r).operating = s.operating := by
  have hphase : (s.clampedWith r).phase = s.phase := rfl
  have hdup : (s.clampedWith r).dup = s.dup := rfl
  rw [State.operating, hphase, hdup, State.operating]

/-- A clamped strip without a record raises RECORD LOST before it is tested for STALE GENERATION. -/
theorem State.clampStrip_raises (s : State) (r : StripRecord) (lost : Bool) :
    Raises clampAlarms (s.clampStrip r lost) (s.clampedWith r) := by
  have hq : Raises clampAlarms (s.clampedWith r).queueBeacon (s.clampedWith r) := (State.queueBeacon_posts _).raises _
  unfold State.clampStrip
  extract_lets a b s1 s2
  have h2 : Raises clampAlarms s2 (s.clampedWith r) := hq
  refine (State.testStale_raises _).trans ?_
  cases lost with
  | false => exact h2
  | true => exact (State.raise_raises s2 (by decide)).trans h2

/-- The strip clamp's CLOSE is the only answer that becomes due. -/
theorem State.clampStrip_awaiting (s : State) (r : StripRecord) (lost : Bool) {u : Use} (hc : u ≠ .clampStrip)
    (hb : u ≠ .belt) : (s.clampStrip r lost).awaiting u = s.awaiting u := by
  rw [(s.clampStrip_raises r lost).awaits u hc hb]
  have hne : (Use.clampStrip == u) = false := beq_eq_false_iff_ne.mpr (Ne.symm hc)
  show (s.due ++ [(⟨.stripClamp, .clampStrip, true⟩ : Due)]).any (fun d => d.use == u && d.live) = s.awaiting u
  simp [State.awaiting, hne]

theorem State.raise_open (s : State) (k : AlarmKind) (h : s.operating = true) : (s.raise k).alarmOpen k = true := by
  rw [State.alarmOpen, State.raise_queue]
  split
  · next hc => simpa [h, State.alarmOpen] using hc
  · simp

theorem Raises.alarmOpen {ks : List AlarmKind} {t s : State} (h : Raises ks t s) {k : AlarmKind}
    (hk : s.alarmOpen k = true) : t.alarmOpen k = true := by
  obtain ⟨l, hl, -⟩ := h.queue
  simp only [State.alarmOpen, hl, List.any_append, Bool.or_eq_true]
  exact .inl hk

theorem State.clampStrip_lost (s : State) (r : StripRecord) (h : s.operating = true) :
    (s.clampStrip r true).alarmOpen .recordLost = true := by
  unfold State.clampStrip
  extract_lets a b s1 s2
  have hq : s2.operating = true := by
    have hc := (State.queueBeacon_change (s1.count .stripsReceived).askHead.askStrip).alarm
    exact hc.operating.trans h
  exact (State.testStale_raises _).alarmOpen (State.raise_open s2 .recordLost hq)

/-- In `v` the strip that arrived at `s` is clamped with the record `r`, and counted. -/
structure Clamps (r : StripRecord) (v s : State) : Prop where
  record : v.window.record = some r
  state : v.window.state = .clamped
  doneHere : v.window.doneHere = 0
  inbound : v.window.inbound = none
  serial : v.window.inboundSerial = none
  timer : v.window.arrivalTimer = none
  out : .stripClamp true ∈ v.out
  counters : v.tally.counters = s.tally.counters.modify 12 Counter.bump
  full : v.agenda.full = s.agenda.full

theorem State.clampStrip_clamps (s : State) (r : StripRecord) (lost : Bool) : Clamps r (s.clampStrip r lost) s := by
  have h := s.clampStrip_raises r lost
  have hw := h.change.window
  constructor
  · rw [hw]; rfl
  · rw [hw]; rfl
  · rw [hw]; rfl
  · rw [hw]; rfl
  · rw [hw]; rfl
  · rw [hw]; rfl
  · exact h.out (List.mem_append_right _ (List.mem_singleton.mpr rfl))
  · rw [h.change.tally]; rfl
  · rw [h.agenda]; rfl

/-- The clamped strip at the end of its event: it may have been offered or unloaded already. -/
theorem Clamps.settled {r : StripRecord} {v s old t : State} (h : Clamps r v s) (hf : s.agenda.full = false)
    (ht : t = State.finish old v.settle) :
    Onward t v ∧ t.window.record = some r ∧ t.window.doneHere = 0 ∧ t.window.inbound = none
      ∧ t.window.inboundSerial = none ∧ t.window.arrivalTimer = none ∧ t.window.state ≠ .inbound
      ∧ t.window.state ≠ .empty ∧ .stripClamp true ∈ t.out
      ∧ t.tally.counters = s.tally.counters.modify 12 Counter.bump := by
  have k : Onward t v := ht ▸ State.finish_settle_onward old v (h.full.trans hf)
  have hw : t.window.state ≠ .inbound ∧ t.window.state ≠ .empty := by
    have kw : t.window.state = v.window.state ∨ _ := k.window
    rw [h.state] at kw
    rcases kw with kw | ⟨-, -, kw⟩
    · simp [kw]
    · have kt : t.window.state = .offered ∨ t.window.state = .outbound := kw
      rcases kt with kt | kt <;> simp [kt]
  exact ⟨k, (congrArg StripView.record k.strip).trans h.record, (congrArg StripView.doneHere k.strip).trans h.doneHere,
    (congrArg StripView.inbound k.strip).trans h.inbound, (congrArg StripView.inboundSerial k.strip).trans h.serial,
    (congrArg StripView.arrivalTimer k.strip).trans h.timer, hw.1, hw.2, k.out h.out,
    (congrArg StripView.counters k.strip).trans h.counters⟩

theorem Onward.alarmOpen {t s : State} (h : Onward t s) {k : AlarmKind} (hk : s.alarmOpen k = true) :
    t.alarmOpen k = true := by
  obtain ⟨l, hl, -⟩ := h.alarms
  have hq : t.alarms.queue = s.alarms.queue ++ l := hl
  simp only [State.alarmOpen, hq, List.any_append, Bool.or_eq_true]
  exact .inl hk

/-- Work that goes on opens no alarm of another kind. -/
theorem Onward.alarmOpen_eq {t s : State} (h : Onward t s) {k : AlarmKind} (hk : k ∉ startAlarms) :
    t.alarmOpen k = s.alarmOpen k := by
  obtain ⟨l, hl, hm⟩ := h.alarms
  have hq : t.alarms.queue = s.alarms.queue ++ l := hl
  have hn : l.any (fun e => e.kind == k) = false := by
    rw [List.any_eq_false]
    intro e he hek
    exact hk (eq_of_beq hek ▸ hm e he)
  simp only [State.alarmOpen, hq, List.any_append, hn, Bool.or_false]

/-- An alarm that holds the window keeps the strip there. -/
theorem Onward.held {t s : State} (h : Onward t s) {k : AlarmKind} (hk : s.alarmOpen k = true)
    (hw : k.holdsWindow = true) : t.window.state = s.window.state := by
  rcases h.window with e | ⟨-, hn, -⟩
  · exact e
  · obtain ⟨x, hx, hxk⟩ := List.any_eq_true.mp hk
    have := List.any_eq_false.mp hn x hx
    rw [eq_of_beq hxk, hw] at this
    exact absurd rfl this

/-! ### The events of the sensors -/

section
variable {s : State} {p : Pins}

/-- An event that a part acts on once its start-up is finished. -/
theorem event_whenRunning (f : State → State) (hop : s.operating = true) (hrun : s.running = true) :
    event s p (fun t => t.whenRunning f) = .next (State.finish s (f (s.begin_ p)).settle) := by
  have hg : (s.begin_ p).whenRunning f = f (s.begin_ p) := by
    have h1 : (s.begin_ p).operating = true := hop
    have h2 : (s.begin_ p).running = true := hrun
    simp [State.whenRunning, h1, h2]
  rw [event, answer, s.perform_on p _ hop, State.perform, hg]

theorem exec_stripInRises (hop : s.operating = true) (hrun : s.running = true) :
    exec (.stripInRises p) s = .next (State.finish s (s.begin_ p).stripIn.settle) :=
  event_whenRunning State.stripIn hop hrun

theorem exec_stripOutClears (hop : s.operating = true) (hrun : s.running = true) :
    exec (.stripOutClears p) s = .next (State.finish s (s.begin_ p).stripOutClear.settle) :=
  event_whenRunning State.stripOutClear hop hrun

/-- Under TRANSFER JAM the sensors move nothing (R107). -/
theorem State.stripIn_jam (h : s.alarmOpen .transferJam = true) : s.stripIn = s := by
  simp [State.stripIn, h]

theorem State.stripOutClear_jam (h : s.alarmOpen .transferJam = true) : s.stripOutClear = s := by
  simp [State.stripOutClear, h]

/-- An event without an effect leaves the state as the levels find it, but for the GRADE line. -/
theorem State.finish_begin (s : State) (p : Pins) : SameButLine (State.finish s (s.begin_ p).settle) (s.begin_ p) := by
  rw [State.settle_calm rfl]
  exact State.finish_quiet rfl rfl

end

end Sys2Proof.Machine

/-! ## O40, continued: strips with a record, without one, and fed ones -/

namespace Sys2Proof.Machine

/-! ### A strip without a record (R8) -/

/-- RECORD LOST keeps a strip clamped without a record in the window (R8, R103). -/
theorem State.clampUnknown_settled {w old t : State} (hop : w.operating = true) (hf : w.agenda.full = false)
    (ht : t = State.finish old w.clampUnknown.settle) :
    t.window.record = some w.unknownStrip ∧ t.window.state = .clamped ∧ t.alarmOpen .recordLost = true
      ∧ .stripClamp true ∈ t.out ∧ t.tally.counters = w.tally.counters.modify 12 Counter.bump := by
  have hc := w.clampStrip_clamps w.unknownStrip true
  have hlost := w.clampStrip_lost w.unknownStrip hop
  obtain ⟨k, hrec, -, -, -, -, -, -, hout, hcount⟩ := hc.settled hf ht
  exact ⟨hrec, (k.held hlost rfl).trans hc.state, k.alarmOpen hlost, hout, hcount⟩

/-- An EMPTY window takes a strip without a record; a search is given up for it (R109, R119). -/
theorem State.stripIn_empty {s : State} (hj : s.alarmOpen .transferJam = false) (h : s.window.state = .empty) :
    s.stripIn = s.clampUnknown ∨ s.stripIn = s.giveUpSearch.clampUnknown := by
  simp only [State.stripIn, hj, h, Bool.false_eq_true, if_false]
  split
  · exact .inr rfl
  · exact .inl rfl

theorem State.stripIn_inbound {s : State} (hj : s.alarmOpen .transferJam = false) (h : s.window.state = .inbound)
    (hf : s.isFirst = false) : s.stripIn = s.clampInbound := by
  simp only [State.stripIn, hj, h, hf, Bool.false_eq_true, if_false]

/-! ### A fed strip (R112, R120, R122) -/

/-- The input magazine once its strip has arrived. -/
def InMag.arrived (m : InMag) : InMag := { m.feedDone with serialCounter := nextSerial m.serialCounter }

theorem InMag.arrived_slot {m : InMag} {n : Nat} (hs : m.feedSlot = some n) (h1 : 1 ≤ n) (h2 : n ≤ 20)
    (hl : m.slots.length = 20) : m.arrived.slot n = .fed := by
  have hlt : n - 1 < m.slots.length := by omega
  simp [InMag.arrived, InMag.feedDone, InMag.slot, InMag.setSlot, slotIndex, hs, hlt]

/-- The feed's state once its strip has arrived. -/
def State.arrived (s : State) : State := { s with inMag := s.inMag.arrived }

theorem State.feedArrival_of_active {s : State} {h : HeldSet} (ha : s.recipes.active = some h) (b : Bool) :
    s.feedArrival b = (s.arrived.clampStrip (newRecord s.inMag.serialCounter h) false).afterArrival b := by
  unfold State.feedArrival
  simp only [State.onInMag, ha]
  rfl

theorem newRecord_selected (n : Nat) (h : HeldSet) : newRecord n h = {
    serial := n, generation := h.recipe.generation, run := h.run
    units := List.replicate h.recipe.units ⟨.opened, 0⟩, partials := []
    selected := decide (h.recipe.pullInterval ≠ 0 ∧ n % h.recipe.pullInterval = 0)
    taken := false, skipped := false } := by
  simp only [newRecord, StripRecord.mk.injEq, true_and, and_true]
  rw [Bool.eq_iff_iff]
  simp

section
variable {r : StripRecord} {c s : State}

theorem Clamps.afterArrival (h : Clamps r c s) (b : Bool) : Clamps r (c.afterArrival b) s := by
  have hk (m : InMag) (a : Bool) :
      Clamps r { c with inMag := m, agenda.feed := a } s :=
    ⟨h.record, h.state, h.doneHere, h.inbound, h.serial, h.timer, h.out, h.counters, h.full⟩
  unfold State.afterArrival
  split
  · split
    · exact hk _ _
    · exact hk _ _
  · split
    · exact hk _ _
    · exact ⟨h.record, h.state, h.doneHere, h.inbound, h.serial, h.timer, List.mem_append_left _ h.out, h.counters, h.full⟩

/-- What the arrival leaves of the magazine's counts and map. -/
theorem State.afterArrival_map (c : State) (b : Bool) :
    (c.afterArrival b).inMag.slots = c.inMag.slots ∧ (c.afterArrival b).inMag.fed = c.inMag.fed
      ∧ (c.afterArrival b).inMag.serialCounter = c.inMag.serialCounter
      ∧ (c.inMag.feedTimer = none → (c.afterArrival b).inMag.feedTimer = none) := by
  unfold State.afterArrival
  split
  · split
    · exact ⟨rfl, rfl, rfl, fun h => h⟩
    · exact ⟨rfl, rfl, rfl, fun _ => rfl⟩
  · split
    · exact ⟨rfl, rfl, rfl, fun h => h⟩
    · exact ⟨rfl, rfl, rfl, fun h => h⟩

/-- An arrival in time: the pusher retracts, at once where the push has been answered (R120). -/
theorem State.afterArrival_pushed (c : State) : (c.afterArrival false).inMag.feed = .retracting
    ∧ (c.awaiting .push = false → .move .p 0 .plain ∈ (c.afterArrival false).out) := by
  unfold State.afterArrival
  simp only [Bool.false_eq_true, if_false]
  split
  · next h => exact ⟨rfl, fun e => absurd (h.symm.trans e) (by decide)⟩
  · exact ⟨rfl, fun _ => List.mem_append_right _ (List.mem_singleton.mpr rfl)⟩

/-- A late arrival: the retract has been made, and its answer decides the feed's state (R122; log entry 50). -/
theorem State.afterArrival_late (c : State) :
    (c.afterArrival true).inMag.waiting = none ∧ (c.afterArrival true).inMag.retrying = false
      ∧ (c.afterArrival true).inMag.feed = if c.awaiting .retract then .retracting else .idle := by
  unfold State.afterArrival
  simp only [if_true]
  split <;> exact ⟨rfl, rfl, rfl⟩

/-! ### FEED JAM settled by the late arrival (R122, R168) -/

theorem State.askSettled_full (s : State) (k : AlarmKind) : (s.askSettled k).agenda.full = s.agenda.full := by
  unfold State.askSettled
  split
  · rfl
  · split <;> rfl

theorem State.clearAlarm_full (s : State) (k : AlarmKind) : (s.clearAlarm k).agenda.full = s.agenda.full := by
  unfold State.clearAlarm
  split
  · next e _ =>
    split
    · obtain ⟨u, hu, hp⟩ := s.removeAlarm_asks e .cleared 0
      rw [hu, State.askSettled_full, hp.agenda]
    · rfl
  · rfl

theorem Clamps.clearAlarm (h : Clamps r c s) (k : AlarmKind) : Clamps r (c.clearAlarm k) s := by
  have hk := c.clearAlarm_change k
  have hw := hk.window
  constructor
  · rw [hw]; exact h.record
  · rw [hw]; exact h.state
  · rw [hw]; exact h.doneHere
  · rw [hw]; exact h.inbound
  · rw [hw]; exact h.serial
  · rw [hw]; exact h.timer
  · exact (c.clearAlarm_news k).2.2.2.subset h.out
  · rw [hk.tally]; exact h.counters
  · rw [c.clearAlarm_full k]; exact h.full

/-- Where the alarms of a kind share their sequence, clearing the kind closes it. -/
theorem State.clearAlarm_closes (k : AlarmKind) (hop : c.operating = true)
    (hk : ∀ x ∈ c.alarms.queue, ∀ y ∈ c.alarms.queue, x.kind = k → y.kind = k → x.seq = y.seq) :
    (c.clearAlarm k).alarmOpen k = false := by
  unfold State.clearAlarm
  split
  · next e he =>
    simp only [hop, if_true, State.alarmOpen, State.removeAlarm_queue, List.any_eq_false, List.mem_filter]
    rintro x ⟨hx, hne⟩ hxk
    have hf : c.alarms.queue.find? (fun x => x.kind == k) = some e := he
    have hek : e.kind = k := by simpa using List.find?_some hf
    exact bne_iff_ne.mp hne (hk x hx e (List.mem_of_find?_eq_some hf) (eq_of_beq hxk) hek)
  · next he =>
    simpa [State.alarmOpen, State.openAlarm] using he

end

end Sys2Proof.Machine

/-! ## O40, concluded -/

namespace Sys2Proof.Machine

/-- The magazine's map and counts after an arrival. -/
structure InMag.FedFrom (m m0 : InMag) : Prop where
  slots : m.slots = m0.arrived.slots
  fed : m.fed = m0.fed + 1
  serial : m.serialCounter = nextSerial m0.serialCounter
  timer : m.feedTimer = none

theorem State.clampArrived_inMag (s : State) (r : StripRecord) : (s.arrived.clampStrip r false).inMag = s.inMag.arrived :=
  (s.arrived.clampStrip_raises r false).change.inMag

section
variable {s : State} {h : HeldSet}

/-- A fed strip is clamped with a new record, and the map and the counts follow (R112, R120). -/
theorem State.feedArrival_clamps (ha : s.recipes.active = some h) (b : Bool) :
    Clamps (newRecord s.inMag.serialCounter h) (s.feedArrival b) s ∧ (s.feedArrival b).inMag.FedFrom s.inMag := by
  rw [State.feedArrival_of_active ha]
  have k := s.arrived.clampStrip_clamps (newRecord s.inMag.serialCounter h) false
  have hc : Clamps (newRecord s.inMag.serialCounter h)
      (s.arrived.clampStrip (newRecord s.inMag.serialCounter h) false) s :=
    ⟨k.record, k.state, k.doneHere, k.inbound, k.serial, k.timer, k.out, k.counters, k.full⟩
  have hm := s.clampArrived_inMag (newRecord s.inMag.serialCounter h)
  obtain ⟨hslots, hfed, hserial, htimer⟩ :=
    State.afterArrival_map (s.arrived.clampStrip (newRecord s.inMag.serialCounter h) false) b
  rw [hm] at hslots hfed hserial htimer
  exact ⟨hc.afterArrival b, hslots, hfed, hserial, htimer rfl⟩

/-- The pusher after an arrival in time (R120). -/
theorem State.feedArrival_pushed (ha : s.recipes.active = some h) : (s.feedArrival false).inMag.feed = .retracting
    ∧ (s.awaiting .push = false → .move .p 0 .plain ∈ (s.feedArrival false).out) := by
  rw [State.feedArrival_of_active ha]
  obtain ⟨hfeed, hout⟩ := State.afterArrival_pushed (s.arrived.clampStrip (newRecord s.inMag.serialCounter h) false)
  refine ⟨hfeed, fun e => hout ?_⟩
  exact (s.arrived.clampStrip_awaiting _ false (by decide) (by decide)).trans e

theorem State.ignoreDue_awaiting (s : State) {u v : Use} (huv : u ≠ v) :
    (s.ignoreDue (fun d => d.use == v)).awaiting u = s.awaiting u := by
  simp only [State.awaiting, State.ignoreDue, List.any_map]
  congr 1
  funext d
  by_cases hd : d.use = v
  · simp [hd, Ne.symm huv]
  · simp [hd]

theorem State.afterArrival_alarms (c : State) (b : Bool) : (c.afterArrival b).alarms = c.alarms
    ∧ (c.afterArrival b).operating = c.operating := by
  unfold State.afterArrival
  split
  · split <;> exact ⟨rfl, rfl⟩
  · split <;> exact ⟨rfl, rfl⟩

/-- What a late arrival finds of the alarms: STALE GENERATION may have joined them. -/
theorem State.feedArrival_alarms (ha : s.recipes.active = some h) (b : Bool) :
    (∃ l, (s.feedArrival b).alarms.queue = s.alarms.queue ++ l ∧ ∀ e ∈ l, e.kind ∈ clampAlarms)
      ∧ (s.feedArrival b).operating = s.operating := by
  rw [State.feedArrival_of_active ha]
  have k := s.arrived.clampStrip_raises (newRecord s.inMag.serialCounter h) false
  obtain ⟨halarms, hop⟩ := State.afterArrival_alarms
    (s.arrived.clampStrip (newRecord s.inMag.serialCounter h) false) b
  rw [halarms]
  exact ⟨k.queue, hop.trans (k.change.operating.trans (s.arrived.clampedWith_operating _))⟩

/-- A late arrival clamps its strip and settles FEED JAM; the retract's answer decides the feed's state (R122). -/
theorem State.lateArrival_clamps (ha : s.recipes.active = some h) :
    Clamps (newRecord s.inMag.serialCounter h) s.lateArrival s ∧ s.lateArrival.inMag.FedFrom s.inMag
      ∧ s.lateArrival.inMag.waiting = none ∧ s.lateArrival.inMag.retrying = false
      ∧ s.lateArrival.inMag.feed = (if s.awaiting .retract then .retracting else .idle) := by
  have ha2 : (s.ignoreDue (fun d => d.use == .feedRetry)).recipes.active = some h := ha
  generalize hv : s.ignoreDue (fun d => d.use == .feedRetry) = v at ha2
  have hinMag : v.inMag = s.inMag := hv ▸ rfl
  obtain ⟨k, hfed⟩ := State.feedArrival_clamps ha2 true
  have hw : v.awaiting .retract = s.awaiting .retract := hv ▸ s.ignoreDue_awaiting (by decide)
  have hlate : (v.feedArrival true).inMag.waiting = none ∧ (v.feedArrival true).inMag.retrying = false
      ∧ (v.feedArrival true).inMag.feed = (if s.awaiting .retract then .retracting else .idle) := by
    rw [State.feedArrival_of_active ha2]
    have hl := State.afterArrival_late (v.arrived.clampStrip (newRecord v.inMag.serialCounter h) false)
    have he : (v.arrived.clampStrip (newRecord v.inMag.serialCounter h) false).awaiting .retract
        = s.awaiting .retract := (v.arrived.clampStrip_awaiting _ false (by decide) (by decide)).trans hw
    rwa [he] at hl
  have hm : s.lateArrival.inMag = (v.feedArrival true).inMag := by
    rw [State.lateArrival, hv]
    exact (State.clearAlarm_change _ _).inMag
  rw [hinMag] at k hfed
  have k2 := k.clearAlarm .feedJam
  have hcount : v.tally = s.tally := hv ▸ rfl
  have hagenda : v.agenda = s.agenda := hv ▸ rfl
  rw [hm]
  refine ⟨?_, hfed, hlate⟩
  rw [State.lateArrival, hv]
  exact ⟨k2.record, k2.state, k2.doneHere, k2.inbound, k2.serial, k2.timer, k2.out, hcount ▸ k2.counters,
    hagenda ▸ k2.full⟩

/-- FEED JAM is closed by the late arrival (R122, R168). -/
theorem State.lateArrival_closes (ha : s.recipes.active = some h) (hop : s.operating = true)
    (hids : s.alarms.idsOk = true) : s.lateArrival.alarmOpen .feedJam = false := by
  obtain ⟨⟨l, hl, hk⟩, ho⟩ := State.feedArrival_alarms (s := s.ignoreDue (fun d => d.use == .feedRetry)) ha true
  have hnodup : (s.alarms.queue.map (·.kind)).Nodup := by
    simp only [Alarms.idsOk, Bool.and_eq_true, decide_eq_true_eq] at hids
    exact hids.1.1.1
  have hold : ∀ x ∈ ((s.ignoreDue (fun d => d.use == .feedRetry)).feedArrival true).alarms.queue,
      x.kind = .feedJam → x ∈ s.alarms.queue := by
    intro x hx hxk
    rw [hl] at hx
    rcases List.mem_append.mp hx with hx | hx
    · exact hx
    · have := hk x hx
      rw [hxk] at this
      exact absurd this (by decide)
  refine State.clearAlarm_closes .feedJam (ho.trans hop) fun x hx y hy hxk hyk => ?_
  exact congrArg AlarmEntry.seq (List.inj_on_of_nodup_map hnodup (hold x hx hxk) (hold y hy hyk) (hxk.trans hyk.symm))

end

/-- A fed strip at the end of its event. -/
theorem Clamps.fed_settled {h : HeldSet} {v s old t : State} {n : Nat}
    (hc : Clamps (newRecord s.inMag.serialCounter h) v s) (hfed : v.inMag.FedFrom s.inMag)
    (hf : s.agenda.full = false) (ht : t = State.finish old v.settle) (hs : s.inMag.feedSlot = some n) (h1 : 1 ≤ n)
    (h2 : n ≤ 20) (hl : s.inMag.slots.length = 20) :
    (t.window.record = some (newRecord s.inMag.serialCounter h) ∧ t.window.state ≠ .inbound ∧ t.window.state ≠ .empty
      ∧ .stripClamp true ∈ t.out
      ∧ t.inMag.serialCounter = (if 4294967295 ≤ s.inMag.serialCounter then 1 else s.inMag.serialCounter + 1)
      ∧ t.inMag.slot n = .fed ∧ t.inMag.fed = s.inMag.fed + 1 ∧ t.inMag.feedTimer = none
      ∧ t.tally.counters = s.tally.counters.modify 12 Counter.bump)
    ∧ t.inMag = v.inMag ∧ Onward t v := by
  obtain ⟨k, hrec, -, -, -, -, hw1, hw2, hout, hcount⟩ := hc.settled hf ht
  have hm : t.inMag = v.inMag := k.inMag (by rw [State.scene]; exact fun e => by rw [hc.state] at e; cases e)
  have hslot : v.inMag.slot n = .fed := by
    rw [InMag.slot, hfed.slots]
    exact InMag.arrived_slot hs h1 h2 hl
  rw [hm]
  exact ⟨⟨hrec, hw1, hw2, hout, hfed.serial, hslot, hfed.fed, hfed.timer, hcount⟩, rfl, k⟩

theorem State.stripIn_fed {s : State} (hj : s.alarmOpen .transferJam = false) (h : s.window.state = .inbound)
    (hf : s.isFirst = true) : s.stripIn = s.fedStripIn := by
  simp only [State.stripIn, hj, h, hf, Bool.false_eq_true, if_false, if_true]

theorem State.stripOutClear_passed {s : State} (hj : s.alarmOpen .transferJam = false) (h : s.window.state = .outbound)
    (he : s.isEnd = false) : s.stripOutClear = (s.count .stripsPassed).giveUpRecord := by
  simp only [State.stripOutClear, hj, h, he, ne_eq, not_true_eq_false, or_false, Bool.false_eq_true, if_false]

/-- A strip that has left at the end of its event: the window is EMPTY, and the strip's data are gone (R1, R104). -/
theorem State.giveUpRecord_settled {s old t : State} (hf : s.agenda.full = false)
    (ht : t = State.finish old s.giveUpRecord.settle) :
    t.window.state = .empty ∧ t.window.record = none ∧ t.window.doneHere = 0 ∧ t.window.exitTimer = none
      ∧ t.window.forward = false ∧ t.window.freshWait = false ∧ t.head.surface = none ∧ t.energy.table = none
      ∧ t.tally.counters = s.tally.counters := by
  have hp : Posts s.giveUpRecord _ := State.queueBeacon_posts _
  have hfull : s.giveUpRecord.agenda.full = false := by
    rw [hp.agenda]
    exact hf
  have k := ht ▸ (State.finish_settle_onward old _ hfull).trans hp.onward
  have hw : t.window.state = .empty := by
    rcases k.window with e | ⟨e, -⟩
    · exact e
    · have hne : WindowState.empty = .clamped := e
      cases hne
  exact ⟨hw, congrArg StripView.record k.strip, congrArg StripView.doneHere k.strip,
    congrArg StripView.exitTimer k.strip, congrArg StripView.forward k.strip, congrArg StripView.freshWait k.strip,
    congrArg StripView.surface k.strip, congrArg StripView.table k.strip, congrArg StripView.counters k.strip⟩

theorem State.unknownStrip_units (s : State) : s.unknownStrip = unknownRecord
    (match s.recipes.active with | some h => h.recipe.units | none => 48) := by
  unfold State.unknownStrip State.activeSet
  cases s.recipes.active <;> rfl

/-- Settles O40: each sensor's event clamps or gives up the strip, and what follows it leaves that. -/
theorem stripSensorsMoveTheWindow : Obligations.StripSensorsMoveTheWindow := by
  intro p s hop hrun
  have hin := exec_stripInRises (p := p) hop hrun
  have hout := exec_stripOutClears (p := p) hop hrun
  refine ⟨fun hj => ⟨?inbound, ?unknown, ?fed, ?left⟩, fun hj => ?jam⟩
  case inbound =>
    intro r hw hf hr
    have e : (s.begin_ p).stripIn = (s.begin_ p).clampStrip r false := by
      rw [State.stripIn_inbound (s := s.begin_ p) hj hw hf, State.clampInbound]
      simp only [State.begin_window, hr]
    rw [e] at hin
    obtain ⟨-, k⟩ := ((s.begin_ p).clampStrip_clamps r false).settled (old := s) rfl rfl
    exact ⟨_, hin, k⟩
  case unknown =>
    intro hw
    have hu := s.unknownStrip_units
    have hcases : (s.begin_ p).stripIn = (s.begin_ p).clampUnknown
        ∨ (s.begin_ p).stripIn = (s.begin_ p).giveUpSearch.clampUnknown := by
      rcases hw with hw | ⟨hw, hf, hr⟩
      · exact State.stripIn_empty (s := s.begin_ p) hj hw
      · refine .inl ?_
        rw [State.stripIn_inbound (s := s.begin_ p) hj hw hf, State.clampInbound]
        simp only [State.begin_window, hr]
    rcases hcases with e | e <;> rw [e] at hin
    · obtain ⟨hrec, k⟩ := State.clampUnknown_settled (w := s.begin_ p) (old := s) hop rfl rfl
      exact ⟨_, hin, hrec.trans (congrArg some hu), k⟩
    · obtain ⟨hrec, k⟩ := State.clampUnknown_settled (w := (s.begin_ p).giveUpSearch) (old := s) hop rfl rfl
      exact ⟨_, hin, hrec.trans (congrArg some hu), k⟩
  case fed =>
    intro h n hw hf ha hs h1 h2 hl hfeed
    have ha2 : (s.begin_ p).recipes.active = some h := ha
    rcases hfeed with hfeed | ⟨hfeed, hids⟩
    · have e : (s.begin_ p).stripIn = (s.begin_ p).feedArrival false := by
        rw [State.stripIn_fed (s := s.begin_ p) hj hw hf, State.fedStripIn]
        simp only [State.begin_inMag, hfeed]
      rw [e] at hin
      obtain ⟨hc, hfed⟩ := State.feedArrival_clamps ha2 false
      obtain ⟨hpush, hmove⟩ := State.feedArrival_pushed ha2
      obtain ⟨⟨hrec, k1, k2, k3, k4, k5, k6, k7, k8⟩, hm, hon⟩ :=
        hc.fed_settled (old := s) hfed rfl rfl hs h1 h2 hl
      refine ⟨_, hin, hrec.trans (congrArg some (newRecord_selected _ h)), k1, k2, k3, k4, k5, k6, k7, k8,
        fun _ => ⟨by rw [hm]; exact hpush, fun he => hon.out (hmove he)⟩, fun hjam => ?_⟩
      rw [hfeed] at hjam
      cases hjam
    · have e : (s.begin_ p).stripIn = (s.begin_ p).lateArrival := by
        rw [State.stripIn_fed (s := s.begin_ p) hj hw hf, State.fedStripIn]
        simp only [State.begin_inMag, hfeed]
      rw [e] at hin
      obtain ⟨hc, hfed, hlate⟩ := State.lateArrival_clamps ha2
      have hclose := State.lateArrival_closes ha2 hop hids
      obtain ⟨⟨hrec, k1, k2, k3, k4, k5, k6, k7, k8⟩, hm, hon⟩ :=
        hc.fed_settled (old := s) hfed rfl rfl hs h1 h2 hl
      refine ⟨_, hin, hrec.trans (congrArg some (newRecord_selected _ h)), k1, k2, k3, k4, k5, k6, k7, k8,
        fun hpush => ?_, fun _ => ⟨(hon.alarmOpen_eq (by decide)).trans hclose, by rw [hm]; exact hlate⟩⟩
      rw [hfeed] at hpush
      cases hpush
  case left =>
    intro hw he
    rw [State.stripOutClear_passed (s := s.begin_ p) hj hw he] at hout
    exact ⟨_, hout, State.giveUpRecord_settled (old := s) rfl rfl⟩
  case jam =>
    rw [State.stripIn_jam (s := s.begin_ p) hj] at hin
    rw [State.stripOutClear_jam (s := s.begin_ p) hj] at hout
    exact ⟨⟨_, hin, s.finish_begin p⟩, _, hout, s.finish_begin p⟩

end Sys2Proof.Machine

/-! ## O14: the choices of an alarm that holds a wire -/

namespace Sys2Proof.Machine

/-! ### The unit in the strip record (R5) -/

theorem mem_insertPartial (u w : Nat) (ps : List (Nat × Nat)) : (u, w) ∈ insertPartial u w ps := by
  induction ps with
  | nil => exact List.mem_singleton.mpr rfl
  | cons p ps ih =>
    unfold insertPartial
    split
    · exact List.mem_cons_self
    · exact List.mem_cons_of_mem _ ih

theorem length_insertPartial (u w : Nat) (ps : List (Nat × Nat)) : (insertPartial u w ps).length = ps.length + 1 := by
  induction ps with
  | nil => rfl
  | cons p ps ih =>
    unfold insertPartial
    split
    · rfl
    · simp [ih]

/-- What R5 says of the record `r'` that PASS STRIP leaves of `r`, its unit `u` having the entry `n`: `here` says
whether a wire of it completed at this station, `w` is its next wire. -/
def StripRecord.Interrupts (r' r : StripRecord) (u stn : Nat) (n : UnitEntry) (here : Prop) [Decidable here] (w : Nat) : Prop :=
  if ¬ here then r' = r
  else if n.state = .partialDone then r' = { r with
    partials := r.partials.map (fun x => if x.1 = u then (u, w) else x) }
  else if r.partials.length < 4 then
    r'.entry u = some ⟨.partialDone, 0⟩ ∧ (u, w) ∈ r'.partials ∧ r'.partials.length = r.partials.length + 1
  else r'.entry u = some ⟨.reject, stn⟩ ∧ r'.partials = r.partials

section
variable {r : StripRecord} {u : Nat} {n : UnitEntry}

/-- PASS STRIP leaves the entries of the other units. -/
theorem StripRecord.interruptUnit_entry_ne (h : r.entry u = some n) (stn : Nat) (c : Bool) (w : Nat) {m : Nat}
    (hm : m ≠ u) : (r.interruptUnit u stn c w).entry m = r.entry m := by
  have hu := StripRecord.entry_ne_zero h
  unfold StripRecord.interruptUnit
  simp only [h]
  split
  · rfl
  · split
    · split
      · exact StripRecord.entry_setEntry_ne hu hm ⟨.partialDone, 0⟩
      · exact StripRecord.entry_setEntry_ne hu hm ⟨.reject, stn⟩
    · split <;> rfl

theorem updatePartial_eq_map (u w : Nat) (ps : List (Nat × Nat)) :
    updatePartial u w ps = ps.map (fun x => if x.1 = u then (u, w) else x) := by
  refine List.map_congr_left fun x _ => ?_
  by_cases hx : x.1 = u <;> simp [hx]

/-- PASS STRIP changes the unit in progress as R5 specifies. -/
theorem StripRecord.interruptUnit_interrupts (h : r.entry u = some n)
    (hs : n.state = .opened ∨ n.state = .partialDone) (stn : Nat) (here : Prop) [Decidable here] (w : Nat) :
    (r.interruptUnit u stn (decide here) w).Interrupts r u stn n here w := by
  unfold StripRecord.interruptUnit StripRecord.Interrupts
  simp only [h]
  by_cases hh : here
  · simp only [hh, decide_true, Bool.not_true, Bool.false_eq_true, if_false, not_true_eq_false]
    rcases hs with hs | hs
    · simp only [hs, if_true, reduceCtorEq, if_false]
      by_cases hl : r.partials.length < 4
      · have hl2 : r.partials.length < Config.partialPlaces := hl
        simp only [hl, hl2, if_true]
        exact ⟨StripRecord.entry_setEntry h ⟨.partialDone, 0⟩, mem_insertPartial u w _, length_insertPartial u w _⟩
      · have hl2 : ¬ r.partials.length < Config.partialPlaces := hl
        simp only [hl, hl2, if_false]
        exact ⟨StripRecord.entry_setEntry h ⟨.reject, stn⟩, rfl⟩
    · simp only [hs, reduceCtorEq, if_true, if_false, updatePartial_eq_map]
  · simp only [hh, decide_false, Bool.not_false, if_true, not_false_eq_true]

end

/-! ### A response that is heard (R166) -/

/-- The station has heard a frame of station `n`, at the levels `p`. -/
def State.heardFrom (s : State) (p : Pins) (n : Nat) : State :=
  { s.begin_ p with
    line.last := some n
    line.peers := s.line.peers.modify (n - 1) (fun q => { q with present := true }) }

section
variable {s : State} {h : Hdr} {p : Pins} {e : AlarmEntry} {seq : Nat} {c : Choice}

/-- A frame of another station that is not the downstream one's first makes no test due (R96). -/
theorem State.heard_again (ha : s.hearsAgain h = true) : (s.begin_ p).heard h.sender = s.heardFrom p h.sender := by
  have hp : ¬ ((s.begin_ p).isPresent h.sender = false ∧ h.sender = (s.begin_ p).stn + 1) := by
    simp only [State.hearsAgain, Bool.and_eq_true, Bool.or_eq_true, bne_iff_ne] at ha
    rintro ⟨h1, h2⟩
    rcases ha.2 with k | k
    · exact absurd (h1.symm.trans k) (by decide)
    · exact k h2
  unfold State.heard
  simp only [hp, if_false]
  rfl

/-- A response with the id of an alarm in the queue and one of its choices settles it and takes effect (R166, R167). -/
theorem response_settles (ha : s.hearsAgain h = true) (he : s.alarmOf seq = some e)
    (hc : e.kind.choices.contains c = true) :
    response s h s.stn seq c p = .next (State.finish s
      (((s.heardFrom p h.sender).removeAlarm e c h.sender).choiceEffect e.kind c).settle) := by
  obtain ⟨⟨⟨⟨hop, h1⟩, h7⟩, hne⟩, hto⟩ : (((s.operating = true ∧ 1 ≤ h.sender) ∧ h.sender ≤ 7) ∧ h.sender ≠ s.stn)
      ∧ (h.target = 0 ∨ h.target = s.stn) := by
    simp only [State.hearsAgain, State.hears, Bool.and_eq_true, within, bne_iff_ne, Bool.or_eq_true, beq_iff_eq,
      decide_eq_true_eq] at ha
    tauto
  have hs : ¬ (h.sender = 0 ∨ 7 < h.sender) := by omega
  have hne2 : h.sender ≠ (s.begin_ p).stn := hne
  have hto2 : (s.heardFrom p h.sender).addressed h = true := by
    simp only [State.addressed, Bool.or_eq_true, beq_iff_eq]
    exact hto
  have he2 : (s.heardFrom p h.sender).alarmOf seq = some e := he
  have hr : (s.heardFrom p h.sender).respond s.stn seq c h.sender
      = ((s.heardFrom p h.sender).removeAlarm e c h.sender).choiceEffect e.kind c := by
    have hstn : s.stn = (s.heardFrom p h.sender).stn := rfl
    unfold State.respond
    simp only [← hstn, if_true, he2, hc]
  unfold response receive receiveWith event answer
  rw [s.perform_on p _ hop, State.perform]
  simp only [hs, hne2, if_false, State.heard_again ha, hto2, if_true, hr]

end

end Sys2Proof.Machine

/-! ## O14, concluded: RETRY, SKIP UNIT and PASS STRIP at a head HELD for a wire alarm -/

namespace Sys2Proof.Machine

/-- The alarms of a bond or of touch learn (R42, R44, R41). -/
def wireAlarms : List AlarmKind := [.nonStickPad, .nonStickLead, .contactNotFound]

theorem wireAlarms_settle {k : AlarmKind} (h : k ∈ wireAlarms) :
    (k.holdsWindow = false ∧ k ≠ .feedJam) ∧ k ∉ startAlarms
      ∧ ∀ c ∈ [Choice.retry, .skipUnit, .passStrip], k.choices.contains c = true := by
  simp only [wireAlarms, List.mem_cons, List.not_mem_nil, or_false] at h
  rcases h with rfl | rfl | rfl <;> decide

section
variable {s : State} {k : AlarmKind}

theorem State.heldForAlarm_iff : s.heldForAlarm = true ↔
    ((s.head.state = .held ∧ s.head.heldFor = .alarm) ∧ s.head.homed = true) ∧ s.alarms.bypass = false := by
  simp [State.heldForAlarm]

/-- RETRY clears the wire with the surface height discarded (R56). -/
theorem State.choiceEffect_retry (hk : k ∈ wireAlarms) (hh : s.heldForAlarm = true) :
    s.choiceEffect k .retry = ({ s with head.surface := none } : State).startClearing .wireRestart := by
  obtain ⟨⟨⟨hs, hf⟩, hm⟩, hb⟩ := State.heldForAlarm_iff.mp hh
  simp only [wireAlarms, List.mem_cons, List.not_mem_nil, or_false] at hk
  rcases hk with rfl | rfl | rfl <;>
  simp [State.choiceEffect, State.headChoice, State.retryWire, State.homeElse, hs, hf, hm, hb]

/-- The head after its unit in progress has become REJECT by SKIP UNIT (R57). -/
def State.unitSkipped (s : State) : State := { s.rejectUnit with head.boundaryStep := 1, head.doneUnit := none }

theorem State.rejectUnit_homed (s : State) : s.rejectUnit.head.homed = s.head.homed := by
  unfold State.rejectUnit
  split <;> rfl

/-- SKIP UNIT rejects the unit and clears on to the boundary (R57). -/
theorem State.choiceEffect_skipUnit (hk : k ∈ wireAlarms) (hh : s.heldForAlarm = true) :
    s.choiceEffect k .skipUnit = s.unitSkipped.startClearing .boundary := by
  obtain ⟨⟨⟨hs, hf⟩, hm⟩, hb⟩ := State.heldForAlarm_iff.mp hh
  simp only [wireAlarms, List.mem_cons, List.not_mem_nil, or_false] at hk
  rcases hk with rfl | rfl | rfl <;>
  simp [State.choiceEffect, State.headChoice, State.skipUnit, State.unitSkipped, State.homeElse,
    State.rejectUnit_homed, hs, hf, hm, hb]

/-- The bypass flag set by PASS STRIP, its beacon not yet placed (R169). -/
def State.bypassed (s : State) : State := { s with alarms.bypass := true }

theorem State.interrupt_homed (s : State) : s.interrupt.head.homed = s.head.homed := by
  unfold State.interrupt
  split
  · unfold State.countIf
    split <;> rfl
  · rfl

/-- PASS STRIP sets the bypass flag, interrupts the unit and clears on to PARKED (R58). -/
theorem State.choiceEffect_passStrip (hk : k ∈ wireAlarms) (hh : s.heldForAlarm = true)
    (hp : s.pull.sample = none) :
    s.choiceEffect k .passStrip = s.bypassed.queueBeacon.askStrip.interrupt.startClearing .park := by
  obtain ⟨⟨⟨hs, hf⟩, hm⟩, hb⟩ := State.heldForAlarm_iff.mp hh
  have hflag : s.passFlag = s.bypassed.queueBeacon.askStrip := by
    simp [State.passFlag, State.bypassed, hb]
  have hc := s.bypassed.queueBeacon_change.alarm
  have hhead : s.bypassed.queueBeacon.askStrip.head = s.head := hc.head
  have hpull : s.bypassed.queueBeacon.askStrip.pull.sample = none := (congrArg Pull.sample hc.pull).trans hp
  generalize s.bypassed.queueBeacon.askStrip = v at hflag hhead hpull
  have hclear : v.clearAndPark = v.interrupt.startClearing .park := by
    simp [State.clearAndPark, State.giveUpWork, State.closeSample, hpull, State.homeElse, State.interrupt_homed, hhead, hm]
  simp only [wireAlarms, List.mem_cons, List.not_mem_nil, or_false] at hk
  rcases hk with rfl | rfl | rfl <;>
  simp [State.choiceEffect, State.headChoice, hflag, hclear, hhead, hs, hf]

end

/-! ### The waiting strip after PASS STRIP (R96) -/

/-- What the pass evaluation of a strip leaves of the head and the alarms. -/
structure Passes (t s : State) : Prop where
  head : t.head = s.head
  agenda : t.agenda = { s.agenda with beacon := t.agenda.beacon }
  bypass : t.alarms.bypass = s.alarms.bypass
  alarms : s.isEnd = false → t.alarms = s.alarms

theorem Passes.refl (s : State) : Passes s s := ⟨rfl, rfl, rfl, fun _ => rfl⟩

theorem State.makeOffer_passes (s : State) : Passes s.makeOffer s := by
  have hp : Posts s.makeOffer _ := (State.submit_posts _ _ _).trans (State.queueBeacon_posts _)
  exact ⟨hp.change.alarm.head, hp.agenda, congrArg Alarms.bypass hp.change.alarms, fun _ => hp.change.alarms⟩

theorem State.startUnload_passes (s : State) (he : s.isEnd = true) : Passes s.startUnload s := by
  unfold State.startUnload
  split
  · next n _ =>
    have hp := State.queueBeacon_posts (State.elevatorTo { s with
      window.state := .outbound, outMag.unloader := .unloading, outMag.target := some n, outMag.leftWindow := false }
      n .unloadMove)
    exact ⟨hp.change.alarm.head, hp.agenda, hp.change.alarm.bypass, fun e => absurd (he.symm.trans e) (by decide)⟩
  · exact .refl s

theorem State.outputFull_passes (s : State) (he : s.isEnd = true) : Passes s.outputFull s := by
  unfold State.outputFull
  split
  · exact .refl s
  · have hr := s.raise_raises (k := .outputFull) (ks := startAlarms) (by decide)
    exact ⟨hr.change.head, hr.agenda, hr.change.bypass, fun e => absurd (he.symm.trans e) (by decide)⟩

theorem State.evaluateStrip_passes (s : State) : Passes s.evaluateStrip s := by
  unfold State.evaluateStrip State.outputAnswer
  split
  · split
    · next he =>
      split
      · split
        · exact s.startUnload_passes he
        · split
          · exact .refl s
          · exact s.outputFull_passes he
      · exact .refl s
    · split
      · exact s.makeOffer_passes
      · exact .refl s
  · exact .refl s

/-- With the waiting strip's test due alone, the event ends with its pass evaluation at most. -/
theorem State.settle_passes {s : State}
    (ha : s.agenda = { Agenda.none with strip := true, beacon := s.agenda.beacon }) : Passes s.settle s := by
  have hstrip : Passes s.settleStrip s := by
    unfold State.settleStrip
    split
    · exact s.evaluateStrip_passes
    · exact .refl s
  have hfeed : s.settleStrip.agenda.feed = false := by rw [hstrip.agenda, ha]; rfl
  have hport : s.settleStrip.agenda.port = false := by rw [hstrip.agenda, ha]; rfl
  have hpoint : s.agenda.point = false := by rw [ha]; rfl
  have hhead : s.agenda.head = false := by rw [ha]; rfl
  have hplace : s.agenda.place = false := by rw [ha]; rfl
  have hfull : s.agenda.full = false := by rw [ha]; rfl
  have e1 : s.settlePlace = s := by
    unfold State.settlePlace
    simp [hplace, hfull]
  have e2 : s.settlePoint = s := by simp [State.settlePoint, hpoint]
  have e3 : s.settleHead = s := by simp [State.settleHead, hhead]
  have e4 : s.settleStrip.settleFeed = s.settleStrip := by simp [State.settleFeed, hfeed]
  have e5 : s.settleStrip.settlePort = s.settleStrip := by simp [State.settlePort, hport]
  unfold State.settle
  split
  · rwa [e1, e2, e3, e4, e5]
  · exact .refl s

/-! ### The three choices at the end of their event -/

theorem State.startClearing_out (s : State) (i : Intent) : (s.startClearing i).out = s.out ++ [.wireClamp true] := rfl

section
variable {old m t : State} {u : Nat} {r : StripRecord} {n : UnitEntry}

/-- RETRY's clearing (R56). -/
theorem State.retry_settled (hc : m.agenda.calm = true)
    (ht : t = State.finish old (({ m with head.surface := none } : State).startClearing .wireRestart).settle) :
    t.alarms = m.alarms ∧ t.head = { m.head with
        surface := none, state := .tail, stage := .clearClamp, intent := .wireRestart, next := .none
        heldFor := .nothing }
      ∧ .wireClamp true ∈ t.out ∧ t.window.record = m.window.record
      ∧ ∀ q ∈ m.line.txQueue, q.frame.kind ≠ .beacon → q ∈ t.line.txQueue := by
  generalize hy : ({ m with head.surface := none } : State).startClearing .wireRestart = y at ht
  have hyc : y.agenda.calm = true := hy ▸ hc
  obtain ⟨k, ho, hq⟩ := State.finish_settle_calm old hyc
  rw [← ht] at k ho hq
  have hyline : y.line = m.line := by rw [← hy]; rfl
  refine ⟨k.alarms.trans (hy ▸ rfl), k.alarm.head.trans (hy ▸ rfl), ho ?_, k.alarm.record.trans (hy ▸ rfl), ?_⟩
  · rw [← hy, State.startClearing_out]
    exact List.mem_append_right _ (List.mem_singleton.mpr rfl)
  · rwa [hyline] at hq

/-- SKIP UNIT's clearing, the unit in progress finished as REJECT (R6, R57). -/
theorem State.skipUnit_settled (hc : m.agenda.calm = true) (hu : m.head.unit = some u) (hr : m.window.record = some r)
    (ht : t = State.finish old (m.unitSkipped.startClearing .boundary).settle) :
    t.window.record = some (r.finishUnit u m.stn .reject) ∧ t.tally.counters = m.tally.counters.modify 11 Counter.bump
      ∧ t.head.state = .tail ∧ t.head.stage = .clearClamp ∧ t.head.intent = .boundary ∧ t.head.unit = none
      ∧ t.head.doneUnit = none ∧ t.alarms = m.alarms
      ∧ ∀ q ∈ m.line.txQueue, q.frame.kind ≠ .beacon → q ∈ t.line.txQueue := by
  have hs : m.rejectUnit = ((m.onRecord (fun r => r.finishUnit u m.stn .reject)).count .unitsRejected).clearUnit := by
    simp [State.rejectUnit, hu]
  have hrec : m.window.record.map (fun r => r.finishUnit u m.stn .reject) = some (r.finishUnit u m.stn .reject) := by
    rw [hr]
    rfl
  have hskip : m.unitSkipped = { ((m.onRecord (fun r => r.finishUnit u m.stn .reject)).count .unitsRejected).clearUnit with
      head.boundaryStep := 1, head.doneUnit := none } := by rw [State.unitSkipped, hs]
  have hyc : (m.unitSkipped.startClearing .boundary).agenda.calm = true := by rw [hskip]; exact hc
  obtain ⟨k, -, hq⟩ := State.finish_settle_calm old hyc
  rw [← ht] at k hq
  have hyline : (m.unitSkipped.startClearing .boundary).line = m.line := by rw [hskip]; rfl
  rw [hyline] at hq
  have hhead : t.head = { m.unitSkipped.head with
      state := .tail, stage := .clearClamp, next := .none, heldFor := .nothing, intent := .boundary } := k.alarm.head
  rw [hhead]
  refine ⟨k.alarm.record.trans ?_, (congrArg Tallies.counters k.alarm.tally).trans ?_, rfl, rfl, rfl, ?_, ?_,
    k.alarms.trans ?_, hq⟩ <;> rw [hskip]
  · exact hrec
  · rfl
  · rfl
  · rfl

/-- The unit in progress as PASS STRIP leaves it (R5); the tally may count it as rejected. -/
theorem State.interrupt_of_unit (hu : m.head.unit = some u) (hr : m.window.record = some r) : ∃ cs,
    m.interrupt = ({ m.onRecord (fun r => r.interruptUnit u m.stn m.wiresHere m.head.wire) with
      tally.counters := cs } : State).clearUnit := by
  unfold State.interrupt State.countIf
  simp only [hu, hr]
  split
  · exact ⟨_, rfl⟩
  · exact ⟨_, rfl⟩

/-- PASS STRIP's clearing; the waiting strip may have been offered or unloaded already (R5, R58, R96). -/
theorem State.passStrip_settled (ha : m.agenda = { Agenda.none with beacon := m.agenda.beacon })
    (hu : m.head.unit = some u) (hr : m.window.record = some r)
    (ht : t = State.finish old (m.bypassed.queueBeacon.askStrip.interrupt.startClearing .park).settle) :
    t.alarms.bypass = true ∧ t.head.unit = none ∧ t.head.state = .tail ∧ t.head.stage = .clearClamp
      ∧ t.head.intent = .park
      ∧ t.window.record = some (r.interruptUnit u m.stn (decide (m.head.firstWire < m.head.wire)) m.head.wire)
      ∧ (∃ l, t.alarms.queue = m.alarms.queue ++ l ∧ ∀ e ∈ l, e.kind ∈ startAlarms)
      ∧ (m.isEnd = false → t.alarms.queue = m.alarms.queue)
      ∧ ∀ q ∈ m.line.txQueue, q.frame.kind ≠ .beacon → q ∈ t.line.txQueue := by
  have hp := m.bypassed.queueBeacon_posts
  generalize hv : m.bypassed.queueBeacon = v at hp ht
  have hhead : v.head = m.head := hp.change.alarm.head
  have halarms : v.alarms = m.bypassed.alarms := hp.change.alarms
  have hstraps : v.straps = m.straps := hp.change.alarm.straps
  have hrecord : v.window.record = some r := hp.change.alarm.record.trans hr
  have hagenda : v.agenda = { Agenda.none with beacon := v.agenda.beacon } := by
    have e : m.bypassed.agenda = { Agenda.none with beacon := m.bypassed.agenda.beacon } := ha
    rw [hp.agenda, e]
  obtain ⟨cs, hi⟩ := State.interrupt_of_unit (m := v.askStrip) (u := u) (by rw [State.askStrip_head, hhead, hu]) hrecord
  rw [hi] at ht
  generalize hy : State.startClearing _ .park = y at ht
  have hyagenda : y.agenda = { v.agenda with strip := true } := by rw [← hy]; rfl
  have hyhead : y.head = { v.head with
      unit := none, wire := 0, firstWire := 0, state := .tail, stage := .clearClamp, next := .none, heldFor := .nothing
      intent := .park } := by rw [← hy]; rfl
  have hyalarms : y.alarms = v.alarms := by rw [← hy]; rfl
  have hyline : y.line = v.line := by rw [← hy]; rfl
  have hystraps : y.straps = v.straps := by rw [← hy]; rfl
  have hyrecord : y.window.record =
      v.window.record.map (fun r => r.interruptUnit u v.stn (decide (v.head.firstWire < v.head.wire)) v.head.wire) := by
    rw [← hy]; rfl
  have hstrip : y.agenda = { Agenda.none with strip := true, beacon := y.agenda.beacon } := by rw [hyagenda, hagenda]
  have hfull : y.agenda.full = false := by rw [hstrip]; rfl
  have hpass := State.settle_passes hstrip
  have hon := State.finish_settle_onward old y hfull
  have hfin := State.finish_change old y.settle
  rw [← ht] at hon hfin
  have hthead : t.head = y.head := hfin.alarm.head.trans hpass.head
  rw [hyhead] at hthead
  rw [hthead]
  refine ⟨?bypass, rfl, rfl, rfl, rfl, ?record, ?queue, fun he => ?same, fun q hq hk => ?frames⟩
  case bypass =>
    rw [hfin.alarms, hpass.bypass, hyalarms, halarms]
    rfl
  case record =>
    have htr : t.window.record = y.window.record := congrArg StripView.record hon.strip
    rw [htr, hyrecord, hrecord, State.stn, hstraps, hhead]
    rfl
  case queue =>
    obtain ⟨l, hl, hk⟩ := hon.alarms
    have hq : y.scene.alarms = m.alarms.queue := by
      show y.alarms.queue = _
      rw [hyalarms, halarms]
      rfl
    exact ⟨l, hl.trans (by rw [hq]), hk⟩
  case same =>
    have hye : y.isEnd = false := by
      rw [State.isEnd, hystraps, hstraps]
      exact he
    rw [hfin.alarms, hpass.alarms hye, hyalarms, halarms]
    rfl
  case frames =>
    refine hon.frames q ?_ hk
    show q ∈ y.line.txQueue
    rw [hyline]
    exact hp.frames q hq hk

end

/-- In `m` the choice `c` of responder `n` has settled the alarm `e` of `s`, and has had no other effect yet. -/
structure State.Settles (m s : State) (e : AlarmEntry) (c : Choice) (n : Nat) : Prop where
  head : m.head = s.head
  straps : m.straps = s.straps
  record : m.window.record = s.window.record
  tally : m.tally = s.tally
  pull : m.pull = s.pull
  alarms : m.alarms = { s.alarms with queue := s.alarms.queue.filter (fun x => x.seq != e.seq) }
  agenda : m.agenda = { Agenda.none with beacon := m.agenda.beacon }
  settled : s.lineFree 2 = true → ⟨settledFrame e c n, 0⟩ ∈ m.line.txQueue

/-- A response to a wire alarm settles it before its choice takes effect (R166, R167). -/
theorem response_settles_wire {s : State} {h : Hdr} {e : AlarmEntry} {seq : Nat} {c : Choice} (p : Pins)
    (ha : s.hearsAgain h = true) (he : s.alarmOf seq = some e) (hk : e.kind ∈ wireAlarms)
    (hc : c ∈ [Choice.retry, .skipUnit, .passStrip]) :
    ∃ m : State, m.Settles s e c h.sender
      ∧ response s h s.stn seq c p = .next (State.finish s (m.choiceEffect e.kind c).settle) := by
  obtain ⟨hkind, -, hchoices⟩ := wireAlarms_settle hk
  have hp := (s.heardFrom p h.sender).removeAlarm_posts e c h.sender hkind
  have hs := (s.heardFrom p h.sender).removeAlarm_settled e c h.sender hkind
  exact ⟨_, ⟨hp.change.alarm.head, hp.change.alarm.straps, hp.change.alarm.record, hp.change.alarm.tally,
    hp.change.alarm.pull, hp.change.alarms, hp.agenda, hs⟩, response_settles ha he (hchoices c hc)⟩

theorem State.Settles.held {m s : State} {e : AlarmEntry} {c : Choice} {n : Nat} (hm : m.Settles s e c n)
    (hh : s.heldForAlarm = true) : m.heldForAlarm = true := by
  rw [State.heldForAlarm, hm.head, hm.alarms]
  exact hh

theorem State.Settles.calm {m s : State} {e : AlarmEntry} {c : Choice} {n : Nat} (hm : m.Settles s e c n) :
    m.agenda.calm = true := by
  rw [hm.agenda]
  rfl

/-- Settles O14: each choice settles the alarm, then clears the wire with the intent of its own. -/
theorem wireAlarmChoices : Obligations.WireAlarmChoices := by
  intro h seq p s e ha hh he hk
  have hseq : e.seq = seq := by simpa using List.find?_some he
  have hframe (c : Choice) : (settledFrame e c h.sender).kind ≠ .beacon := by simp [settledFrame]
  refine ⟨?retry, fun u r n hu hr hn hst => ⟨?skip, fun hp => ?pass⟩⟩
  case retry =>
    obtain ⟨m, hm, hx⟩ := response_settles_wire (c := .retry) p ha he hk (by decide)
    rw [State.choiceEffect_retry hk (hm.held hh)] at hx
    generalize ht : State.finish s _ = t at hx
    obtain ⟨halarms, hhead, hout, hrec, hq⟩ := State.retry_settled hm.calm ht.symm
    rw [hm.head] at hhead
    rw [hm.alarms, hseq] at halarms
    exact ⟨_, hx, halarms, hhead, hout, hrec.trans hm.record, fun hl => hq _ (hm.settled hl) (hframe _)⟩
  case skip =>
    obtain ⟨m, hm, hx⟩ := response_settles_wire (c := .skipUnit) p ha he hk (by decide)
    rw [State.choiceEffect_skipUnit hk (hm.held hh)] at hx
    obtain ⟨hrec, htally, k1, k2, k3, k4, k5, halarms, hq⟩ := State.skipUnit_settled (old := s) (u := u) (r := r) hm.calm
      (by rw [hm.head, hu]) (hm.record.trans hr) rfl
    have hstn : m.stn = s.stn := congrArg Straps.stn hm.straps
    have hf := StripRecord.finishUnit_finishes hn hst s.stn .reject
    rw [hm.tally] at htally
    rw [hm.alarms, hseq] at halarms
    rw [hstn] at hrec
    exact ⟨_, _, hx, hrec, hf.entry, hf.others, hf.partials, htally, k1, k2, k3, k4, k5,
      congrArg Alarms.queue halarms, fun hl => hq _ (hm.settled hl) (hframe _)⟩
  case pass =>
    obtain ⟨m, hm, hx⟩ := response_settles_wire (c := .passStrip) p ha he hk (by decide)
    rw [State.choiceEffect_passStrip hk (hm.held hh) (by rw [hm.pull, hp])] at hx
    obtain ⟨hbypass, k1, k2, k3, k4, hrec, ⟨l, hl, hlk⟩, hsame, hq⟩ := State.passStrip_settled (old := s) (u := u) (r := r)
      hm.agenda (by rw [hm.head, hu]) (hm.record.trans hr) rfl
    have hqueue : m.alarms.queue = s.alarms.queue.filter (fun x => x.seq != seq) := by rw [hm.alarms, hseq]
    have hstn : m.stn = s.stn := congrArg Straps.stn hm.straps
    have hend : m.isEnd = s.isEnd := congrArg (fun x : Straps => x.endFitted && x.stn != 1) hm.straps
    rw [hqueue] at hl hsame
    rw [hstn, hm.head] at hrec
    have hgone : e ∉ s.alarms.queue.filter (fun x => x.seq != seq) ++ l := by
      intro hmem
      rcases List.mem_append.mp hmem with hmem | hmem
      · exact bne_iff_ne.mp (List.mem_filter.mp hmem).2 hseq
      · exact (wireAlarms_settle (k := e.kind) hk).2.1 (hlk e hmem)
    exact ⟨_, _, hx, hbypass, k1, hl ▸ hgone, ⟨l, hl.symm⟩, fun hf => hsame (hend.trans hf),
      fun hl => hq _ (hm.settled hl) (hframe _), k2, k3, k4, hrec,
      fun m hne => StripRecord.interruptUnit_entry_ne hn s.stn _ s.head.wire hne,
      StripRecord.interruptUnit_interrupts hn hst s.stn (s.head.firstWire < s.head.wire) s.head.wire⟩

end Sys2Proof.Machine

/-! ## O5: what a hardware reset leaves (R192) -/

namespace Sys2Proof.Machine

/-- The straps decide between the listen and the rest of a strap fault (R61, R192). -/
theorem State.afterReset_phase (x : Straps) (p : Pins) (q : List Instr) : (State.afterReset x p q).phase =
    if x.stn = 0 ∨ 7 ≤ x.stn then .strapFault else .listening := by
  show (if 1 ≤ x.stn ∧ x.stn ≤ 6 then Phase.listening else .strapFault) = _
  by_cases h : x.stn = 0 ∨ 7 ≤ x.stn
  · rw [if_neg (by omega), if_pos h]
  · rw [if_pos (by omega), if_neg h]

/-- No station is present at reset (R190). -/
theorem State.afterReset_absent (x : Straps) (p : Pins) (q : List Instr) (n : Nat) :
    (State.afterReset x p q).isPresent n = false := by
  have hget (i : Nat) : (List.replicate 7 (⟨false, none⟩ : Peer)).getD i ⟨false, none⟩ = ⟨false, none⟩ := by
    rw [List.getD_eq_getElem?_getD, List.getElem?_replicate]
    split <;> rfl
  unfold State.isPresent State.peer
  split
  · rfl
  · exact congrArg Peer.present (hget (n - 1))

theorem exec_hardwareReset (x : Straps) (p : Pins) (s : State) :
    exec (.hardwareReset x p) s = .next (State.afterReset x p s.pending) := rfl

/-- Settles O5: but for the phase and the presence table, every value stands in the block's reset definition. -/
theorem hardwareResetValues : Obligations.HardwareResetValues := by
  intro x p s
  exact ⟨_, exec_hardwareReset x p s,
    rfl, rfl, rfl, rfl, rfl,
    State.afterReset_phase x p s.pending,
    rfl, rfl, rfl, rfl,
    rfl, rfl, rfl, rfl, rfl,
    rfl, rfl, rfl,
    rfl, rfl, rfl,
    rfl, rfl, rfl, rfl,
    rfl, rfl, rfl,
    rfl, rfl, rfl,
    rfl, rfl, rfl, rfl,
    rfl, rfl, rfl, rfl,
    rfl, rfl, rfl, rfl,
    rfl, rfl, rfl, rfl,
    rfl, State.afterReset_absent x p s.pending,
    rfl, rfl⟩

end Sys2Proof.Machine

/-! ## O22: a READY recipe (R24) -/

namespace Sys2Proof.Machine

theorem firstFailure_none {n : Nat} {l : List Bool} (h : firstFailure n l = none) : ∀ b ∈ l, b = true := by
  induction l generalizing n with
  | nil => exact fun _ m => absurd m List.not_mem_nil
  | cons b bs ih =>
    cases b with
    | false => cases h
    | true => exact List.forall_mem_cons.mpr ⟨rfl, ih h⟩

/-- A READY set is the recipe its image spells, with every item of the validity check passed (R24). -/
theorem checkImage_ready {gen : Nat} {bs : List Byte} {r : Recipe} (h : checkImage gen bs = .ready r) :
    r = readImage bs ∧ ∀ b ∈ recipeItems gen bs, b = true := by
  unfold checkImage at h
  split at h
  · cases h
  · next hf =>
    cases h
    exact ⟨rfl, firstFailure_none hf⟩

theorem within_iff (n a b : Nat) : within n a b = true ↔ a ≤ n ∧ n ≤ b := by simp [within]

theorem withinInt_iff (n a b : Int) : withinInt n a b = true ↔ a ≤ n ∧ n ≤ b := by simp [withinInt]

/-- A target lies within the travel of the table (R24 item 5). -/
theorem onTable_iff (t : Int × Int) : onTable t = true ↔ 0 ≤ t.1 ∧ t.1 ≤ 120000 ∧ 0 ≤ t.2 ∧ t.2 ≤ 60000 := by
  simp [onTable, withinInt_iff, and_assoc]

/-- Item 4 of R24 for one wire entry. -/
theorem WireEntry.fits_iff (w : WireEntry) : w.fits = true ↔ (w.profile ≤ 3 ∧ w.firstSet ≤ 7 ∧ w.secondSet ≤ 7)
    ∧ ∀ x ∈ [w.padX, w.padY, w.leadX, w.leadY], -10000 ≤ x ∧ x ≤ 10000 := by
  simp [WireEntry.fits, withinInt_iff, and_assoc]

/-- Item 6 of R24 for one bond parameter set. -/
theorem BondSet.fits_iff (b : BondSet) (mode : Nat) : b.fits mode = true ↔
    (50 ≤ b.impact ∧ b.impact ≤ 2000 ∧ 1 ≤ b.power ∧ b.power ≤ 2000) ∧ mode ≤ 1 ∧ 3 ≤ b.time ∧ b.time ≤ 100
      ∧ 1 ≤ b.eTarget ∧ b.eTarget ≤ 65535 ∧ 1 ≤ b.band ∧ b.band ≤ 50 ∧ b.iFloor ≤ 16383 := by
  simp [BondSet.fits, within_iff, and_assoc]

theorem mem_readImage_sets {bs : List Byte} {b : BondSet} :
    b ∈ (readImage bs).sets ↔ ∃ i < 8, readSet bs (73 + 16 * i) = b := by
  simp [readImage]

/-- The units of a recipe whose targets R24 checks are those numbered from 1 to its unit count. -/
theorem mem_unitNumbers {n k : Nat} : n ∈ (List.range k).map (· + 1) ↔ 1 ≤ n ∧ n ≤ k := by
  rw [List.mem_map]
  constructor
  · rintro ⟨i, hi, rfl⟩
    have := List.mem_range.mp hi
    omega
  · rintro ⟨h1, h2⟩
    exact ⟨n - 1, List.mem_range.mpr (by omega), by omega⟩

/-- Settles O22: each clause is an item of the check on the image that the recipe was read from. -/
theorem readyRecipeIsWithinLimits : Obligations.ReadyRecipeIsWithinLimits := by
  intro gen bs r h
  obtain ⟨hr, hitems⟩ := checkImage_ready h
  simp only [recipeItems, List.forall_mem_cons, ← hr] at hitems
  obtain ⟨hlength, hcounts, hgrid, hwires, htargets, hsets, henergy, hprofiles, hheights, htail, hinterval, hpull, hplan,
    hforce, -⟩ := hitems
  simp only [Bool.and_eq_true, beq_iff_eq, decide_eq_true_eq, within_iff, withinInt_iff, onTable_iff, List.all_eq_true,
    WireEntry.fits_iff, BondSet.fits_iff, mem_unitNumbers, List.mem_range, Bool.or_eq_true, Bool.not_eq_true',
    List.isEmpty_eq_false_iff, and_assoc]
    at hlength hcounts hgrid hwires htargets hsets henergy hprofiles hheights htail hinterval hpull hplan hforce
  obtain ⟨hlen, hgen, -⟩ := hlength
  obtain ⟨hu1, hu2, hw1, hw2⟩ := hcounts
  obtain ⟨hheight, hsearch⟩ := hheights
  obtain ⟨hint1, hint2⟩ := hinterval
  obtain ⟨hpullMax, hpullCount, hpullSome⟩ := hpull
  obtain ⟨hplanIn, hplanNodup⟩ := hplan
  refine ⟨hlen, hgen, hu1, hu2, hw1, hw2, by simp [hr, readImage], by simp [hr, readImage], by simp [hr, readImage], hgrid,
    fun w hw => ?wire, fun b hb => ?set, fun i hi => ?mode, hprofiles, hheight, hsearch, htail, hint1, hint2,
    ⟨hpullMax, hpullCount, hpullSome.resolve_left⟩, ⟨hplanNodup, hplanIn⟩, hforce⟩
  case wire =>
    obtain ⟨hp, hf1, hf2, hin⟩ := hwires w hw
    refine ⟨⟨hp, hf1, hf2⟩, hin, fun n hn1 hn2 => ?_⟩
    obtain ⟨hpx, hpx2, hpy, hpy2, hlx, hlx2, hly, hly2, hback⟩ := htargets n ⟨hn1, hn2⟩ w hw
    exact ⟨List.forall_mem_cons.mpr ⟨⟨hpx, hpx2, hpy, hpy2⟩, List.forall_mem_singleton.mpr ⟨hlx, hlx2, hly, hly2⟩⟩, hback⟩
  case set =>
    obtain ⟨i, hi, rfl⟩ := mem_readImage_sets.mp (hr ▸ hb)
    obtain ⟨hi1, hi2, hp1, hp2, -, ht1, ht2, he1, he2, hb1, hb2, hfloor⟩ := hsets i hi
    exact ⟨hi1, hi2, hp1, hp2, ht1, ht2, he1, he2, henergy _ hb, hb1, hb2, hfloor⟩
  case mode =>
    obtain ⟨-, -, -, -, hmode, -⟩ := hsets i hi
    exact hmode

end Sys2Proof.Machine

/-! ## What a service request leaves

A request that reaches its owner (R186, R192) is heard first; the station's becoming present may have the waiting strip
evaluated (R96), which leaves the recipes. -/

namespace Sys2Proof.Machine

/-- The station has heard a frame of station `n`; `b` says that the waiting strip is to be evaluated (R96). -/
def State.heardAsking (s : State) (p : Pins) (n : Nat) (b : Bool) : State := { s.heardFrom p n with agenda.strip := b }

theorem State.heard_asking (s : State) (p : Pins) (n : Nat) : ∃ b, (s.begin_ p).heard n = s.heardAsking p n b := by
  unfold State.heard
  split
  · exact ⟨true, rfl⟩
  · exact ⟨false, rfl⟩

section
variable {s : State} {h : Hdr}

theorem State.serves_iff : s.serves h = true ↔
    s.operating = true ∧ h.sender = 7 ∧ h.sender ≠ s.stn ∧ (h.target = 0 ∨ h.target = s.stn) ∧ s.phase ≠ .listening := by
  simp only [State.serves, State.hears, within, Bool.and_eq_true, bne_iff_ne, Bool.or_eq_true, beq_iff_eq,
    decide_eq_true_eq]
  constructor
  · rintro ⟨⟨⟨⟨⟨hop, -⟩, hne⟩, hto⟩, h7⟩, hl⟩
    exact ⟨hop, h7, hne, hto, hl⟩
  · rintro ⟨hop, h7, hne, hto, hl⟩
    exact ⟨⟨⟨⟨⟨hop, by omega⟩, hne⟩, hto⟩, h7⟩, hl⟩

/-- A served request is heard and takes its effect; the event's tests follow. -/
theorem request_served (hs : s.serves h = true) (p : Pins) (f : State → State) :
    ∃ b, request s h p f = .next (State.finish s (f (s.heardAsking p h.sender b)).settle) := by
  obtain ⟨hop, h7, hne, hto, hl⟩ := State.serves_iff.mp hs
  obtain ⟨b, hb⟩ := s.heard_asking p h.sender
  refine ⟨b, ?_⟩
  have hbad : ¬ (h.sender = 0 ∨ 7 < h.sender) := by omega
  have hdup : h.sender ≠ (s.begin_ p).stn := hne
  have hown : (s.heardAsking p h.sender b).addressed h = true := by
    simp only [State.addressed, Bool.or_eq_true, beq_iff_eq]
    exact hto
  have hnode : h.sender = 7 ∧ (s.heardAsking p h.sender b).phase ≠ .listening := ⟨h7, hl⟩
  unfold request receive receiveWith event answer
  rw [s.perform_on p _ hop, State.perform]
  simp only [if_neg hbad, if_neg hdup, hb, hown, if_true, if_pos hnode]

end

/-- With no activation applied and neither the head nor the sample to be tested, what follows an event leaves the
ledger. -/
theorem State.settle_news {s : State} (hp : s.settlePoint = s) (hh : s.agenda.head = false)
    (hl : s.agenda.place = false) (hf : s.agenda.full = false) : News s.settle s := by
  have h1 : s.settlePlace = s := by simp [State.settlePlace, hl, hf]
  have h2 : s.settleHead = s := by simp [State.settleHead, hh]
  unfold State.settle
  rw [h1, hp, h2]
  split
  · exact s.settle_rest_news
  · exact .refl s

/-- A refusal is kept, and a REFUSED frame may be placed (R193, R194). -/
theorem State.refuse_posts (s : State) (h : Hdr) (k : FrameKind) (c d : Nat) :
    Posts (s.refuse h k c d) { s with line.lastRefusal := some ⟨k, c, d⟩ } := by
  unfold State.refuse
  dsimp only
  split
  · exact .refl _
  · split
    · exact State.submit_posts _ _ _
    · exact (State.submit_posts _ _ _).trans (State.waiting_posts { s with line.lastRefusal := some ⟨k, c, d⟩ } _)

section
variable {s : State} {h : Hdr} {f : State → State}

/-- A request whose effect places frames at most after a change `v` that makes no test due: what follows the event
leaves the ledger. -/
theorem request_ends {v : State → State} (hs : s.serves h = true) (p : Pins)
    (hf : ∀ b, Posts (f (s.heardAsking p h.sender b)) (v (s.heardAsking p h.sender b))
      ∧ (v (s.heardAsking p h.sender b)).agenda = (s.heardAsking p h.sender b).agenda) :
    ∃ b t, request s h p f = .next t ∧ News t (v (s.heardAsking p h.sender b)) := by
  obtain ⟨b, hb⟩ := request_served hs p f
  obtain ⟨hposts, ha⟩ := hf b
  have hag := hposts.agenda
  rw [ha] at hag
  have hsettle : News (f (s.heardAsking p h.sender b)).settle (f (s.heardAsking p h.sender b)) := by
    have hpoint : (f (s.heardAsking p h.sender b)).agenda.point = false := by rw [hag]; rfl
    exact State.settle_news (by simp [State.settlePoint, hpoint]) (by rw [hag]; rfl) (by rw [hag]; rfl) (by rw [hag]; rfl)
  exact ⟨b, _, hb, (State.finish_news s _).trans (hsettle.trans hposts.news)⟩

/-- A refused request changes no recipe set; its refusal is the last one (R194). -/
theorem request_refused {k : FrameKind} {c d : Nat} (hs : s.serves h = true) (p : Pins)
    (hf : ∀ b, f (s.heardAsking p h.sender b) = (s.heardAsking p h.sender b).refuse h k c d) :
    ∃ t, request s h p f = .next t ∧ t.recipes = s.recipes ∧ t.line.lastRefusal = some ⟨k, c, d⟩ := by
  obtain ⟨b, t, ht, hn⟩ := request_ends (f := f) (v := fun m => { m with line.lastRefusal := some ⟨k, c, d⟩ }) hs p fun b =>
    ⟨by rw [hf b]; exact State.refuse_posts _ h k c d, rfl⟩
  exact ⟨t, ht, congrArg Ledger.recipes hn.1, congrArg Ledger.lastRefusal hn.1⟩

end

end Sys2Proof.Machine

/-! ## O21: a segment and the pending set (R20 to R22) -/

namespace Sys2Proof.Machine

theorem lookup_cons_eq (x : Nat × List Byte) (l : List (Nat × List Byte)) (j : Nat) :
    (x :: l).lookup j = if j = x.1 then some x.2 else l.lookup j := by
  by_cases hj : j = x.1
  · simp [List.lookup, hj]
  · simp [List.lookup, hj, beq_eq_false_iff_ne.mpr hj]

theorem lookup_putSegment (i : Nat) (d : List Byte) (l : List (Nat × List Byte)) (j : Nat) :
    (putSegment i d l).lookup j = if j = i then some d else l.lookup j := by
  induction l with
  | nil => simp only [putSegment, lookup_cons_eq]
  | cons x xs ih =>
    unfold putSegment
    split
    · rw [lookup_cons_eq]
    · split
      · next hx =>
        simp only [lookup_cons_eq, hx]
        split <;> rfl
      · next hx =>
        rw [lookup_cons_eq, lookup_cons_eq, ih]
        by_cases hj : j = i
        · simp [hj, hx]
        · simp [hj]

theorem lookup_filter_lt (n : Nat) (l : List (Nat × List Byte)) (j : Nat) :
    (l.filter (fun x => x.1 < n)).lookup j = if j < n then l.lookup j else none := by
  induction l with
  | nil => simp
  | cons x xs ih =>
    by_cases hx : x.1 < n
    · rw [List.filter_cons_of_pos (by simpa using hx), lookup_cons_eq, lookup_cons_eq, ih]
      by_cases hj : j = x.1 <;> simp [hj, hx]
    · rw [List.filter_cons_of_neg (by simpa using hx), lookup_cons_eq, ih]
      by_cases hj : j = x.1 <;> simp [hj, hx]

/-- A lower count drops the segments at or above it (R21). -/
theorem PendingSet.lookup_keptBelow (q : PendingSet) (n : Nat) (l : List (Nat × List Byte)) (j : Nat) :
    (q.keptBelow n l).lookup j = if q.count.any (fun m => n < m) = true ∧ n ≤ j then none else l.lookup j := by
  unfold PendingSet.keptBelow
  split
  · next hc =>
    rw [lookup_filter_lt]
    by_cases hj : j < n
    · simp [hj]
    · simp [hj, hc, Nat.le_of_not_lt hj]
  · next hc => simp [hc]

/-- The pending set that a segment of generation `gen` joins: the one held, or a new one (R21, R22). -/
def PendingSet.joinable (q : PendingSet) (gen : Nat) : PendingSet :=
  if q.generation = gen then q else ⟨gen, none, [], .loading, none⟩

theorem PendingSet.joinable_generation (q : PendingSet) (gen : Nat) : (q.joinable gen).generation = gen := by
  unfold PendingSet.joinable
  split
  · assumption
  · rfl

theorem PendingSet.lookup_joinable (q : PendingSet) (gen j : Nat) :
    (q.joinable gen).segments.lookup j = if q.generation = gen then q.segments.lookup j else none := by
  unfold PendingSet.joinable
  split <;> rfl

theorem State.acceptSegment_eq (s : State) (payload : List Byte) : s.acceptSegment payload =
    { s with recipes.pending := (s.recipes.pending.joinable (field payload 0 1)).accept (field payload 1 1) payload } := by
  unfold State.acceptSegment PendingSet.joinable
  split <;> simp only [*, if_true, if_false]

theorem PendingSet.accept_zero (q : PendingSet) (payload : List Byte) : q.accept 0 payload = PendingSet.judged { q with
    count := some (field payload 2 1)
    segments := q.keptBelow (field payload 2 1) (putSegment 0 (payload.drop 3) q.segments) } := rfl

theorem PendingSet.accept_of_ne_zero (q : PendingSet) {i : Nat} (hi : i ≠ 0) (payload : List Byte) :
    q.accept i payload = PendingSet.judged { q with segments := putSegment i (payload.drop 2) q.segments } := by
  simp [PendingSet.accept, segmentCount, segmentData, hi]

theorem PendingSet.accept_generation (q : PendingSet) (i : Nat) (payload : List Byte) :
    (q.accept i payload).generation = q.generation := by
  unfold PendingSet.accept
  dsimp only
  split <;> rfl

/-- A set that a segment has joined stands as its check says (R21, R23). -/
theorem PendingSet.accept_status (q : PendingSet) (i : Nat) (payload : List Byte) : (q.accept i payload).status =
    if (q.accept i payload).complete then checkImage (q.accept i payload).generation (q.accept i payload).image
    else .loading := by
  unfold PendingSet.accept
  dsimp only
  split <;> rfl

/-- A segment is held at its index; where a lower count comes, the segments at or above it go (R21). -/
theorem PendingSet.lookup_accept (q : PendingSet) (i j : Nat) (payload : List Byte) :
    (q.accept i payload).segments.lookup j =
      if (i = 0 ∧ q.count.any (fun m => field payload 2 1 < m) = true) ∧ field payload 2 1 ≤ j then none
      else if j = i then some (segmentData i payload) else q.segments.lookup j := by
  by_cases hi : i = 0
  · subst hi
    rw [PendingSet.accept_zero]
    simp only [PendingSet.judged, PendingSet.lookup_keptBelow, lookup_putSegment, segmentData, true_and, if_true]
  · rw [PendingSet.accept_of_ne_zero q hi]
    simp [PendingSet.judged, lookup_putSegment, segmentData, hi]

/-- A segment 0 that passes the tests of R20 brings a count above 0. -/
theorem State.segmentRefusal_count {s : State} {payload : List Byte} (h : s.segmentRefusal payload = none)
    (hi : field payload 1 1 = 0) : field payload 2 1 ≠ 0 := by
  intro hc
  unfold State.segmentRefusal at h
  simp only [hi, hc, true_and, true_or, if_true] at h
  split_ifs at h

/-- What RECIPE SEGMENT does at a station that serves it (R20, R21). -/
def State.takeSegment (s : State) (h : Hdr) (payload : List Byte) : State :=
  if 64 < payload.length then s
  else match s.segmentRefusal payload with
    | some r => s.refuse h .recipeSegment r.1 r.2
    | none => s.acceptSegment payload

theorem exec_recipeSegment (h : Hdr) (payload : List Byte) (p : Pins) (s : State) :
    exec (.recipeSegment h payload p) s = request s h p fun t => t.takeSegment h payload := rfl

section
variable {s : State} {h : Hdr} {payload : List Byte}

theorem State.takeSegment_refused {r : Nat × Nat} (hl : payload.length ≤ 64) (hr : s.segmentRefusal payload = some r) :
    s.takeSegment h payload = s.refuse h .recipeSegment r.1 r.2 := by
  simp only [State.takeSegment, if_neg (Nat.not_lt.mpr hl), hr]

theorem State.takeSegment_accepted (hl : payload.length ≤ 64) (hr : s.segmentRefusal payload = none) :
    s.takeSegment h payload = { s with
      recipes.pending := (s.recipes.pending.joinable (field payload 0 1)).accept (field payload 1 1) payload } := by
  simp only [State.takeSegment, if_neg (Nat.not_lt.mpr hl), hr, State.acceptSegment_eq]

/-- A segment that a test of R20 refuses changes no set. -/
theorem recipeSegment_refused {r : Nat × Nat} (hs : s.serves h = true) (p : Pins) (hl : payload.length ≤ 64)
    (hr : s.segmentRefusal payload = some r) : ∃ t, exec (.recipeSegment h payload p) s = .next t
      ∧ t.recipes = s.recipes ∧ t.line.lastRefusal = some ⟨.recipeSegment, r.1, r.2⟩ := by
  rw [exec_recipeSegment]
  exact request_refused hs p fun b => State.takeSegment_refused (s := s.heardAsking p h.sender b) hl hr

/-- A segment that passes the tests of R20 joins the pending set of its generation, and nothing else of the recipes
changes (R21, R22). -/
theorem recipeSegment_accepted (hs : s.serves h = true) (p : Pins) (hl : payload.length ≤ 64)
    (hr : s.segmentRefusal payload = none) : ∃ t, exec (.recipeSegment h payload p) s = .next t
      ∧ t.recipes = { s.recipes with
        pending := (s.recipes.pending.joinable (field payload 0 1)).accept (field payload 1 1) payload } := by
  obtain ⟨b, t, ht, hn⟩ := request_ends (f := fun m => m.takeSegment h payload) (v := fun m => m.takeSegment h payload)
    hs p fun b => ⟨.refl _, by rw [State.takeSegment_accepted (s := s.heardAsking p h.sender b) hl hr]⟩
  rw [State.takeSegment_accepted (s := s.heardAsking p h.sender b) hl hr] at hn
  exact ⟨t, ht, congrArg Ledger.recipes hn.1⟩

end

/-- Settles O21: a refused segment leaves the recipes; an accepted one joins the set of its generation, as `putSegment`
and the count of a segment 0 say. -/
theorem segmentJoinsPendingSet : Obligations.SegmentJoinsPendingSet := by
  intro h payload p s hs hl
  cases hr : s.segmentRefusal payload with
  | some r =>
    obtain ⟨t, ht, hrec, hlast⟩ := recipeSegment_refused hs p hl hr
    exact ⟨t, ht, by rw [hrec], by rw [hrec], hrec, hlast⟩
  | none =>
    obtain ⟨t, ht, hrec⟩ := recipeSegment_accepted hs p hl hr
    refine ⟨t, ht, by rw [hrec], by rw [hrec], ?_⟩
    have hgen : t.recipes.pending.generation = field payload 0 1 := by
      rw [hrec, PendingSet.accept_generation, PendingSet.joinable_generation]
    have hseg (j : Nat) :=
      PendingSet.lookup_accept (s.recipes.pending.joinable (field payload 0 1)) (field payload 1 1) j payload
    refine ⟨hgen, ?zero, ?other, ?rest, ?status⟩
    case zero =>
      intro hi
      have hc := State.segmentRefusal_count hr hi
      rw [hi] at hrec hseg
      rw [hrec]
      refine ⟨rfl, (hseg 0).trans ?_⟩
      simp [hc, segmentData]
    case other =>
      intro hi
      rw [hrec]
      refine (hseg _).trans ?_
      simp [hi, segmentData]
    case rest =>
      intro lower j hj
      rw [hgen, hrec]
      refine (hseg j).trans ?_
      rw [if_neg hj, PendingSet.lookup_joinable]
      by_cases hg : s.recipes.pending.generation = field payload 0 1
      · simp [PendingSet.joinable, hg, lower]
      · simp [hg]
    case status =>
      rw [hrec]
      exact PendingSet.accept_status _ _ _

end Sys2Proof.Machine

/-! ## O23: RECIPE ACTIVATE (R25 to R28)

What follows an applied activation starts work, but leaves the recipe sets and the drift rings. -/

namespace Sys2Proof.Machine

/-- The recipe sets and the drift rings. -/
def State.sets (s : State) : RecipeStore × List Ring := (s.recipes, s.energy.rings)

theorem AlarmChange.sets {t s : State} (h : AlarmChange t s) : t.sets = s.sets := by
  simp only [State.sets, h.recipes, h.energy]

theorem LineChange.sets {t s : State} (h : LineChange t s) : t.sets = s.sets := h.alarm.sets

/-! ### The start of a unit or of a cycle (R38, R39, R87) -/

theorem State.disableReq_sets (s : State) : s.disableReq.sets = s.sets := by
  unfold State.disableReq
  split <;> rfl

theorem State.holdFor_sets (s : State) (k : AlarmKind) (n : NextWork) : (s.holdFor k n).sets = s.sets :=
  (State.raise_change _ k).sets.trans s.disableReq_sets

theorem State.wireStep_positioning_sets (s : State) : (s.wireStep .positioning).sets = s.sets := by
  unfold State.wireStep State.wireGate
  split
  · exact State.holdFor_sets _ _ _
  · rfl

theorem State.startWire_sets (s : State) : s.startWire.sets = s.sets := by
  unfold State.startWire
  dsimp only
  split
  · rfl
  · split
    · rfl
    · exact State.wireStep_positioning_sets _

theorem State.selectUnit_sets (s : State) : s.selectUnit.sets = s.sets := by
  unfold State.selectUnit
  split
  · split <;> rfl
  · rfl

theorem State.settleHead_sets (s : State) : s.settleHead.sets = s.sets := by
  unfold State.settleHead
  split
  · split
    · exact (State.startWire_sets _).trans s.selectUnit_sets
    · split <;> rfl
  · rfl

/-! ### The waiting strip (R96) -/

theorem State.makeOffer_sets (s : State) : s.makeOffer.sets = s.sets :=
  ((State.submit_change _ _ _).trans (State.queueBeacon_change _)).sets

theorem State.startUnload_sets (s : State) : s.startUnload.sets = s.sets := by
  unfold State.startUnload
  split
  · exact (State.queueBeacon_change _).sets
  · rfl

theorem State.outputFull_sets (s : State) : s.outputFull.sets = s.sets := by
  unfold State.outputFull
  split
  · rfl
  · exact (State.raise_change _ _).sets

theorem State.outputAnswer_sets (s : State) : s.outputAnswer.sets = s.sets := by
  unfold State.outputAnswer
  split
  · split
    · exact s.startUnload_sets
    · split
      · rfl
      · exact s.outputFull_sets
  · rfl

theorem State.settleStrip_sets (s : State) : s.settleStrip.sets = s.sets := by
  unfold State.settleStrip State.evaluateStrip
  split
  · split
    · split
      · exact s.outputAnswer_sets
      · split
        · exact s.makeOffer_sets
        · rfl
    · rfl
  · rfl

/-! ### The feed (R119) and the record port (R153) -/

theorem State.inputEmpty_sets (s : State) : s.inputEmpty.sets = s.sets := by
  unfold State.inputEmpty
  split
  · rfl
  · exact (State.raise_change _ _).sets

theorem State.searchFrom_sets (s : State) (n : Nat) : (s.searchFrom n).sets = s.sets := by
  unfold State.searchFrom
  split
  · rfl
  · exact State.inputEmpty_sets _

theorem State.settleFeed_sets (s : State) : s.settleFeed.sets = s.sets := by
  unfold State.settleFeed State.testFeed
  split
  · split
    · split
      · exact s.searchFrom_sets 1
      · exact s.inputEmpty_sets
    · rfl
  · rfl

theorem State.arbitrateWrites_sets (s : State) : s.arbitrateWrites.sets = s.sets := by
  have hahead : State.sets (match s.log.aheadDue with | some a => s.startErase a | none => s) = s.sets := by
    split <;> rfl
  unfold State.arbitrateWrites
  split
  · rfl
  · split
    · exact hahead
    · rfl
  · exact hahead

theorem State.answerRead_sets (s : State) (r : ReadSpan) : (s.answerRead r).sets = s.sets := by
  unfold State.answerRead
  split
  · exact (State.reply_change _ _ _).sets
  · rfl

theorem State.serveRead_sets (s : State) (r : ReadSpan) (v : ReadService) : (s.serveRead r v).sets = s.sets := by
  unfold State.serveRead
  dsimp only
  split
  · exact (State.arbitrateWrites_sets _).trans (s.answerRead_sets _)
  · rfl

theorem State.arbitrateRead_sets (s : State) : s.arbitrateRead.sets = s.sets := by
  unfold State.arbitrateRead
  split
  · split
    · exact s.serveRead_sets _ _
    · exact s.serveRead_sets _ _
    · exact s.arbitrateWrites_sets
  · exact s.arbitrateWrites_sets

theorem State.settlePort_sets (s : State) : s.settlePort.sets = s.sets := by
  unfold State.settlePort State.arbitrate
  split
  · split
    · split
      · split
        · rfl
        · exact s.arbitrateRead_sets
      · exact s.arbitrateRead_sets
    · rfl
  · rfl

theorem State.finish_sets (old s : State) : (State.finish old s).sets = s.sets := (State.finish_change old s).sets

/-! ### The application point (R26 to R28) -/

/-- An activation applied: the active set becomes prior, the pending one active, and every ring is empty (R28). -/
theorem State.applyActivation_sets {s : State} {run : Nat} {r : Recipe} (hd : s.recipes.pending.due = some run)
    (hr : s.recipes.pending.status = .ready r) : s.applyActivation.sets =
      (⟨⟨0, none, [], .loading, none⟩, some ⟨r, run⟩, s.recipes.active⟩, List.replicate 8 ⟨0, []⟩) := by
  unfold State.applyActivation
  simp only [hd, hr]
  have hasks (u : State) : u.askHead.askFeed.sets = u.sets := rfl
  rw [hasks, (State.queueBeacon_change _).sets, (State.standbyTest_panel _).line.sets]
  rfl

/-- An activation due at a PARKED head and not deferred is applied in the event that asks for it, whatever starts there
(R26, R27). -/
theorem State.settle_applies {s : State} (hop : s.operating = true) (hp : s.head.state = .parked)
    (hd : s.deferred = false) (ha : s.agenda.point = true) : s.settle.sets = s.applyActivation.sets := by
  have h1 : s.settlePlace = s := by simp [State.settlePlace, hp]
  have h2 : s.settlePoint = s.applyActivation := by simp [State.settlePoint, State.atPoint, State.applyDue, hp, hd, ha]
  unfold State.settle
  rw [if_pos hop, h1, h2, State.settlePort_sets, State.settleFeed_sets, State.settleStrip_sets, State.settleHead_sets]

/-- Away from a PARKED or HELD head, or deferred, a due activation stays due (R26, R27). -/
theorem State.settlePoint_waits {s : State}
    (hw : (s.head.state ≠ .parked ∧ s.head.state ≠ .held) ∨ s.deferred = true) : s.settlePoint = s := by
  unfold State.settlePoint
  split
  · next hat =>
    rcases hw with ⟨hp, hh⟩ | hd
    · simp [State.atPoint, hp, hh] at hat
    · simp [State.applyDue, hd]
  · rfl

section
variable {s : State} {h : Hdr} {gen run : Nat}

theorem exec_recipeActivate (h : Hdr) (gen run : Nat) (p : Pins) (s : State) :
    exec (.recipeActivate h gen run p) s = request s h p fun t => t.activate h gen run := rfl

/-- An activation becomes due, and an application point is tested (R25, R26). -/
def State.activationDue (s : State) (run : Nat) : State := ({ s with recipes.pending.due := some run } : State).askPoint

theorem State.activate_ready {r : Recipe} (hrun : s.running = true) (hg : s.recipes.pending.generation = gen)
    (hr : s.recipes.pending.status = .ready r) :
    s.activate h gen run = s.activationDue run := by
  simp [State.activate, State.activationDue, hrun, hg, hr]

/-- Why RECIPE ACTIVATE is refused, with the refusal's code and detail value (R25). -/
def State.refusesActivation (s : State) (gen code detail : Nat) : Prop :=
  s.running = false ∧ code = 9 ∧ detail = 0
    ∨ s.running = true ∧ s.recipes.pending.generation ≠ gen ∧ code = 1 ∧ detail = s.recipes.pending.generation
    ∨ s.running = true ∧ s.recipes.pending.generation = gen ∧ s.recipes.pending.status = .loading ∧ code = 1
      ∧ detail = gen
    ∨ s.running = true ∧ s.recipes.pending.generation = gen ∧ s.recipes.pending.status = .invalid detail ∧ code = 2

theorem State.activate_refused {code detail : Nat} (hw : s.refusesActivation gen code detail) :
    s.activate h gen run = s.refuse h .recipeActivate code detail := by
  rcases hw with ⟨hrun, rfl, rfl⟩ | ⟨hrun, hg, rfl, rfl⟩ | ⟨hrun, hg, hst, rfl, rfl⟩ | ⟨hrun, hg, hst, rfl⟩
  · simp [State.activate, hrun]
  · simp [State.activate, hrun, hg]
  · simp [State.activate, hrun, hg, hst]
  · simp [State.activate, hrun, hg, hst]

/-- The activation of a READY set at a PARKED head (R26, R28). -/
theorem recipeActivate_applies {r : Recipe} (hs : s.serves h = true) (p : Pins) (hrun : s.running = true)
    (hg : s.recipes.pending.generation = gen) (hr : s.recipes.pending.status = .ready r) (hp : s.head.state = .parked)
    (hd : s.deferred = false) : ∃ t, exec (.recipeActivate h gen run p) s = .next t ∧ t.sets =
      (⟨⟨0, none, [], .loading, none⟩, some ⟨r, run⟩, s.recipes.active⟩, List.replicate 8 ⟨0, []⟩) := by
  obtain ⟨hop, -⟩ := State.serves_iff.mp hs
  rw [exec_recipeActivate]
  obtain ⟨b, hb⟩ := request_served hs p fun t => t.activate h gen run
  refine ⟨_, hb, ?_⟩
  rw [State.activate_ready (s := s.heardAsking p h.sender b) hrun hg hr, State.finish_sets]
  calc ((s.heardAsking p h.sender b).activationDue run).settle.sets
      = ((s.heardAsking p h.sender b).activationDue run).applyActivation.sets := State.settle_applies hop hp hd rfl
    _ = _ := State.applyActivation_sets rfl hr

/-- The activation of a READY set that must wait (R26, R27). -/
theorem recipeActivate_waits {r : Recipe} (hs : s.serves h = true) (p : Pins) (hrun : s.running = true)
    (hg : s.recipes.pending.generation = gen) (hr : s.recipes.pending.status = .ready r)
    (hw : (s.head.state ≠ .parked ∧ s.head.state ≠ .held) ∨ s.deferred = true) :
    ∃ t, exec (.recipeActivate h gen run p) s = .next t ∧ t.recipes = { s.recipes with pending.due := some run } := by
  rw [exec_recipeActivate]
  obtain ⟨b, hb⟩ := request_served hs p fun t => t.activate h gen run
  rw [State.activate_ready (s := s.heardAsking p h.sender b) hrun hg hr] at hb
  have hn := (State.finish_news s _).trans (State.settle_news (State.settlePoint_waits
    (s := (s.heardAsking p h.sender b).activationDue run) hw) rfl rfl rfl)
  exact ⟨_, hb, congrArg Ledger.recipes hn.1⟩

end

/-- Settles O23: a READY set's activation is applied or due, as the head and the strip's generation decide; else the
request is refused. -/
theorem activationIsAppliedOrDue : Obligations.ActivationIsAppliedOrDue := by
  intro h gen run p s hs
  refine ⟨fun r hrun hg hr => ⟨fun hp hd => ?_, recipeActivate_waits hs p hrun hg hr⟩, fun code detail hw => ?_⟩
  · obtain ⟨t, ht, hsets⟩ := recipeActivate_applies (run := run) hs p hrun hg hr hp hd
    exact ⟨t, ht, congrArg Prod.fst hsets, congrArg Prod.snd hsets⟩
  · rw [exec_recipeActivate]
    exact request_refused hs p fun b => State.activate_refused (s := s.heardAsking p h.sender b) hw

end Sys2Proof.Machine

/-! ## O57 and O59: a request at the spark port that no FIRE made

`State.duesOk` speaks of the requests of the head's uses only, while SPARK OK and SPARK OPEN answer every live request of
the spark port (`State.onAnswer` with `fun _ => true`). A state whose list of due requests holds one of that port under
another use meets `headOk`, and its answer acts on a head that waits for nothing. No meaning makes such a request. -/

namespace Sys2Proof.Machine

/-- A running part at rest, its debt at +8 and line hold on. The spark port owes an answer to a request that is not the
head's; SPARK OPEN is next. -/
def strayDueState : State :=
  { State.reset with
    phase := .running
    head.debt := 8
    alarms.hold := [7]
    due := [⟨.spark, .belt, true⟩]
    pending := [.sparkOpen State.reset.pins] }

/-- The state that SPARK OPEN leaves of it. -/
def strayDueNext : State :=
  match step strayDueState with
  | .next t => t
  | _ => strayDueState

theorem step_strayDueState : step strayDueState = .next strayDueNext := rfl

/-- NO BALL has been raised at a head that stood PARKED, with FIRE as its next work (R45, R50). -/
theorem strayDueNext_held : strayDueNext.head.state = .held ∧ strayDueNext.head.next = .refire
    ∧ strayDueNext.alarmOpen .noBall = true ∧ strayDueNext.head.debt = 8 := by
  decide

theorem strayDueState_lawful : strayDueState.headOk = true ∧ strayDueState.alarms.idsOk = true
    ∧ strayDueState.wireInFlight = false := by
  decide

/-- With NO BALL open a wire is in flight. -/
theorem State.wireInFlight_of_noBall {s : State} (h : s.alarmOpen .noBall = true) : s.wireInFlight = true := by
  simp [State.wireInFlight, h]

/-- A wire in flight at debt +8 breaks the law of the debt. -/
theorem State.headOk_of_full_debt {s : State} (ho : s.operating = true) (hw : s.wireInFlight = true)
    (hd : s.head.debt = 8) : s.headOk = false := by
  simp [State.headOk, ho, hw, hd]

/-- Refutes O57: SPARK OPEN, answering a request of the spark port that is not the head's, puts a wire in flight at debt
+8. -/
theorem not_headStaysLawful : ¬ Obligations.HeadStaysLawful := by
  unfold Obligations.HeadStaysLawful
  intro h
  obtain ⟨hok, hids, -⟩ := strayDueState_lawful
  obtain ⟨-, -, hball, hdebt⟩ := strayDueNext_held
  have hbad := State.headOk_of_full_debt (s := strayDueNext) (by decide) (State.wireInFlight_of_noBall hball) hdebt
  exact absurd ((h _ _ hok hids step_strayDueState).symm.trans hbad) (by decide)

/-- Refutes O59: the same SPARK OPEN puts a wire in flight under line hold, where none was. -/
theorem not_holdStartsNothingNew : ¬ Obligations.HoldStartsNothingNew := by
  unfold Obligations.HoldStartsNothingNew
  intro h
  obtain ⟨hok, hids, hnone⟩ := strayDueState_lawful
  obtain ⟨-, -, hball, -⟩ := strayDueNext_held
  obtain ⟨-, hwire, -⟩ := h strayDueState strayDueNext (by decide) step_strayDueState (by decide)
  exact absurd (hnone.symm.trans (hwire hok hids (State.wireInFlight_of_noBall hball))) (by decide)

end Sys2Proof.Machine

/-! ## O2 and O3: the faults that stop a station -/

namespace Sys2Proof.Machine

/-! ### Which shape of event a command is -/

section
variable {c : Instr} {s : State}

/-- Every command but a hardware reset, a key's and the record port's is an event of a part that operates. -/
theorem exec_event (hr : ∀ x p, c ≠ .hardwareReset x p) (hk : c.ofKeys = false) (hp : c.ofPort = false) :
    ∃ f, exec c s = event s c.pins f := by
  cases c with
  | hardwareReset x p => exact absurd rfl (hr x p)
  | beacon h b p =>
    show ∃ f, execBeacon h b p s = _
    unfold execBeacon
    split <;> exact ⟨_, rfl⟩
  | keyScan | keyRelease | holdKey | menuKey | backKey | upKey | downKey | digitKey | enterKey => cases hk
  | entryWriteDone | headerWriteDone | eraseDone | pullReadSlotDone => cases hp
  | _ => exact ⟨_, rfl⟩

theorem exec_keyEvent (hk : c.ofKeys = true) : ∃ f, exec c s = keyEvent s c.pins f := by
  cases c with
  | keyScan | keyRelease | holdKey | menuKey | backKey | upKey | downKey | digitKey | enterKey => exact ⟨_, rfl⟩
  | _ => cases hk

theorem exec_portEvent (hp : c.ofPort = true) : ∃ f, exec c s = portEvent s c.pins f := by
  cases c with
  | entryWriteDone | headerWriteDone | eraseDone | pullReadSlotDone => exact ⟨_, rfl⟩
  | _ => cases hp

/-- Every frame's command receives it (R186). -/
theorem exec_receiveWith {h : Hdr} (hc : c.header = some h) : ∃ view f, exec c s = receiveWith s h c.pins view f := by
  cases c with
  | beacon g b p =>
    cases hc
    show ∃ view f, execBeacon h b p s = _
    unfold execBeacon
    split <;> exact ⟨_, _, rfl⟩
  | restart | offer | take | decline | stripRecord | alarm | settled | retry | skipUnit | passStrip | resume | continue_
  | forward | grade | hold | release | bypass | resumeBonding | recipeSegment | recipeActivate | tallySnapshot | tallyRead
  | pullRead | collected | skipSlots | magazineRead | errorDetail | discardedFrame =>
    obtain rfl := Option.some.inj hc
    simp only [exec, execRestart, execOffer, execTake, execDecline, execStripRecord, execAlarm, execSettled, execRetry,
      execSkipUnit, execPassStrip, execResume, execContinue, execForward, execGrade, execHold, execRelease, execBypass,
      execResumeBonding, execRecipeSegment, execRecipeActivate, execTallySnapshot, execTallyRead, execPullRead,
      execCollected, execSkipSlots, execMagazineRead, execErrorDetail, execDiscardedFrame, response, request, receive]
    exact ⟨_, _, rfl⟩
  | _ => exact nomatch hc

end

/-! ### A part that does not operate -/

section
variable {s : State}

theorem State.not_operating_iff : s.operating = false ↔ s.phase = .strapFault ∨ s.dup = true := by
  unfold State.operating
  cases s.phase <;> cases s.dup <;> decide

theorem event_off (p : Pins) (f : State → State) (h : s.operating = false) : event s p f = .next (s.begin_ p) := by
  rw [event, answer, s.perform_off p f h]

/-- At the end of an event of such a part only the agenda is emptied. -/
theorem State.finish_settle_off (old : State) (h : s.operating = false) :
    State.finish old s.settle = { s with agenda := Agenda.none } := by
  have b : s.beaconAfter old = s := by simp [State.beaconAfter, h]
  have k : s.keepLine = s := by simp [State.keepLine, h]
  rw [State.settle_off h, State.finish, b, k]

theorem State.raise_off (k : AlarmKind) (h : s.operating = false) : s.raise k = s := by
  simp [State.raise, h]

theorem State.clearAlarm_off (k : AlarmKind) (h : s.operating = false) : s.clearAlarm k = s := by
  unfold State.clearAlarm
  split
  · simp [h]
  · rfl

theorem State.offerPlaces_off (h : s.operating = false) : s.offerPlaces = s := by
  simp [State.offerPlaces, h]

theorem State.standbyTest_dup (h : s.dup = true) : s.standbyTest = s := by
  simp [State.standbyTest, h]

end

/-! ### The record port under the duplicate-station fault (R149, R163) -/

/-- `u` differs from `s` in the log and the tests made due, and its record port runs what that of `s` does. -/
structure LogOnly (u s : State) : Prop where
  same : u = { s with log := u.log, agenda := u.agenda }
  op : u.log.op = s.log.op

theorem LogOnly.trans {u t s : State} (h : LogOnly u t) (k : LogOnly t s) : LogOnly u s where
  same := by rw [h.same, k.same]
  op := h.op.trans k.op

theorem LogOnly.operating {u s : State} (h : LogOnly u s) : u.operating = s.operating := by
  rw [h.same]
  rfl

section
variable {s : State} (h : s.operating = false)
include h

theorem State.setFull_off : LogOnly s.setFull s := by
  unfold State.setFull
  rw [State.raise_off (s := { s with log.full := true }) .logFull h]
  exact ⟨rfl, rfl⟩

theorem State.needBlock_off (b : Nat) : LogOnly (s.needBlock b) s := by
  unfold State.needBlock
  split
  · exact ⟨rfl, rfl⟩
  · split
    · exact ⟨rfl, rfl⟩
    · exact (State.setFull_off (s := { s with log.pos := .need b }) h).trans ⟨rfl, rfl⟩

theorem State.advancePos_off : LogOnly s.advancePos s := by
  unfold State.advancePos
  split
  · split
    · exact State.needBlock_off h _
    · exact ⟨rfl, rfl⟩
  · exact ⟨rfl, rfl⟩

theorem State.clearFull_off : LogOnly s.clearFull s := by
  unfold State.clearFull
  split
  · have h2 : ({ s with log.full := false } : State).operating = false := h
    rw [State.clearAlarm_off .logFull h2, State.offerPlaces_off h2]
    exact ⟨rfl, rfl⟩
  · exact ⟨rfl, rfl⟩

/-- With the port's operation over, a completed entry write changes the log only. -/
theorem State.entryWritten_off (e : LogEntry) : LogOnly (s.entryWritten e) { s with log.op := .none } := by
  unfold State.entryWritten
  extract_lets l s1
  have h1 : LogOnly s1 { s with log.op := .none } :=
    (State.advancePos_off (s := { s with log.op := .none, log.queue := _, log.newest := _ }) h).trans
      (LogOnly.mk rfl rfl)
  have ho : s1.operating = false := h1.operating.trans h
  have h2 : LogOnly (if s1.log.exhausted && !s1.log.full then s1.setFull else s1) s1 := by
    split
    · exact State.setFull_off ho
    · exact ⟨rfl, rfl⟩
  rw [State.offerPlaces_off (h2.operating.trans ho)]
  exact LogOnly.trans ⟨rfl, rfl⟩ (h2.trans h1)

theorem State.erased_off (b : Nat) : LogOnly (s.erased b) { s with log.op := .none } := by
  unfold State.erased
  extract_lets l s1
  have h1 : LogOnly s1 { s with log.op := .none } := ⟨rfl, rfl⟩
  split
  · exact (State.clearFull_off (s := { s1 with log.pos := .entering b }) h).trans (LogOnly.trans ⟨rfl, rfl⟩ h1)
  · exact h1

end

/-- What a completion of the record port does to the log: nothing, or it leaves the port without an operation. -/
def PortEnds (u s : State) : Prop := u = s ∨ LogOnly u { s with log.op := .none }

section
variable {s : State} {c : Instr}

/-- Under the duplicate-station fault a completion of the record port is an event whose effect changes the log only. -/
theorem exec_ofPort_dup (hd : s.dup = true) (hc : c.ofPort = true) :
    ∃ f, exec c s = portEvent s c.pins f ∧ PortEnds (f (s.begin_ c.pins)) (s.begin_ c.pins) := by
  have h (p : Pins) : (s.begin_ p).operating = false := State.not_operating_iff.mpr (.inr hd)
  have hd2 (p : Pins) : (s.begin_ p).dup = true := hd
  cases c with
  | entryWriteDone p =>
    refine ⟨_, rfl, ?_⟩
    split
    · exact .inr (State.entryWritten_off (h p) _)
    · exact .inl rfl
  | headerWriteDone p =>
    refine ⟨_, rfl, ?_⟩
    split
    · exact .inr ⟨rfl, rfl⟩
    · exact .inl rfl
  | eraseDone p =>
    refine ⟨_, rfl, ?_⟩
    split
    · exact .inr (State.erased_off (h p) _)
    · exact .inl rfl
  | pullReadSlotDone b p =>
    refine ⟨_, rfl, ?_⟩
    split
    · rw [if_pos (hd2 _)]
      exact .inr ⟨rfl, rfl⟩
    · exact .inl rfl
  | _ => cases hc

/-- The state after a port completion under the duplicate-station fault. -/
theorem PortEnds.finished {u : State} {p : Pins} (h : PortEnds u (s.begin_ p)) :
    ({ u with agenda := Agenda.none } : State) = { s.begin_ p with log := u.log }
      ∧ (u.log.op = .none ∨ u.log = s.log) := by
  rcases h with rfl | h
  · exact ⟨rfl, .inr rfl⟩
  · refine ⟨?_, .inl h.op⟩
    rw [h.same]
    rfl

theorem PortEnds.operating {u : State} (h : PortEnds u s) : u.operating = s.operating := by
  rcases h with rfl | h
  · rfl
  · exact h.operating

end

/-! ### The keys under the duplicate-station fault (R176, R184) -/

/-- `u` differs from `s` at most in the key scan state, the idle timer and standby, which does not begin. -/
structure ScanOnly (u s : State) : Prop where
  same : u = { s with
    panel.pattern := u.panel.pattern, panel.runLength := u.panel.runLength
    panel.accepted := u.panel.accepted, panel.lockout := u.panel.lockout
    panel.idleMs := u.panel.idleMs, panel.standby := u.panel.standby }
  standby : u.panel.standby = true → s.panel.standby = true

theorem ScanOnly.refl (s : State) : ScanOnly s s := ⟨rfl, id⟩

theorem ScanOnly.trans {u t s : State} (h : ScanOnly u t) (k : ScanOnly t s) : ScanOnly u s where
  same := by rw [h.same, k.same]
  standby e := k.standby (h.standby e)

section
variable {s : State} {k : Key}

/-- An accepted key ends standby at most. -/
theorem State.takeKey_dup (hd : s.dup = true) (k : Key) : ScanOnly (s.takeKey k) s := by
  unfold State.takeKey
  rw [if_pos hd]
  split
  · exact ⟨rfl, nofun⟩
  · exact .refl s

theorem State.acceptKey_dup (hd : s.dup = true) (k : Key) : ScanOnly (s.acceptKey k) s :=
  (State.takeKey_dup (s := s.onPanel fun p => { p with accepted := some k, idleMs := 0 }) hd k).trans ⟨rfl, id⟩

/-- After an accepted key the panel is awake, its idle timer at zero. -/
theorem State.acceptKey_dup_panel (hd : s.dup = true) (k : Key) : (s.acceptKey k).panel.standby = false
    ∧ (s.acceptKey k).panel.idleMs = 0 ∧ (s.acceptKey k).panel.accepted = some k := by
  unfold State.acceptKey State.takeKey
  split
  · exact ⟨rfl, rfl, rfl⟩
  · next h =>
    have h2 : (s.onPanel fun p => { p with accepted := some k, idleMs := 0 }).dup = true := hd
    rw [if_pos h2]
    exact ⟨by simpa using h, rfl, rfl⟩

theorem State.scanKeys_dup (hd : s.dup = true) (x : Scan) : ScanOnly (s.scanKeys x) s := by
  have h1 : ScanOnly (s.onPanel fun p => p.scan x) s := ⟨rfl, id⟩
  unfold State.scanKeys
  dsimp only
  split
  · split
    · exact (State.acceptKey_dup (s := s.onPanel _) hd _).trans h1
    · rwa [State.standbyTest_dup (s := s.onPanel _) hd]
  · split
    · rw [State.standbyTest_dup (s := (s.onPanel _).onPanel _) hd]
      exact ScanOnly.trans ⟨rfl, id⟩ h1
    · rwa [State.standbyTest_dup (s := s.onPanel _) hd]
  · rwa [State.standbyTest_dup (s := s.onPanel _) hd]

theorem State.pressKey_dup (hd : s.dup = true) (hp : s.hasPanel = true) (k : Key) : ScanOnly (s.pressKey k) s := by
  unfold State.pressKey
  rw [if_pos hp]
  exact (State.acceptKey_dup (s := s.onPanel _) hd k).trans ⟨rfl, id⟩

end

section
variable {s : State} {c : Instr}

/-- What a command of the keys does to a panel under the duplicate-station fault. -/
theorem exec_ofKeys_dup (hd : s.dup = true) (hc : c.ofKeys = true) : ∃ f, exec c s = keyEvent s c.pins f
    ∧ (s.hasPanel = true → ScanOnly (f (s.begin_ c.pins)) (s.begin_ c.pins)
      ∧ ∀ k, c.key = some k → f (s.begin_ c.pins) = (s.begin_ c.pins).pressKey k) := by
  have hd2 (p : Pins) : (s.begin_ p).dup = true := hd
  cases c with
  | keyScan x p => exact ⟨_, rfl, fun _ => ⟨State.scanKeys_dup (hd2 p) x, nofun⟩⟩
  | keyRelease p => exact ⟨_, rfl, fun _ => ⟨⟨rfl, id⟩, nofun⟩⟩
  | holdKey p | menuKey p | backKey p | upKey p | downKey p | digitKey _ p | enterKey p =>
    exact ⟨_, rfl, fun hp => ⟨State.pressKey_dup (hd2 p) hp _, fun k e => by cases e; rfl⟩⟩
  | _ => cases hc

theorem State.pressKey_dup_panel {k : Key} (hd : s.dup = true) (hp : s.hasPanel = true) :
    (s.pressKey k).panel.standby = false ∧ (s.pressKey k).panel.idleMs = 0 ∧ (s.pressKey k).panel.accepted = some k := by
  unfold State.pressKey
  rw [if_pos hp]
  exact State.acceptKey_dup_panel (s := s.onPanel _) hd k

/-- Under either fault a command that is not a hardware reset, a key's or the record port's only has the levels follow;
under a strap fault no other does more. -/
theorem exec_faulted (hr : ∀ x p, c ≠ .hardwareReset x p)
    (h : s.phase = .strapFault ∨ s.dup = true ∧ c.ofKeys = false ∧ c.ofPort = false) :
    exec c s = .next (s.begin_ c.pins) := by
  have ho : s.operating = false := State.not_operating_iff.mpr (h.imp_right And.left)
  have hb : (s.begin_ c.pins).operating = false := ho
  by_cases hk : c.ofKeys = false ∧ c.ofPort = false
  · obtain ⟨f, hf⟩ := exec_event (s := s) hr hk.1 hk.2
    rw [hf, event_off _ f ho]
  · have hs : s.phase = .strapFault := h.resolve_right fun x => hk x.2
    have hs2 : (s.begin_ c.pins).phase = .strapFault := hs
    have done (g : State → State) (hg : g (s.begin_ c.pins) = s.begin_ c.pins) :
        answer (s.perform c.pins g) = .next (s.begin_ c.pins) := by
      rw [State.perform, hg, State.finish_settle_off s hb]
      rfl
    rcases not_and_or.mp hk with hk | hk
    · obtain ⟨f, hf⟩ := exec_keyEvent (s := s) (Bool.eq_true_of_not_eq_false hk)
      have hstay : ((s.begin_ c.pins).hasPanel && (s.begin_ c.pins).phase != .strapFault) = false := by
        rw [hs2]
        exact Bool.and_false _
      rw [hf]
      exact done _ (by rw [hstay]; rfl)
    · obtain ⟨f, hf⟩ := exec_portEvent (s := s) (Bool.eq_true_of_not_eq_false hk)
      rw [hf]
      exact done _ (if_pos hs2)

end

/-- Settles O2: a stopped part's event ends as it began, but for the log of a completed operation of the record port and
the key scan state. -/
theorem faultedStationActsOnNothing : Obligations.FaultedStationActsOnNothing := by
  intro c s hr
  refine ⟨exec_faulted hr, fun hs hd hc => ?port, fun hs hd hc => ?keys⟩
  case port =>
    obtain ⟨f, hf, hend⟩ := exec_ofPort_dup hd hc
    have ho : (f (s.begin_ c.pins)).operating = false := hend.operating.trans (State.not_operating_iff.mpr (.inr hd))
    have hs2 : (s.begin_ c.pins).phase ≠ .strapFault := hs
    have hx : exec c s = .next { f (s.begin_ c.pins) with agenda := Agenda.none } := by
      rw [hf, portEvent, answer, State.perform, if_neg hs2, State.finish_settle_off s ho]
    exact ⟨_, hx, hend.finished⟩
  case keys =>
    obtain ⟨f, hf, heffect⟩ := exec_ofKeys_dup hd hc
    have hs2 : ((s.begin_ c.pins).phase != .strapFault) = true := bne_iff_ne.mpr hs
    have hb : (s.begin_ c.pins).operating = false := State.not_operating_iff.mpr (.inr hd)
    by_cases hp : s.hasPanel = true
    · obtain ⟨hscan, hkey⟩ := heffect hp
      have ho : (f (s.begin_ c.pins)).operating = false := by
        rw [hscan.same]
        exact hb
      have hp2 : (s.begin_ c.pins).hasPanel = true := hp
      have hx : exec c s = .next { f (s.begin_ c.pins) with agenda := Agenda.none } := by
        rw [hf, keyEvent, answer, State.perform, hp2, hs2, Bool.and_self, if_pos rfl, State.finish_settle_off s ho]
      refine ⟨_, hx, ?_, hscan.standby, fun e => absurd (hp.symm.trans e) (by decide), fun _ hk => ?_⟩
      · exact congrArg (fun u : State => { u with agenda := Agenda.none }) hscan.same
      · obtain ⟨k, hk⟩ := Option.isSome_iff_exists.mp hk
        rw [hk, hkey k hk]
        exact State.pressKey_dup_panel (s := s.begin_ c.pins) hd hp
    · have hp2 : (s.begin_ c.pins).hasPanel = false := Bool.eq_false_iff.mpr hp
      have hx : exec c s = .next (s.begin_ c.pins) := by
        rw [hf, keyEvent, answer, State.perform, hp2, Bool.false_and, if_neg Bool.false_ne_true,
          State.finish_settle_off s hb]
        rfl
      exact ⟨_, hx, rfl, id, fun _ => rfl, fun e => absurd e hp⟩

/-! ### The own sender number (R61, R189) -/

section
variable {s : State}

theorem State.abortBond_closed (s : State) : s.abortBond.energy.status = .closed := by
  unfold State.abortBond
  split
  · assumption
  · rfl
  · rfl

/-- What aborting a bond leaves: all but the energy monitor and the tallies. -/
theorem State.abortBond_frame (s : State) :
    s.abortBond = { s with energy := s.abortBond.energy, tally := s.abortBond.tally } := by
  unfold State.abortBond
  split <;> rfl

theorem State.disableReq_frame (s : State) :
    s.disableReq = { s with head.enabled := false, out := s.disableReq.out } := by
  unfold State.disableReq
  split
  · rfl
  · next h =>
    have e : s.head.enabled = false := by simpa using h
    rw [← e]

/-- The declared fault: the head HELD for it with the transducer disabled and no bond open, no send and no timer going
on; what else changes is the tally of an aborted bond and the requests. -/
theorem State.declareDup_same (s : State) : s.declareDup.energy.status = .closed ∧ s.declareDup = { s with
    head := { s.head with
      enabled := false, untrackedBond := false, state := .held, stage := .idle, heldFor := .duplicate, winding := false
      homingParks := false }
    energy := s.declareDup.energy, tally := s.declareDup.tally, out := s.declareDup.out
    line.sending := none, line.last := some s.stn
    window.offerTimer := none, window.arrivalTimer := none, window.exitTimer := none
    inMag.feedTimer := none, outMag.unloadTimer := none
    dup := true } := by
  have hhead : s.dupHead = { s with
      head := { s.head with
        enabled := false, untrackedBond := false, state := .held, stage := .idle, heldFor := .duplicate, winding := false
        homingParks := false }
      energy := s.disableReq.abortBond.energy, tally := s.disableReq.abortBond.tally, out := s.disableReq.out } := by
    unfold State.dupHead
    rw [State.abortBond_frame, State.disableReq_frame]
    rfl
  have hclosed : s.dupHead.energy.status = .closed := s.disableReq.abortBond_closed
  unfold State.declareDup State.stopTimers
  refine ⟨?_, ?_⟩
  · split <;> exact hclosed
  · rw [hhead]
    split <;> rfl

/-- A good frame of the own number stops the part in its event (R61, R189). -/
theorem receiveWith_own {h : Hdr} (p : Pins) (view f : State → State) (ho : s.operating = true) (hn : h.sender = s.stn)
    (h1 : 1 ≤ s.stn) (h7 : s.stn ≤ 7) :
    receiveWith s h p view f = .next { (s.begin_ p).declareDup with agenda := Agenda.none } := by
  have hbad : ¬ (h.sender = 0 ∨ 7 < h.sender) := by omega
  have hown : h.sender = (s.begin_ p).stn := hn
  have hoff : (s.begin_ p).declareDup.operating = false := State.not_operating_iff.mpr (.inr rfl)
  unfold receiveWith event answer
  rw [s.perform_on p _ ho, State.perform, if_neg hbad, if_pos hown, State.finish_settle_off s hoff]

end

/-- Settles O3: whatever the frame, its event ends with the fault declared. -/
theorem ownNumberDeclaresDuplicate : Obligations.OwnNumberDeclaresDuplicate := by
  intro c h s hc ho hn h1 h7
  obtain ⟨view, f, hf⟩ := exec_receiveWith (s := s) hc
  obtain ⟨hclosed, hsame⟩ := (s.begin_ c.pins).declareDup_same
  rw [receiveWith_own c.pins view f ho hn h1 h7] at hf
  generalize (s.begin_ c.pins).declareDup = u at hf hclosed hsame
  refine ⟨_, hf, ?_⟩
  rw [hsame]
  exact ⟨rfl, State.not_operating_iff.mpr (.inr rfl), rfl, rfl, rfl, hclosed, rfl, rfl, rfl, rfl, rfl, rfl, rfl, rfl, rfl,
    rfl, rfl, rfl, rfl, rfl⟩

end Sys2Proof.Machine

/-! ## What leaves the head to its work

The application point, the waiting strip, the feed and the record port (R26, R96, R119, R153) change neither the head nor
the strip record, the pull sample, the tallies or an open bond. -/

namespace Sys2Proof.Machine

/-- `t` comes from `s` by steps that leave the head and its work alone, and that make no request of the head's. -/
structure Rests (t s : State) : Prop where
  same : t = { s with
    line := t.line, panel := t.panel, out := t.out, due := t.due, agenda := t.agenda, recipes := t.recipes
    energy.rings := t.energy.rings, inMag := t.inMag, outMag := t.outMag, log := t.log
    window.state := t.window.state, window.offerTimer := t.window.offerTimer
    window.recordQueued := t.window.recordQueued
    alarms.queue := t.alarms.queue, alarms.counter := t.alarms.counter }
  awaits : ∀ u, u.ofHead = true → t.awaiting u = s.awaiting u

section
variable {u t s : State}

theorem Rests.refl (s : State) : Rests s s := ⟨rfl, fun _ _ => rfl⟩

theorem Rests.trans (h : Rests u t) (k : Rests t s) : Rests u s where
  same := by rw [h.same, k.same]
  awaits v hv := (h.awaits v hv).trans (k.awaits v hv)

theorem Rests.head (h : Rests t s) : t.head = s.head := (congrArg State.head h.same :)
theorem Rests.pull (h : Rests t s) : t.pull = s.pull := (congrArg State.pull h.same :)
theorem Rests.phase (h : Rests t s) : t.phase = s.phase := (congrArg State.phase h.same :)
theorem Rests.dup (h : Rests t s) : t.dup = s.dup := (congrArg State.dup h.same :)
theorem Rests.pins (h : Rests t s) : t.pins = s.pins := (congrArg State.pins h.same :)
theorem Rests.straps (h : Rests t s) : t.straps = s.straps := (congrArg State.straps h.same :)
theorem Rests.tally (h : Rests t s) : t.tally = s.tally := (congrArg State.tally h.same :)
theorem Rests.record (h : Rests t s) : t.window.record = s.window.record :=
  (congrArg (fun x : State => x.window.record) h.same :)
theorem Rests.energy (h : Rests t s) : t.energy = { s.energy with rings := t.energy.rings } :=
  (congrArg State.energy h.same :)
theorem Rests.hold (h : Rests t s) : t.alarms.hold = s.alarms.hold :=
  (congrArg (fun x : State => x.alarms.hold) h.same :)
theorem Rests.bypass (h : Rests t s) : t.alarms.bypass = s.alarms.bypass :=
  (congrArg (fun x : State => x.alarms.bypass) h.same :)

theorem Rests.operating (h : Rests t s) : t.operating = s.operating := by
  rw [State.operating, h.phase, h.dup, State.operating]

theorem ofHead_ne {v : Use} (h : v.ofHead = true) : v ≠ .clampStrip ∧ v ≠ .belt := by
  constructor <;> rintro rfl <;> cases h

theorem Posts.rests (h : Posts t s) : Rests t s where
  same := by
    have hc := h.change
    unfold LineChange at hc
    rw [hc]
  awaits v hv := h.awaits v (ofHead_ne hv).1 (ofHead_ne hv).2

theorem Raises.rests {ks : List AlarmKind} (h : Raises ks t s) : Rests t s where
  same := by
    have hc := h.change
    unfold AlarmChange at hc
    rw [hc]
  awaits v hv := h.awaits v (ofHead_ne hv).1 (ofHead_ne hv).2

theorem State.raise_rests (s : State) (k : AlarmKind) : Rests (s.raise k) s :=
  (State.raise_raises s (List.mem_singleton.mpr rfl)).rests

theorem State.issue_rests (s : State) (r : Request) : Rests (s.issue r) s := ⟨rfl, fun _ _ => rfl⟩

/-- A request of another block than the head. -/
theorem State.request_rests (s : State) (r : Request) (pt : Port) {v : Use} (hv : v.ofHead = false) :
    Rests (s.request r pt v) s := by
  refine ⟨rfl, fun w hw => ?_⟩
  have hne : (v == w) = false := by
    rw [beq_eq_false_iff_ne]
    rintro rfl
    exact absurd (hw.symm.trans hv) (by decide)
  simp [State.awaiting, State.request, hne]

end

/-! ### The application point and the waiting strip (R26, R96) -/

theorem State.applyDue_rests (s : State) : Rests s.applyDue s := by
  unfold State.applyDue State.applyActivation
  split
  · exact .refl s
  · split
    · next run r _ _ =>
      have h1 : Rests ({ s with
          recipes.prior := s.recipes.active
          recipes.active := some ⟨r, run⟩
          recipes.pending := ⟨0, none, [], .loading, none⟩
          energy.rings := emptyRings } : State) s := ⟨rfl, fun _ _ => rfl⟩
      have h2 := ((State.standbyTest_panel _).posts (State.standbyTest_news _)).rests.trans h1
      have hasks (u : State) : Rests u.askHead.askFeed u := ⟨rfl, fun _ _ => rfl⟩
      exact (hasks _).trans ((State.queueBeacon_posts _).rests.trans h2)
    · exact .refl s

theorem State.settlePoint_rests (s : State) : Rests s.settlePoint s := by
  unfold State.settlePoint
  split
  · exact s.applyDue_rests
  · exact .refl s

theorem State.makeOffer_rests (s : State) : Rests s.makeOffer s :=
  ((State.submit_posts _ _ _).rests.trans (State.queueBeacon_posts _).rests).trans ⟨rfl, fun _ _ => rfl⟩

theorem State.startUnload_rests (s : State) : Rests s.startUnload s := by
  unfold State.startUnload
  split
  · exact (State.queueBeacon_posts _).rests.trans
      ((State.request_rests _ _ _ (by decide)).trans ⟨rfl, fun _ _ => rfl⟩)
  · exact .refl s

theorem State.outputFull_rests (s : State) : Rests s.outputFull s := by
  unfold State.outputFull
  split
  · exact .refl s
  · exact s.raise_rests _

theorem State.outputAnswer_rests (s : State) : Rests s.outputAnswer s := by
  unfold State.outputAnswer
  split
  · split
    · exact s.startUnload_rests
    · split
      · exact .refl s
      · exact s.outputFull_rests
  · exact .refl s

theorem State.evaluateStrip_rests (s : State) : Rests s.evaluateStrip s := by
  unfold State.evaluateStrip
  split
  · split
    · exact s.outputAnswer_rests
    · split
      · exact s.makeOffer_rests
      · exact .refl s
  · exact .refl s

theorem State.settleStrip_rests (s : State) : Rests s.settleStrip s := by
  unfold State.settleStrip
  split
  · exact s.evaluateStrip_rests
  · exact .refl s

/-! ### The feed and the record port (R119, R153) -/

theorem State.inputEmpty_rests (s : State) : Rests s.inputEmpty s := by
  unfold State.inputEmpty
  split
  · exact .refl s
  · exact s.raise_rests _

theorem State.searchFrom_rests (s : State) (n : Nat) : Rests (s.searchFrom n) s := by
  unfold State.searchFrom
  split
  · exact (State.request_rests _ _ _ (by decide)).trans ⟨rfl, fun _ _ => rfl⟩
  · exact (State.inputEmpty_rests _).trans ⟨rfl, fun _ _ => rfl⟩

theorem State.testFeed_rests (s : State) : Rests s.testFeed s := by
  unfold State.testFeed
  split
  · split
    · exact s.searchFrom_rests 1
    · exact s.inputEmpty_rests
  · exact .refl s

theorem State.settleFeed_rests (s : State) : Rests s.settleFeed s := by
  unfold State.settleFeed
  split
  · exact s.testFeed_rests
  · exact .refl s

theorem State.answerRead_rests (s : State) (r : ReadSpan) : Rests (s.answerRead r) s := by
  unfold State.answerRead
  split
  · exact (State.reply_posts _ _ _).rests.trans ⟨rfl, fun _ _ => rfl⟩
  · exact .refl s

theorem State.aheadErase_rests (s : State) :
    Rests (match s.log.aheadDue with | some a => s.startErase a | none => s) s := by
  split
  · exact ⟨rfl, fun _ _ => rfl⟩
  · exact .refl s

theorem State.arbitrateWrites_rests (s : State) : Rests s.arbitrateWrites s := by
  unfold State.arbitrateWrites
  split
  · exact ⟨rfl, fun _ _ => rfl⟩
  · split
    · exact s.aheadErase_rests
    · exact ⟨rfl, fun _ _ => rfl⟩
  · exact s.aheadErase_rests

theorem State.serveRead_rests (s : State) (r : ReadSpan) (v : ReadService) : Rests (s.serveRead r v) s := by
  unfold State.serveRead
  dsimp only
  split
  · exact (State.arbitrateWrites_rests _).trans (s.answerRead_rests _)
  · exact ⟨rfl, fun _ _ => rfl⟩

theorem State.arbitrateRead_rests (s : State) : Rests s.arbitrateRead s := by
  unfold State.arbitrateRead
  split
  · split
    · exact s.serveRead_rests _ _
    · exact s.serveRead_rests _ _
    · exact s.arbitrateWrites_rests
  · exact s.arbitrateWrites_rests

theorem State.arbitrate_rests (s : State) : Rests s.arbitrate s := by
  unfold State.arbitrate
  split
  · split
    · split
      · exact ⟨rfl, fun _ _ => rfl⟩
      · exact s.arbitrateRead_rests
    · exact s.arbitrateRead_rests
  · exact .refl s

theorem State.settlePort_rests (s : State) : Rests s.settlePort s := by
  unfold State.settlePort
  split
  · exact s.arbitrate_rests
  · exact .refl s

/-! ### The end of an event whose head does not start anew -/

section
variable {s : State}

theorem State.settlePlace_of_calm (hl : s.agenda.place = false) (hf : s.agenda.full = false) : s.settlePlace = s := by
  simp [State.settlePlace, hl, hf]

theorem State.settleHead_of_busy (hp : s.head.state ≠ .parked ∨ s.unitStartable = false ∧ s.pullInAllowed = false) :
    s.settleHead = s := by
  unfold State.settleHead
  split
  · next h =>
    rcases hp with hp | ⟨hu, hq⟩
    · simp [hp] at h
    · simp [hu, hq]
  · rfl

/-- With a head that is not PARKED, or that may start nothing, an event's tests leave it alone. -/
theorem State.settle_rests (hl : s.agenda.place = false) (hf : s.agenda.full = false)
    (hp : s.settlePoint.head.state ≠ .parked
      ∨ s.settlePoint.unitStartable = false ∧ s.settlePoint.pullInAllowed = false) : Rests s.settle s := by
  unfold State.settle
  rw [State.settlePlace_of_calm hl hf, State.settleHead_of_busy hp]
  split
  · exact (State.settlePort_rests _).trans ((State.settleFeed_rests _).trans ((State.settleStrip_rests _).trans
      s.settlePoint_rests))
  · exact .refl s

theorem State.finish_rests (old s : State) : Rests (State.finish old s) s :=
  Rests.trans ⟨rfl, fun _ _ => rfl⟩ ((State.keepLine_posts _).trans (s.beaconAfter_posts old)).rests

/-- A head at work stays as the event's effect has left it. -/
theorem State.finish_settle_rests (old : State) (hl : s.agenda.place = false) (hf : s.agenda.full = false)
    (hp : s.head.state ≠ .parked) : Rests (State.finish old s.settle) s := by
  refine (State.finish_rests old _).trans (State.settle_rests hl hf (.inl ?_))
  rw [s.settlePoint_rests.head]
  exact hp

/-- Under BYPASS a PARKED head starts nothing (R38, R52, R87). -/
theorem State.finish_settle_bypass (old : State) (hl : s.agenda.place = false) (hf : s.agenda.full = false)
    (hb : s.alarms.bypass = true) : Rests (State.finish old s.settle) s := by
  have hb2 : s.settlePoint.alarms.bypass = true := s.settlePoint_rests.bypass.trans hb
  refine (State.finish_rests old _).trans (State.settle_rests hl hf (.inr ⟨?_, ?_⟩))
  · simp [State.unitStartable, hb2]
  · simp [State.pullInAllowed, hb2]

end

/-! ### The head HELD for an alarm (R50) -/

/-- The head HELD for an alarm with its transducer disabled, the work `n` to follow. -/
def Head.heldWith (h : Head) (n : NextWork) : Head :=
  { h with enabled := false, state := .held, stage := .idle, heldFor := .alarm, next := n, intent := .none
           winding := false }

section
variable {s : State} {k : AlarmKind} {n : NextWork}

theorem State.disableReq_rests (s : State) : Rests s.disableReq { s with head.enabled := false } := by
  unfold State.disableReq
  split
  · exact State.issue_rests _ _
  · next h =>
    have e : s.head.enabled = false := by simpa using h
    rw [← e]
    exact .refl s

/-- Steps that leave the head allow any change of the head before them to be made after them. -/
theorem Rests.with_head {t s : State} (h : Rests t s) (x : Head) : Rests { t with head := x } { s with head := x } where
  same := by rw [h.same]
  awaits := h.awaits

theorem State.holdFor_rests (s : State) (k : AlarmKind) (n : NextWork) :
    Rests (s.holdFor k n) { s with head := s.head.heldWith n } := by
  have h := (s.disableReq.raise_rests k).trans s.disableReq_rests
  have hx : (s.holdFor k n).head = s.head.heldWith n := by
    calc (s.holdFor k n).head = { (s.disableReq.raise k).head with
            state := .held, stage := .idle, heldFor := .alarm, next := n, intent := .none, winding := false } := rfl
      _ = s.head.heldWith n := by rw [h.head]; rfl
  have e : s.holdFor k n = ({ s.disableReq.raise k with head := s.head.heldWith n } : State).askPoint := by
    rw [← hx]
    rfl
  rw [e]
  exact Rests.trans ⟨rfl, fun _ _ => rfl⟩ (h.with_head _)

theorem State.holdFor_head (s : State) (k : AlarmKind) (n : NextWork) : (s.holdFor k n).head = s.head.heldWith n :=
  (s.holdFor_rests k n).head

theorem State.holdFor_open (n : NextWork) (h : s.operating = true) : (s.holdFor k n).alarmOpen k = true := by
  have ho : s.disableReq.operating = true := by
    rw [(State.disableReq_rests s).operating]
    exact h
  exact State.raise_open s.disableReq k ho

theorem State.disableReq_agenda (s : State) : s.disableReq.agenda = s.agenda := by
  unfold State.disableReq
  split <;> rfl

theorem State.holdFor_agenda (s : State) (k : AlarmKind) (n : NextWork) : (s.holdFor k n).agenda =
    { s.agenda with point := true, beacon := (s.holdFor k n).agenda.beacon } := by
  have h := (State.raise_raises s.disableReq (k := k) (List.mem_singleton.mpr rfl)).agenda
  have e : (s.holdFor k n).agenda = { (s.disableReq.raise k).agenda with point := true } := rfl
  rw [e, h, s.disableReq_agenda]

/-- The state at the end of an event whose effect holds the head for an alarm. -/
theorem State.holdFor_settled (old : State) (k : AlarmKind) (n : NextWork) (ho : s.operating = true)
    (ha : s.agenda.calm = true) : Rests (State.finish old (s.holdFor k n).settle) { s with head := s.head.heldWith n }
      ∧ Onward (State.finish old (s.holdFor k n).settle) (s.holdFor k n)
      ∧ (State.finish old (s.holdFor k n).settle).alarmOpen k = true := by
  obtain ⟨hpl, hfu⟩ : s.agenda.place = false ∧ s.agenda.full = false := by
    simp only [Agenda.calm, Bool.and_eq_true, Bool.not_eq_true'] at ha
    exact ⟨ha.1.1.2, ha.1.2⟩
  have hag := s.holdFor_agenda k n
  have hplace : (s.holdFor k n).agenda.place = false := by rw [hag]; exact hpl
  have hfull : (s.holdFor k n).agenda.full = false := by rw [hag]; exact hfu
  have hstate : (s.holdFor k n).head.state ≠ .parked := by
    rw [State.holdFor_head]
    nofun
  have hon := State.finish_settle_onward old _ hfull
  exact ⟨(State.finish_settle_rests old hplace hfull hstate).trans (s.holdFor_rests k n), hon,
    hon.alarmOpen (State.holdFor_open n ho)⟩

end

end Sys2Proof.Machine

/-! ## O28: answers that match no request, or one that is ignored -/

namespace Sys2Proof.Machine

/-- The event's levels are taken and the oldest fitting request is answered: `rest` is still due. -/
def State.answered (s : State) (p : Pins) (rest : List Due) : State := { s.begin_ p with due := rest }

section
variable {s : State} {p : Pins} {pt : Port} {ok : Use → Bool} {f : Use → State → State} {d : Due} {rest : List Due}

/-- An event whose effect changes nothing the beacon carries and makes nothing due ends with its effect. -/
theorem State.finish_settle_quiet {old u : State} (ha : u.agenda = Agenda.none)
    (hb : encodeBeacon u.beaconView = encodeBeacon old.beaconView) : SameButLine (State.finish old u.settle) u := by
  rw [State.settle_calm (by rw [ha]; rfl)]
  exact State.finish_quiet ha hb

/-- The event of a port's answer. -/
theorem event_onAnswer (ho : s.operating = true) : event s p (fun t => t.onAnswer pt ok f)
    = .next (State.finish s ((s.begin_ p).onAnswer pt ok f).settle) := by
  rw [event, answer, s.perform_on p _ ho, State.perform]

theorem State.onAnswer_stray (h : takeAnswer pt ok s.due = none) : s.onAnswer pt ok f = s := by
  simp [State.onAnswer, h]

theorem State.onAnswer_live (h : takeAnswer pt ok s.due = some (d, rest)) (hl : d.live = true) :
    s.onAnswer pt ok f = f d.use { s with due := rest } := by
  simp [State.onAnswer, h, hl]

/-- The answer to an ignored request, and one that is noted only, take the request's place. -/
theorem State.onAnswer_noted (h : takeAnswer pt ok s.due = some (d, rest)) (hl : d.live = false ∨ ∀ u v, f u v = v) :
    s.onAnswer pt ok f = { s with due := rest } := by
  rcases hl with hl | hf
  · simp [State.onAnswer, h, hl]
  · simp [State.onAnswer, h, hf]

/-- The effect of an answer to a request that is not ignored; the event's tests follow. -/
theorem event_answered (ho : s.operating = true) (h : takeAnswer pt ok s.due = some (d, rest)) (hl : d.live = true) :
    event s p (fun t => t.onAnswer pt ok f) = .next (State.finish s (f d.use (s.answered p rest)).settle) := by
  rw [event_onAnswer ho, State.onAnswer_live (s := s.begin_ p) h hl]
  rfl

end

/-- The command is the answer of the port `pt` to a request whose use fits `ok`. -/
def AnswersPort (c : Instr) (p : Pins) (pt : Port) (ok : Use → Bool) : Prop :=
  ∃ f : Use → State → State, (∀ s, exec c s = event s p fun t => t.onAnswer pt ok f)
    ∧ (c = .stripClampDone p ∨ c = .beltDone p → ∀ u v, f u v = v)

/-- Settles O28: such an answer changes no part of the state but the list of due requests. -/
theorem strayAnswersChangeNothing : Obligations.StrayAnswersChangeNothing := by
  intro a n p s c pt ok ho hm
  have hport : AnswersPort c p pt ok := by
    simp only [List.mem_cons, Prod.mk.injEq, List.not_mem_nil, or_false] at hm
    rcases hm with ⟨rfl, rfl, rfl⟩ | ⟨rfl, rfl, rfl⟩ | ⟨rfl, rfl, rfl⟩ | ⟨rfl, rfl, rfl⟩ | ⟨rfl, rfl, rfl⟩ | ⟨rfl, rfl, rfl⟩
      | ⟨rfl, rfl, rfl⟩ | ⟨rfl, rfl, rfl⟩ | ⟨rfl, rfl, rfl⟩ | ⟨rfl, rfl, rfl⟩ | ⟨rfl, rfl, rfl⟩ | ⟨rfl, rfl, rfl⟩
      | ⟨rfl, rfl, rfl⟩ | ⟨rfl, rfl, rfl⟩ | ⟨rfl, rfl, rfl⟩ | ⟨rfl, rfl, rfl⟩ | ⟨rfl, rfl, rfl⟩ | ⟨rfl, rfl, rfl⟩
      | ⟨rfl, rfl, rfl⟩ | ⟨rfl, rfl, rfl⟩ | ⟨rfl, rfl, rfl⟩ | ⟨rfl, rfl, rfl⟩
    all_goals exact ⟨_, fun _ => rfl, by simp⟩
  obtain ⟨f, hf, hnoted⟩ := hport
  rw [hf s, event_onAnswer ho]
  refine ⟨fun hd => ⟨_, rfl, ?stray⟩, fun d rest hd hl => ⟨_, rfl, ?noted⟩⟩
  case stray =>
    rw [State.onAnswer_stray (s := s.begin_ p) hd]
    exact State.finish_begin s p
  case noted =>
    rw [State.onAnswer_noted (s := s.begin_ p) hd (hl.imp_right hnoted)]
    exact State.finish_settle_quiet rfl rfl

end Sys2Proof.Machine

/-! ## O30, O31 and O35: the steps of a wire -/

namespace Sys2Proof.Machine

section
variable {s u t old : State} {p : Pins} {r : Recipe} {w : WireEntry} {n : Nat} {rest : List Due}

theorem State.keepLine_news_only (s : State) : SameButNews s.keepLine s := by
  unfold State.keepLine
  split <;> rfl

theorem SameButNews.trans (h : SameButNews u t) (k : SameButNews t s) : SameButNews u s := by
  unfold SameButNews at *
  rw [h, k]

/-- With nothing waiting for room, what follows an effect that makes no other test due than a beacon's changes the line,
the panel and the requests of its buzzer only. -/
theorem State.finish_settle_news (old : State) (hc : u.agenda.calm = true) (hw : u.line.waiting = []) :
    SameButNews (State.finish old u.settle) { u with agenda := Agenda.none } := by
  have hb : SameButNews (u.beaconAfter old) u := by
    unfold State.beaconAfter
    split
    · exact State.placeBeacon_news hw
    · rfl
  have h : SameButNews (u.beaconAfter old).keepLine u := (State.keepLine_news_only _).trans hb
  rw [State.settle_calm hc, State.finish]
  unfold SameButNews at *
  rw [h]

/-- The same, for the parts that the statements of a step name. -/
theorem State.finish_settle_step (old : State) (hc : u.agenda.calm = true) (hw : u.line.waiting = []) :
    ∃ t, State.finish old u.settle = t ∧ t.head = u.head ∧ t.energy = u.energy ∧ t.due = u.due ∧ u.out ⊆ t.out := by
  have h := State.finish_settle_news old hc hw
  exact ⟨_, rfl, (congrArg State.head h :), (congrArg State.energy h :), (congrArg State.due h :),
    (State.finish_settle_calm old hc).2.1⟩

theorem State.answered_onWire (h : s.onWire r w n) : (s.answered p rest).onWire r w n := h

/-- The wire-out test passed, the step begins (R47). -/
theorem State.wireStep_fine (x : WireStep) (h : s.wireFine s.pins = true) : s.wireStep x = s.beginStep x := by
  obtain ⟨ho, hp⟩ : s.head.wireOut = false ∧ s.pins.wirePresent = true := by simpa [State.wireFine] using h
  simp [State.wireStep, State.wireGate, ho, hp]

/-- The wire-out test failed: WIRE OUT holds the head before the step (R47). -/
theorem State.wireStep_out (x : WireStep) (h : s.wireFine s.pins = false) :
    s.wireStep x = ({ s with head.wireOut := false } : State).holdFor .wireOut (.step x) := by
  have hg : (s.head.wireOut || !s.pins.wirePresent) = true := by
    unfold State.wireFine at h
    cases ho : s.head.wireOut
    · simpa [ho] using h
    · rfl
  unfold State.wireStep State.wireGate
  rw [if_pos hg]

/-- A head as a wire step leaves it: in state `x` at stage `g`, with no next work. -/
def Head.inStep (h : Head) (x : HeadState) (g : Stage) : Head :=
  { h with next := .none, heldFor := .nothing, state := x, stage := g }

/-- A wire step with the wire in place: the head's new state and stage, and its one request. -/
def State.stepped (s : State) (x : HeadState) (g : Stage) (q : Request) (pt : Port) (v : Use) : State :=
  ({ s with head := s.head.inStep x g } : State).request q pt v

theorem State.beginStep_touchLearn (h : s.onWire r w n) : s.beginStep .touchLearn
    = s.stepped .searching .search (.zSearch r.approach r.searchLimit 2) (.axis .z) .search :=
  State.withWire_of_onWire (s := { s with head.next := .none, head.heldFor := .nothing }) h _

theorem State.beginStep_ballDown (h : s.onWire r w n) : s.beginStep .ballDown
    = s.stepped .ballDown .lower (.move .z s.surfaceHeight (.force (r.setAt w.firstSet).impact)) (.axis .z) .lower :=
  State.withWire_of_onWire (s := { s with head.next := .none, head.heldFor := .nothing }) h _

theorem State.beginStep_stitchDown (h : s.onWire r w n) : s.beginStep .stitchDown
    = s.stepped .stitchDown .stitch (.move .z s.surfaceHeight (.force (r.setAt w.secondSet).impact)) (.axis .z) .stitch :=
  State.withWire_of_onWire (s := { s with head.next := .none, head.heldFor := .nothing }) h _

theorem State.beginStep_tail (h : s.onWire r w n) : s.beginStep .tail
    = s.stepped .tail .tailPay (.move .z (zTarget s.surfaceHeight r.tail) .plain) (.axis .z) .tail :=
  State.withWire_of_onWire (s := { s with head.next := .none, head.heldFor := .nothing }) h _

theorem State.beginStep_looping (s : State) :
    s.beginStep .looping = s.stepped .looping .loopClamp (.wireClamp false) .wireClamp .looping := rfl

theorem State.beginStep_sparking (h : s.onWire r w n) : s.beginStep .sparking
    = s.stepped .sparking .fire (.fire r.sparkCurrent r.sparkTime) .spark .fire :=
  State.withWire_of_onWire (s := { s with head.next := .none, head.heldFor := .nothing }) h _

/-- A step's request, and the head it leaves, at the end of its event. -/
theorem State.stepped_settled (old : State) (x : HeadState) (g : Stage) (q : Request) (pt : Port) (v : Use)
    (hc : s.agenda.calm = true) (hw : s.line.waiting = []) :
    ∃ t, State.finish old (s.stepped x g q pt v).settle = t ∧ t.head = s.head.inStep x g ∧ q ∈ t.out
      ∧ t.due = s.due ++ [⟨pt, v, true⟩] := by
  obtain ⟨t, ht, hh, -, hd, ho⟩ := State.finish_settle_step old (u := s.stepped x g q pt v) hc hw
  exact ⟨t, ht, hh, ho (List.mem_append_right _ (List.mem_singleton.mpr rfl)), hd⟩

end

/-- The state in which an answer has the head go on: at stage `g`, with requests `qs`, and `ds` due. -/
def State.onward (s : State) (p : Pins) (g : Stage) (qs : List Request) (ds : List Due) : State :=
  { s with pins := p, agenda := Agenda.none, head.stage := g, out := qs, due := ds }

section
variable {s : State} {p : Pins} {rest : List Due} {r : Recipe} {w : WireEntry} {n : Nat} {pt : Port} {ok : Use → Bool}
  {f : Use → State → State} {d : Due} {g : Stage} {qs : List Request} {ds : List Due}

/-- An answer whose effect is the next request of the step changes nothing else. -/
theorem event_onward (ho : s.operating = true) (h : takeAnswer pt ok s.due = some (d, rest)) (hl : d.live = true)
    (hf : f d.use (s.answered p rest) = s.onward p g qs ds) :
    ∃ t, event s p (fun t => t.onAnswer pt ok f) = .next t ∧ SameButLine t (s.onward p g qs ds) := by
  refine ⟨_, event_answered ho h hl, ?_⟩
  rw [hf]
  exact State.finish_settle_quiet rfl rfl

theorem State.moveTable_answered (x : Int × Int) (v : Use) :
    ({ s.answered p rest with head.stage := g } : State).moveTable x v = s.onward p g
      [.move .x x.1 .plain, .move .y x.2 .plain] (rest ++ [⟨.axis .x, v, true⟩, ⟨.axis .y, v, true⟩]) := by
  have h : (rest ++ [⟨.axis .x, v, true⟩]) ++ [⟨.axis .y, v, true⟩]
      = rest ++ [⟨.axis .x, v, true⟩, ⟨.axis .y, v, true⟩] := List.append_assoc ..
  rw [← h]
  rfl

/-- An answer with which a wire step begins: its head and its request. -/
theorem event_stepped {u : State} {x : HeadState} {q : Request} {pt' : Port} {v : Use} (ho : s.operating = true)
    (h : takeAnswer pt ok s.due = some (d, rest)) (hl : d.live = true)
    (hf : f d.use (s.answered p rest) = u.stepped x g q pt' v) (hc : u.agenda.calm = true) (hw : u.line.waiting = []) :
    ∃ t, event s p (fun t => t.onAnswer pt ok f) = .next t ∧ t.head = u.head.inStep x g ∧ q ∈ t.out
      ∧ t.due = u.due ++ [⟨pt', v, true⟩] := by
  obtain ⟨t, ht, hh⟩ := State.stepped_settled s (s := u) x g q pt' v hc hw
  exact ⟨t, by rw [event_answered ho h hl, hf, ht], hh⟩

end

/-! ### Positioning and touch learn (R40, R41) -/

section
variable {s : State} {r : Recipe} {w : WireEntry} {n : Nat}

theorem State.positioned_posZ (h : s.onWire r w n) (hg : s.head.stage = .posZ) : s.positioned
    = ({ s with head.stage := .posTable } : State).moveTable (r.padTarget n w) .positioning := by
  rw [State.positioned, hg]
  exact State.withWire_of_onWire h _

theorem State.positioned_posTable (h : s.onWire r w n) (hg : s.head.stage = .posTable)
    (hd : s.awaiting .positioning = false) : s.positioned
    = ({ s with head.stage := .posApproach } : State).move .z r.approach .positioning := by
  rw [State.positioned, hg]
  simp only [State.allDone, hd]
  exact State.withWire_of_onWire h _

theorem State.positioned_touch (hg : s.head.stage = .posApproach) (hs : s.head.state = .searching) :
    s.positioned = s.wireStep .touchLearn := by
  rw [State.positioned, hg]
  exact if_pos hs

theorem State.positioned_lower (hg : s.head.stage = .posApproach) (hs : s.head.state = .ballDown) :
    s.positioned = s.wireStep .ballDown := by
  rw [State.positioned, hg]
  exact if_neg (by rw [hs]; decide)

end

/-- Settles O30: each answer of the positioning makes the next request of R40's order. -/
theorem wireIsPositioned : Obligations.WireIsPositioned := by
  intro p s a rest r w n ho hw hon
  have hv := State.answered_onWire (p := p) (rest := rest) hon
  refine ⟨fun hd => ⟨fun hg => ?posZ, fun hg hdone => ?posTable, fun hg hfine hst => ?touch,
      fun hg hfine hst => ?lower⟩, fun height hd hfine => ?contact⟩
  case posZ =>
    exact event_onward (f := fun _ t => t.positioned) ho hd rfl
      ((State.positioned_posZ hv hg).trans (State.moveTable_answered _ _))
  case posTable =>
    exact event_onward (f := fun _ t => t.positioned) ho hd rfl (State.positioned_posTable hv hg hdone)
  case touch =>
    have e := (State.positioned_touch (s := s.answered p rest) hg hst).trans
      ((State.wireStep_fine _ hfine).trans (State.beginStep_touchLearn hv))
    obtain ⟨t, ht, hh, hq⟩ := event_stepped (f := fun _ t => t.positioned) ho hd rfl e rfl hw
    exact ⟨t, ht, congrArg Head.state hh, congrArg Head.stage hh, hq⟩
  case lower =>
    have e := (State.positioned_lower (s := s.answered p rest) hg hst).trans
      ((State.wireStep_fine _ hfine).trans (State.beginStep_ballDown hv))
    obtain ⟨t, ht, hh, hq⟩ := event_stepped (f := fun _ t => t.positioned) ho hd rfl e rfl hw
    exact ⟨t, ht, congrArg Head.state hh, congrArg Head.stage hh, hq⟩
  case contact =>
    have e := (State.wireStep_fine (s := { s.answered p rest with head.surface := some height }) .ballDown hfine).trans
      (State.beginStep_ballDown hv)
    exact event_stepped (f := fun _ t => ({ t with head.surface := some height } : State).wireStep .ballDown)
      ho hd rfl e rfl hw

/-! ### The bonds (R42, R44) -/

/-- A bond opened: the head bonding in state `x`, the transducer enabled, the bond of set `k` with nothing summed. -/
def State.bonding (s : State) (x : HeadState) (first : Bool) (r : Recipe) (k : Nat) : State :=
  { s with
    head := { s.head.inStep x .bond with enabled := true, untrackedBond := !s.head.locked }
    energy := s.energy.openBond first s.head.wire ⟨k, r.generation, r.setAt k⟩
    out := s.out ++ [.enable (r.setAt k).power] }

section
variable {s : State} {r : Recipe} {w : WireEntry} {n : Nat} {p : Pins} {rest : List Due} {v : Use}

/-- With no bond open ENABLE opens one and aborts none (R63, R68). -/
theorem State.enableBond_closed (h : s.onWire r w n) (hc : s.energy.status = .closed) (first : Bool) :
    s.enableBond first = ({ s with
      energy := s.energy.openBond first s.head.wire
        ⟨if first then w.firstSet else w.secondSet, r.generation, r.setAt (if first then w.firstSet else w.secondSet)⟩
      head.enabled := true
      head.untrackedBond := !s.head.locked } : State).issue
        (.enable (r.setAt (if first then w.firstSet else w.secondSet)).power) := by
  obtain ⟨hr, hw, -⟩ := h
  simp only [State.enableBond, hr, hw, State.abortBond, hc]
  rfl

theorem State.beginStep_firstBond (h : s.onWire r w n) (hc : s.energy.status = .closed) :
    s.beginStep .firstBond = s.bonding .firstBond true r w.firstSet :=
  State.enableBond_closed (s := { s with head := s.head.inStep .firstBond .bond }) h hc true

theorem State.beginStep_secondBond (h : s.onWire r w n) (hc : s.energy.status = .closed) :
    s.beginStep .secondBond = s.bonding .secondBond false r w.secondSet :=
  State.enableBond_closed (s := { s with head := s.head.inStep .secondBond .bond }) h hc false

/-- The answer with which a bond opens. -/
theorem event_bonding {x : HeadState} {first : Bool} {k : Nat} {y : WireStep} (ho : s.operating = true)
    (hw : s.line.waiting = []) (h : takeAnswer (.axis .z) (fun u => u == v) s.due = some (⟨.axis .z, v, true⟩, rest))
    (hfine : s.wireFine p = true)
    (hy : (s.answered p rest).beginStep y = (s.answered p rest).bonding x first r k) :
    ∃ t, event s p (fun t => t.onAnswer (.axis .z) (fun u => u == v) fun _ t => t.wireStep y) = .next t
      ∧ t.head = ((s.answered p rest).bonding x first r k).head
      ∧ t.energy = s.energy.openBond first s.head.wire ⟨k, r.generation, r.setAt k⟩
      ∧ .enable (r.setAt k).power ∈ t.out ∧ t.due = rest := by
  have e := (State.wireStep_fine (s := s.answered p rest) y hfine).trans hy
  obtain ⟨t, ht, hh, he, hd, hout⟩ := State.finish_settle_step s (u := (s.answered p rest).bonding x first r k) rfl hw
  refine ⟨t, ?_, hh, he, hout (List.mem_append_right _ (List.mem_singleton.mpr rfl)), hd⟩
  rw [event_answered (f := fun _ t => t.wireStep y) ho h rfl, e, ht]

end

/-- Settles O31: ENABLE opens the bond with nothing summed. -/
theorem bondOpensWithEnable : Obligations.BondOpensWithEnable := by
  intro p s rest r w n ho hw hon hfine hclosed
  have hv := State.answered_onWire (p := p) (rest := rest) hon
  refine ⟨fun hd => ?first, fun hd => ?second⟩
  case first =>
    obtain ⟨t, ht, hh, he, hout, hdue⟩ := event_bonding ho hw hd hfine (State.beginStep_firstBond hv hclosed)
    refine ⟨t, ht, ?_⟩
    rw [hh, he]
    exact ⟨rfl, rfl, hout, rfl, rfl, rfl, rfl, rfl, rfl, rfl, rfl, rfl, hdue⟩
  case second =>
    obtain ⟨t, ht, hh, he, hout, hdue⟩ := event_bonding ho hw hd hfine (State.beginStep_secondBond hv hclosed)
    refine ⟨t, ht, ?_⟩
    rw [hh, he]
    exact ⟨rfl, rfl, hout, rfl, rfl, rfl, rfl, rfl, rfl, rfl, rfl, rfl, hdue⟩

/-! ### Parking (R38, R52) -/

/-- The head PARKED, with nothing to follow. -/
def Head.parked (h : Head) : Head :=
  { h with state := .parked, stage := .idle, heldFor := .nothing, next := .none, intent := .none, winding := false
           homingParks := false, boundaryStep := 0, doneUnit := none, restartHoming := false }

/-- Homing comes first where work ends as under BYPASS and the flag was cleared meanwhile (R52). -/
def State.homesFirst (s : State) : Bool :=
  (s.head.winding || s.head.homingParks) && !s.alarms.bypass && !s.head.homed && s.mayHome

section
variable {s : State}

theorem State.feedAfterParking_rests (s : State) :
    Rests s.feedAfterParking { s with head.restartHoming := false } := by
  unfold State.feedAfterParking
  split
  · exact ⟨rfl, fun _ _ => rfl⟩
  · next h =>
    have e : s.head.restartHoming = false := by simpa using h
    rw [← e]
    exact .refl s

theorem State.enterParked_rests (h : s.homesFirst = false) : Rests s.enterParked { s with head := s.head.parked } := by
  have e : s.enterParked = (({ s with
      head := { s.head.parked with restartHoming := s.head.restartHoming } } : State).askPoint.askHead).feedAfterParking :=
    if_neg (by rw [State.homesFirst] at h; rw [h]; decide)
  rw [e]
  exact (State.feedAfterParking_rests _).trans ⟨rfl, fun _ _ => rfl⟩

theorem State.enterParked_agenda (h : s.homesFirst = false) :
    s.enterParked.agenda = { s.agenda with point := true, head := true, feed := s.enterParked.agenda.feed } := by
  have e : s.enterParked = (({ s with
      head := { s.head.parked with restartHoming := s.head.restartHoming } } : State).askPoint.askHead).feedAfterParking :=
    if_neg (by rw [State.homesFirst] at h; rw [h]; decide)
  rw [e]
  unfold State.feedAfterParking
  split <;> rfl

theorem State.homesFirst_of_bypass (h : s.alarms.bypass = true) : s.homesFirst = false := by
  simp [State.homesFirst, h]

theorem State.closeSample_frame (s : State) (full : Bool) : s.closeSample full = { s with
    pull := (s.closeSample full).pull, window.record := (s.closeSample full).window.record } := by
  unfold State.closeSample
  repeat' split
  all_goals rfl

theorem State.interrupt_frame (s : State) : s.interrupt = { s with
    window.record := s.interrupt.window.record, tally := s.interrupt.tally, energy.working := none
    head.unit := none, head.wire := 0, head.firstWire := 0 } := by
  unfold State.interrupt State.countIf
  repeat' split
  all_goals rfl

/-- What giving up the unit and the sample changes (R5, R142). -/
theorem State.giveUpWork_frame (s : State) : s.giveUpWork = { s with
    window.record := s.giveUpWork.window.record, tally := s.giveUpWork.tally, pull := s.giveUpWork.pull
    energy.working := none, head.unit := none, head.wire := 0, head.firstWire := 0 } := by
  have h := (s.closeSample false).interrupt_frame
  rw [s.closeSample_frame false] at h
  unfold State.giveUpWork
  rw [s.closeSample_frame false]
  generalize (s.closeSample false).pull = pull, (s.closeSample false).window.record = rec at h ⊢
  rw [h]

/-- Under BYPASS the work given up leaves the head PARKED with no unit (R52). -/
theorem State.parkWork_rests (hb : s.alarms.bypass = true) :
    Rests s.parkWork { s.giveUpWork with head := s.giveUpWork.head.parked } := by
  have hb2 : s.giveUpWork.alarms.bypass = true := by
    rw [s.giveUpWork_frame]
    exact hb
  exact State.enterParked_rests (State.homesFirst_of_bypass hb2)

theorem State.parkWork_agenda (hb : s.alarms.bypass = true) : s.parkWork.agenda
    = { s.agenda with point := true, head := true, feed := s.parkWork.agenda.feed } := by
  have hb2 : s.giveUpWork.alarms.bypass = true := by
    rw [s.giveUpWork_frame]
    exact hb
  have hag : s.giveUpWork.agenda = s.agenda := (congrArg State.agenda s.giveUpWork_frame :)
  rw [State.parkWork, State.enterParked_agenda (State.homesFirst_of_bypass hb2), hag]

/-- The event's tests then start nothing. -/
theorem State.parkWork_bypass (old : State) (hb : s.alarms.bypass = true) (ha : s.agenda.calm = true) :
    Rests (State.finish old s.parkWork.settle) { s.giveUpWork with head := s.giveUpWork.head.parked } := by
  obtain ⟨hpl, hfu⟩ : s.agenda.place = false ∧ s.agenda.full = false := by
    simp only [Agenda.calm, Bool.and_eq_true, Bool.not_eq_true'] at ha
    exact ⟨ha.1.1.2, ha.1.2⟩
  have hrest := State.parkWork_rests hb
  have hb2 : s.giveUpWork.alarms.bypass = true := by
    rw [s.giveUpWork_frame]
    exact hb
  refine (State.finish_settle_bypass old (s := s.parkWork) ?_ ?_ (hrest.bypass.trans hb2)).trans hrest
  · rw [State.parkWork_agenda hb]; exact hpl
  · rw [State.parkWork_agenda hb]; exact hfu

theorem State.giveUpWork_head (s : State) :
    s.giveUpWork.head = { s.head with unit := none, wire := 0, firstWire := 0 } :=
  (congrArg State.head s.giveUpWork_frame :)

end

/-! ### The loop, the tail and a clearing (R43, R45, R55) -/

section
variable {s : State} {r : Recipe} {w : WireEntry} {n : Nat}

theorem State.looped_kink (h : s.onWire r w n) (hg : s.head.stage = .loopKink) :
    s.looped = ({ s with head.stage := .loopReverse } : State).move .x (r.reverseX n w) .looping := by
  rw [State.looped, hg]
  exact State.withWire_of_onWire h _

theorem State.looped_reverse (h : s.onWire r w n) (hg : s.head.stage = .loopReverse) : s.looped
    = ({ s with head.stage := .loopHeight } : State).move .z (zTarget s.surfaceHeight (r.profileOf w).height) .looping := by
  rw [State.looped, hg]
  exact State.withWire_of_onWire h _

theorem State.looped_height (h : s.onWire r w n) (hg : s.head.stage = .loopHeight) :
    s.looped = ({ s with head.stage := .loopLead } : State).moveTable (r.leadTarget n w) .looping := by
  rw [State.looped, hg]
  exact State.withWire_of_onWire h _

theorem State.looped_lead (hg : s.head.stage = .loopLead) (hd : s.awaiting .looping = false) :
    s.looped = s.wireStep .stitchDown := by
  rw [State.looped, hg]
  exact if_neg (by rw [hd]; decide)

theorem State.tailMoved_pay (hg : s.head.stage = .tailPay) :
    s.tailMoved = ({ s with head.stage := .tailClamp } : State).wireClampReq true .tail := by
  rw [State.tailMoved, hg]

theorem State.tailMoved_tear (hg : s.head.stage = .tailTear) : s.tailMoved = s.wireStep .sparking := by
  rw [State.tailMoved, hg]

end

/-- What a Z answer of TAIL, and the last of a clearing, do. -/
def State.tailAnswer (s : State) (u : Use) : State :=
  if u = .clearing then s.endClearing else s.tailMoved

theorem State.tailAnswer_clearing (s : State) : s.tailAnswer .clearing = s.endClearing := if_pos rfl

section
variable {s : State}

/-- Line hold off, a boundary cycle begins where a debt is left (R85). -/
theorem State.boundary3_cycle (hh : s.alarms.hold = []) (hd : 1 ≤ s.head.debt) :
    s.boundary3 = ({ s with head.boundaryStep := 3 } : State).startCycle .boundary := by
  simp [State.boundary3, State.gatedCycle, State.holding, hh, hd]

/-- With no activation due an application point applies none (R26). -/
theorem State.applyDue_of_none (h : s.recipes.pending.due = none) : s.applyDue = s := by
  simp [State.applyDue, State.applyActivation, h]

/-- With no unit just done no sample is due (R136). -/
theorem State.boundary1_of_none (h : s.head.doneUnit = none) :
    s.boundary1 = ({ s with head.boundaryStep := 1 } : State).boundary2 := by
  simp [State.boundary1, State.sampleDue, h]

/-- What a cycle's beginning leaves to the end of the event. -/
theorem State.startCycle_settled (old : State) (o : Occasion) (hc : s.agenda.calm = true) :
    ∃ t, State.finish old (s.startCycle o).settle = t ∧ t.head = (s.startCycle o).head ∧ .move .z 0 .plain ∈ t.out := by
  obtain ⟨hch, ho, -⟩ := State.finish_settle_calm (u := s.startCycle o) old hc
  exact ⟨_, rfl, hch.alarm.head, ho (List.mem_append_right _ (List.mem_singleton.mpr rfl))⟩

/-- A clearing whose intent is the wire starts it anew (R55, R39). -/
theorem State.endClearing_wire (hw : s.windsDown = false) (hi : s.head.intent = .wireRestart) :
    s.endClearing = ({ s with head.intent := .none } : State).startWire := by
  simp [State.endClearing, hw, hi]

/-- A clearing whose intent is the boundary begins it (R55). -/
theorem State.endClearing_boundary (hw : s.windsDown = false) (hi : s.head.intent = .boundary) :
    s.endClearing = ({ s with head.intent := .none } : State).boundary1 := by
  simp [State.endClearing, hw, hi, State.runBoundary]

theorem State.endClearing_bypass (hb : s.alarms.bypass = true) : s.endClearing = s.parkWork := by
  simp [State.endClearing, State.windsDown, hb]

end

/-- Settles O35: the requests of the loop, the tail and a clearing, each on the answer before it. -/
theorem loopAndTailRunInOrder : Obligations.LoopAndTailRunInOrder := by
  refine ⟨fun p s a rest r w n ho hw hon => ?wire, fun p s rest ho => ?clearing⟩
  case wire =>
    have hv := State.answered_onWire (p := p) (rest := rest) hon
    refine ⟨⟨fun hd => ?clamp, fun hd => ⟨fun hg => ?kink, fun hg => ?reverse, fun hg => ?height,
      fun hg hdone hfine => ?lead⟩⟩, fun hd => ⟨fun hg => ?pay, fun hg hfine => ?tear⟩, fun hd => ?tailClamp⟩
    case clamp =>
      exact event_onward (f := fun u t => t.clamped u) ho hd rfl (State.withWire_of_onWire hv _)
    case kink => exact event_onward (f := fun _ t => t.looped) ho hd rfl (State.looped_kink hv hg)
    case reverse => exact event_onward (f := fun _ t => t.looped) ho hd rfl (State.looped_reverse hv hg)
    case height =>
      exact event_onward (f := fun _ t => t.looped) ho hd rfl
        ((State.looped_height hv hg).trans (State.moveTable_answered _ _))
    case lead =>
      have e := (State.looped_lead (s := s.answered p rest) hg hdone).trans
        ((State.wireStep_fine _ hfine).trans (State.beginStep_stitchDown hv))
      obtain ⟨t, ht, hh, hq, -⟩ := event_stepped (f := fun _ t => t.looped) ho hd rfl e rfl hw
      exact ⟨t, ht, congrArg Head.state hh, congrArg Head.stage hh, hq⟩
    case pay =>
      exact event_onward (f := fun u t => t.tailAnswer u) ho hd rfl (State.tailMoved_pay hg)
    case tear =>
      have e := (State.tailMoved_tear (s := s.answered p rest) hg).trans
        ((State.wireStep_fine _ hfine).trans (State.beginStep_sparking hv))
      obtain ⟨t, ht, hh, hq⟩ := event_stepped (f := fun u t => t.tailAnswer u) ho hd rfl e rfl hw
      exact ⟨t, ht, congrArg Head.state hh, congrArg Head.stage hh, hq⟩
    case tailClamp => exact event_onward (f := fun u t => t.clamped u) ho hd rfl rfl
  case clearing =>
    refine ⟨fun hd => event_onward (f := fun u t => t.clamped u) ho hd rfl rfl, fun hd => ?_⟩
    have hx : exec (.tailMoveDone p) s = _ := event_answered (f := fun u t => t.tailAnswer u) ho hd rfl
    rw [hx, State.tailAnswer_clearing]
    refine ⟨fun hwind hhold => ⟨fun r w n hon hi hdebt hfine => ?restart, fun hi hdone hdue hdebt => ?boundary⟩,
      fun hb => ?bypass⟩
    case restart =>
      rw [State.endClearing_wire (s := s.answered p rest) hwind hi,
        State.startWire_positions (s := { s.answered p rest with head.intent := .none }) hhold hdebt hfine]
      obtain ⟨hc, hout, -⟩ := State.finish_settle_calm s
        (u := ({ s.answered p rest with head.intent := .none } : State).wireBegun.startPositioning) rfl
      have hh := hc.alarm.head
      refine ⟨_, rfl, ?_, ?_, hout (List.mem_append_right _ (List.mem_singleton.mpr rfl)), ?_, ?_⟩ <;> rw [hh] <;> rfl
    case boundary =>
      have e : (s.answered p rest).endClearing = ({ s.answered p rest with
          head.intent := .none, head.boundaryStep := 3 } : State).startCycle .boundary := by
        rw [State.endClearing_boundary (s := s.answered p rest) hwind hi,
          State.boundary1_of_none (s := { s.answered p rest with head.intent := .none }) hdone, State.boundary2]
        rw [State.applyDue_of_none (s := { s.answered p rest with head.intent := .none, head.boundaryStep := 2 }) hdue]
        exact State.boundary3_cycle hhold hdebt
      rw [e]
      obtain ⟨t, ht, hh, hq⟩ := State.startCycle_settled s .boundary
        (s := { s.answered p rest with head.intent := .none, head.boundaryStep := 3 }) rfl
      refine ⟨t, congrArg _ ht, ?_, ?_, ?_, ?_, hq⟩ <;> rw [hh] <;> rfl
    case bypass =>
      rw [State.endClearing_bypass (s := s.answered p rest) hb]
      have hh := (State.parkWork_bypass s (s := s.answered p rest) hb rfl).head
      refine ⟨_, rfl, ?_, ?_, ?_⟩ <;> rw [hh]
      · rfl
      · exact congrArg Head.unit (State.giveUpWork_head _)
      · rfl

end Sys2Proof.Machine

/-! ## O39: what stops the head -/

namespace Sys2Proof.Machine

section
variable {s t : State} {p : Pins} {rest : List Due} {pt : Port} {ok : Use → Bool} {f : Use → State → State} {d : Due}
  {k : AlarmKind} {nw : NextWork}

/-- An answer that holds the head for an alarm, its event over. -/
theorem event_held {u : State} (ho : s.operating = true) (h : takeAnswer pt ok s.due = some (d, rest))
    (hl : d.live = true) (hf : f d.use (s.answered p rest) = u.holdFor k nw) (hu : u.operating = true)
    (hc : u.agenda.calm = true) :
    ∃ t, event s p (fun t => t.onAnswer pt ok f) = .next t ∧ Rests t { u with head := u.head.heldWith nw }
      ∧ t.alarmOpen k = true := by
  obtain ⟨hr, -, hk⟩ := State.holdFor_settled s k nw hu hc
  exact ⟨_, by rw [event_answered ho h hl, hf], hr, hk⟩

/-- An answer that would begin a wire step, the wire out (R47): the head is HELD for WIRE OUT before the step. -/
theorem event_wireOut {x : WireStep} (y : Option Nat) (ho : s.operating = true)
    (h : takeAnswer pt ok s.due = some (d, rest)) (hl : d.live = true) (hout : s.wireFine p = false)
    (hf : f d.use (s.answered p rest) = ({ s.answered p rest with head.surface := y } : State).wireStep x) :
    ∃ t, event s p (fun t => t.onAnswer pt ok f) = .next t ∧ t.head.state = .held ∧ t.head.heldFor = .alarm
      ∧ t.head.next = .step x ∧ t.head.wireOut = false ∧ t.head.enabled = false ∧ t.alarmOpen .wireOut = true
      ∧ t.energy.status = s.energy.status ∧ t.head.unit = s.head.unit ∧ t.window.record = s.window.record := by
  have e := hf.trans (State.wireStep_out x hout)
  obtain ⟨t, ht, hr, hk⟩ := event_held ho h hl e ho rfl
  refine ⟨t, ht, ?_⟩
  rw [hr.head]
  exact ⟨rfl, rfl, rfl, rfl, rfl, hk, (congrArg Energy.status hr.energy :), rfl, hr.record⟩

/-- What SPARK OPEN holds the head for (R45, R84). -/
def State.sparkOpened (s : State) : State :=
  if s.head.state = .conditioning then s.holdFor .conditioningFault (.cycle s.head.occasion)
  else s.holdFor .noBall .refire

/-! ### A drive fault (R49) -/

/-- What every drive fault of the head does first: the bond aborted, homed cleared, the answers due ignored. -/
def State.driveStopped (s : State) : State :=
  ({ s.disableReq.abortBond with head.homed := false, head.untrackedBond := false } : State).ignoreDue
    (fun d => d.use.ofHead)

theorem State.driveStopped_frame (s : State) : s.driveStopped = { s with
    head.enabled := false, head.homed := false, head.untrackedBond := false
    energy := s.disableReq.abortBond.energy, tally := s.driveStopped.tally, out := s.disableReq.out
    due := s.driveStopped.due } := by
  unfold State.driveStopped State.ignoreDue
  rw [State.abortBond_frame, State.disableReq_frame]

/-- No answer due to the head is waited for after it. -/
theorem State.driveStopped_awaits (s : State) {v : Use} (hv : v.ofHead = true) : s.driveStopped.awaiting v = false := by
  simp only [State.awaiting, State.driveStopped, State.ignoreDue, List.any_map, List.any_eq_false]
  intro d hd
  by_cases hd : d.use.ofHead = true
  · simp [hd]
  · have hne : d.use ≠ v := fun e => hd (e ▸ hv)
    simp [hd, hne]

theorem State.ignored_of_awaits (h : ∀ v : Use, v.ofHead = true → t.awaiting v = false) :
    ∀ d ∈ t.due, d.use.ofHead = true → d.live = false := by
  intro d hd hv
  have hany := h d.use hv
  simp only [State.awaiting, List.any_eq_false] at hany
  simpa using hany d hd

theorem State.stopPull_frame (s : State) : s.stopPull = { s with pull := s.stopPull.pull } := by
  unfold State.stopPull
  split <;> rfl

/-- After start-up's homing the log scan begins, whatever ended the homing (R37, R49). -/
theorem State.scanAfterHoming_frame (s : State) : s.scanAfterHoming = { s with
    phase := s.scanAfterHoming.phase, log.scan := s.scanAfterHoming.log.scan, out := s.scanAfterHoming.out } := by
  unfold State.scanAfterHoming
  split <;> rfl

theorem State.scanAfterHoming_rests (old : State) (hl : s.agenda.place = false) (hf : s.agenda.full = false)
    (hp : s.head.state ≠ .parked ∨ s.alarms.bypass = true) :
    Rests (State.finish old s.scanAfterHoming.settle) s.scanAfterHoming := by
  have hfr := s.scanAfterHoming_frame
  have hag : s.scanAfterHoming.agenda = s.agenda := (congrArg State.agenda hfr :)
  have hhead : s.scanAfterHoming.head = s.head := (congrArg State.head hfr :)
  have hal : s.scanAfterHoming.alarms = s.alarms := (congrArg State.alarms hfr :)
  rcases hp with hp | hp
  · exact State.finish_settle_rests old (by rw [hag]; exact hl) (by rw [hag]; exact hf) (by rw [hhead]; exact hp)
  · exact State.finish_settle_bypass old (by rw [hag]; exact hl) (by rw [hag]; exact hf) (by rw [hal]; exact hp)

theorem State.scanAfterHoming_awaits (s : State) (v : Use) : s.scanAfterHoming.awaiting v = s.awaiting v := by
  rw [State.scanAfterHoming_frame]
  rfl

/-- A drive fault that holds the head (R49): the head HELD for it, its answers ignored, the bond closed. -/
theorem State.takeDriveFault_held (old : State) (ho : s.operating = true) (ha : s.agenda.calm = true)
    (hh : ¬ (s.head.state = .held ∧ s.head.heldFor = .alarm))
    (hp : ¬ (s.head.state = .homing ∧ s.head.homingParks = true)) :
    ∃ t, State.finish old s.takeDriveFault.settle = t
      ∧ t.head = { s.head.heldWith s.stoppedWork with homed := false, untrackedBond := false }
      ∧ t.energy.status = .closed ∧ t.alarmOpen .driveFault = true ∧ t.window.record = s.window.record
      ∧ ∀ v : Use, v.ofHead = true → t.awaiting v = false := by
  obtain ⟨hpl, hfu⟩ : s.agenda.place = false ∧ s.agenda.full = false := by
    simp only [Agenda.calm, Bool.and_eq_true, Bool.not_eq_true'] at ha
    exact ⟨ha.1.1.2, ha.1.2⟩
  have e : s.takeDriveFault = (s.driveStopped.stopPull.holdFor .driveFault s.stoppedWork).scanAfterHoming :=
    (if_neg hh).trans (if_neg hp)
  have hfr := s.driveStopped_frame
  have hstop := s.driveStopped.stopPull_frame
  have haw : ∀ v : Use, v.ofHead = true → s.driveStopped.stopPull.awaiting v = false := fun v hv => by
    rw [hstop]
    exact s.driveStopped_awaits hv
  have hen : s.driveStopped.stopPull.energy = s.disableReq.abortBond.energy := by rw [hstop, hfr]
  have hrec : s.driveStopped.stopPull.window.record = s.window.record := by rw [hstop, hfr]
  have huo : s.driveStopped.stopPull.operating = true := by rw [hstop, hfr]; exact ho
  have hua : s.driveStopped.stopPull.agenda = s.agenda := by rw [hstop, hfr]
  have huh : s.driveStopped.stopPull.head = { s.head with enabled := false, homed := false, untrackedBond := false } := by
    rw [hstop, hfr]
  rw [e]
  generalize s.driveStopped.stopPull = u at haw hen hrec huo hua huh
  have hr := u.holdFor_rests .driveFault s.stoppedWork
  have hag := u.holdFor_agenda .driveFault s.stoppedWork
  have hk := State.holdFor_open (k := .driveFault) s.stoppedWork huo
  generalize u.holdFor .driveFault s.stoppedWork = v at hr hag hk
  have hvl : v.agenda.place = false := by rw [hag, hua]; exact hpl
  have hvf : v.agenda.full = false := by rw [hag, hua]; exact hfu
  have hvp : v.head.state ≠ .parked := by rw [hr.head]; nofun
  have hsc := v.scanAfterHoming_frame
  have hR := v.scanAfterHoming_rests old hvl hvf (.inl hvp)
  have hhead : v.scanAfterHoming.head = v.head := (congrArg State.head hsc :)
  have henergy : v.scanAfterHoming.energy = v.energy := (congrArg State.energy hsc :)
  have hrecord : v.scanAfterHoming.window = v.window := (congrArg State.window hsc :)
  have halarms : v.scanAfterHoming.alarms = v.alarms := (congrArg State.alarms hsc :)
  have hvf' : v.scanAfterHoming.agenda.full = false := (congrArg (fun x : State => x.agenda.full) hsc :).trans hvf
  refine ⟨_, rfl, ?head, ?energy, ?alarm, ?record, ?awaits⟩
  case head => rw [hR.head, hhead, hr.head]; exact congrArg (fun h : Head => h.heldWith s.stoppedWork) huh
  case energy =>
    rw [hR.energy, henergy, hr.energy]
    exact (congrArg Energy.status hen).trans s.disableReq.abortBond_closed
  case alarm =>
    refine (State.finish_settle_onward old _ hvf').alarmOpen ?_
    rw [State.alarmOpen, halarms]
    exact hk
  case record => rw [hR.record, hrecord, hr.record]; exact hrec
  case awaits =>
    intro w hw
    rw [hR.awaits w hw, State.scanAfterHoming_awaits, hr.awaits w hw]
    exact haw w hw

/-- The last homing that R58 allows ends in PARKED under BYPASS, with no alarm of its own. -/
theorem State.takeDriveFault_parks (old : State) (ha : s.agenda.calm = true) (hs : s.head.state = .homing)
    (hp : s.head.homingParks = true) (hb : s.alarms.bypass = true) :
    ∃ t, State.finish old s.takeDriveFault.settle = t
      ∧ t.head = { s.head.parked with enabled := false, homed := false, untrackedBond := false }
      ∧ t.alarmOpen .driveFault = s.alarmOpen .driveFault ∧ ∀ v : Use, v.ofHead = true → t.awaiting v = false := by
  obtain ⟨hpl, hfu⟩ : s.agenda.place = false ∧ s.agenda.full = false := by
    simp only [Agenda.calm, Bool.and_eq_true, Bool.not_eq_true'] at ha
    exact ⟨ha.1.1.2, ha.1.2⟩
  have e : s.takeDriveFault = s.driveStopped.scanAfterHoming.enterParked :=
    (if_neg (by rw [hs]; nofun)).trans (if_pos ⟨hs, hp⟩)
  have hfr := s.driveStopped_frame
  have hsc := s.driveStopped.scanAfterHoming_frame
  have haw : ∀ v : Use, v.ofHead = true → s.driveStopped.scanAfterHoming.awaiting v = false := fun v hv => by
    rw [State.scanAfterHoming_awaits]
    exact s.driveStopped_awaits hv
  have hal : s.driveStopped.scanAfterHoming.alarms = s.alarms := by rw [hsc, hfr]
  have hua : s.driveStopped.scanAfterHoming.agenda = s.agenda := by rw [hsc, hfr]
  have huh : s.driveStopped.scanAfterHoming.head
      = { s.head with enabled := false, homed := false, untrackedBond := false } := by rw [hsc, hfr]
  rw [e]
  generalize s.driveStopped.scanAfterHoming = u at haw hal hua huh
  have hub : u.alarms.bypass = true := by rw [hal]; exact hb
  have hr := State.enterParked_rests (State.homesFirst_of_bypass hub)
  have hag := State.enterParked_agenda (State.homesFirst_of_bypass hub)
  have hvl : u.enterParked.agenda.place = false := by rw [hag, hua]; exact hpl
  have hvf : u.enterParked.agenda.full = false := by rw [hag, hua]; exact hfu
  have hR := State.finish_settle_bypass old hvl hvf (hr.bypass.trans hub)
  refine ⟨_, rfl, ?head, ?alarm, ?awaits⟩
  case head => rw [hR.head, hr.head]; exact congrArg Head.parked huh
  case alarm =>
    rw [((State.finish_settle_onward old _ hvf).trans u.enterParked_onward).alarmOpen_eq (by decide), State.alarmOpen, hal]
    rfl
  case awaits => intro w hw; rw [hR.awaits w hw, hr.awaits w hw]; exact haw w hw

/-- The event of a part that operates. -/
theorem event_operates (f : State → State) (ho : s.operating = true) :
    event s p f = .next (State.finish s (f (s.begin_ p)).settle) := by
  rw [event, answer, s.perform_on p _ ho, State.perform]

/-- FAULT of a head axis, unless it answers an ignored request (R49). -/
theorem execDriveFault_head {a : Axis} (ho : s.operating = true) (ha : isHeadAxis a = true)
    (hd : takeAnswer (.axis a) (fun _ => true) s.due = none ∨
      ∃ u, takeAnswer (.axis a) (fun _ => true) s.due = some (⟨.axis a, u, true⟩, rest)) :
    ∃ ds, exec (.driveFault a p) s = .next (State.finish s (s.answered p ds).takeDriveFault.settle) := by
  have hx : exec (.driveFault a p) s = .next (State.finish s ((s.begin_ p).axisFault a).settle) := by
    have h : exec (.driveFault a p) s = _ :=
      event_operates (p := p) (fun t => if isHeadAxis a then t.axisFault a else t) ho
    rw [h, if_pos ha]
  rw [hx]
  rcases hd with hd | ⟨u, hd⟩
  · refine ⟨s.due, ?_⟩
    rw [State.axisFault, show takeAnswer (.axis a) (fun _ => true) (s.begin_ p).due = none from hd]
    rfl
  · refine ⟨rest, ?_⟩
    rw [State.axisFault, show takeAnswer (.axis a) (fun _ => true) (s.begin_ p).due = _ from hd]
    rfl

end

/-- Settles O39: what holds the head, and the wire-out test before a wire step. -/
theorem faultsHoldTheHead : Obligations.FaultsHoldTheHead := by
  refine ⟨fun p s rest a ho => ⟨fun hd => ?spark, fun hd => ?limit, fun hax hd =>
    ⟨fun hh hp => ?fault, fun hs hp hb => ?last⟩, fun hax => ?other, ?falls⟩,
    fun p s rest n c u w ho hout hm hd => ?wireOut⟩
  case spark =>
    by_cases hc : s.head.state = .conditioning
    · obtain ⟨t, ht, hr, hk⟩ := event_held (f := fun _ v => v.sparkOpened) (p := p) ho hd rfl (if_pos hc) ho rfl
      refine ⟨t, ht, ?_⟩
      rw [if_pos hc, hr.head]
      exact ⟨rfl, rfl, rfl, hr.record, rfl, hk, rfl⟩
    · obtain ⟨t, ht, hr, hk⟩ := event_held (f := fun _ v => v.sparkOpened) (p := p) ho hd rfl (if_neg hc) ho rfl
      refine ⟨t, ht, ?_⟩
      rw [if_neg hc, hr.head]
      exact ⟨rfl, rfl, rfl, hr.record, rfl, hk, rfl⟩
  case limit =>
    obtain ⟨t, ht, hr, hk⟩ := event_held (f := fun _ v => v.holdFor .contactNotFound .wire) (p := p) ho hd rfl rfl ho rfl
    refine ⟨t, ht, ?_⟩
    rw [hr.head]
    exact ⟨rfl, rfl, rfl, rfl, hk, hr.record, rfl, rfl⟩
  case fault =>
    obtain ⟨ds, hx⟩ := execDriveFault_head (p := p) ho hax hd
    obtain ⟨t, ht, hhead, hen, hk, hrec, haw⟩ := State.takeDriveFault_held s (s := s.answered p ds) ho rfl hh hp
    refine ⟨t, by rw [hx, ht], ?_⟩
    rw [hhead]
    exact ⟨rfl, rfl, rfl, rfl, hen, hk, rfl, hrec, State.ignored_of_awaits haw⟩
  case last =>
    obtain ⟨ds, hx⟩ := execDriveFault_head (p := p) ho hax hd
    obtain ⟨t, ht, hhead, hk, haw⟩ := State.takeDriveFault_parks s (s := s.answered p ds) rfl hs hp hb
    refine ⟨t, by rw [hx, ht], ?_⟩
    rw [hhead]
    exact ⟨rfl, rfl, rfl, hk, State.ignored_of_awaits haw⟩
  case other =>
    have h : exec (.driveFault a p) s = _ :=
      event_operates (p := p) (fun t => if isHeadAxis a then t.axisFault a else t) ho
    rw [h, if_neg (by rw [hax]; nofun)]
    exact ⟨_, rfl, State.finish_begin s p⟩
  case falls => exact ⟨_, event_operates _ ho, State.finish_settle_quiet rfl rfl⟩
  case wireOut =>
    simp only [List.mem_cons, Prod.mk.injEq, List.not_mem_nil, or_false] at hm
    rcases hm with ⟨rfl, rfl, rfl⟩ | ⟨rfl, rfl, rfl⟩ | ⟨rfl, rfl, rfl⟩
    · exact event_wireOut (f := fun _ t => ({ t with head.surface := some n } : State).wireStep .ballDown) (some n)
        ho hd rfl hout rfl
    · exact event_wireOut (f := fun _ t => t.wireStep .firstBond) s.head.surface ho hd rfl hout rfl
    · exact event_wireOut (f := fun _ t => t.wireStep .secondBond) s.head.surface ho hd rfl hout rfl

end Sys2Proof.Machine

/-! ## O19: BYPASS and RESUME BONDING -/

namespace Sys2Proof.Machine

section
variable {s t old : State} {h : Hdr} {p : Pins}

theorem State.hears_iff : s.hears h = true ↔ s.operating = true ∧ (1 ≤ h.sender ∧ h.sender ≤ 7) ∧ h.sender ≠ s.stn
    ∧ (h.target = 0 ∨ h.target = s.stn) := by
  simp [State.hears, within, and_assoc]

/-- A frame that reaches the station is heard and takes its effect; the event's tests follow. -/
theorem receive_heard (hh : s.hears h = true) (p : Pins) (f : State → State) :
    ∃ b, receive s h p f = .next (State.finish s (f (s.heardAsking p h.sender b)).settle) := by
  obtain ⟨hop, hn, hne, hto⟩ := State.hears_iff.mp hh
  obtain ⟨b, hb⟩ := s.heard_asking p h.sender
  have hbad : ¬ (h.sender = 0 ∨ 7 < h.sender) := by omega
  have hdup : h.sender ≠ (s.begin_ p).stn := hne
  have hown : (s.heardAsking p h.sender b).addressed h = true := by
    simp only [State.addressed, Bool.or_eq_true, beq_iff_eq]
    exact hto
  refine ⟨b, ?_⟩
  unfold receive receiveWith
  rw [event_operates _ hop]
  simp only [if_neg hbad, if_neg hdup, hb, hown, if_true]

/-- The tests at the end of an event leave the bypass flag. -/
theorem State.finish_settle_keeps_bypass (old : State) (hq : ∀ mW, .enable mW ∉ s.out) :
    (State.finish old s.settle).alarms.bypass = s.alarms.bypass := by
  have k : Quiet (.lock s.pins) s s := ⟨KeepsOn.refl _ _, fun _ => rfl, hq⟩
  exact ((State.finish_news _ _).bounded (State.settle_bounded k.bounded)).1.bypass (by simp [Instr.mayChange])

/-! ### The head's part (R52) -/

theorem State.bypassHead_held (hs : s.head.state = .held) (hf : s.head.heldFor = .lineHold ∨ s.head.heldFor = .boundary) :
    s.bypassHead = s.parkWork := by
  rw [State.bypassHead, hs]
  exact if_pos hf

theorem State.bypassHead_alarm (hs : s.head.state = .held) (hf : s.head.heldFor = .alarm) : s.bypassHead = s := by
  rw [State.bypassHead, hs]
  exact if_neg (by rw [hf]; decide)

theorem State.bypassHead_working (h1 : s.head.state ≠ .held) (h2 : s.head.state ≠ .parked) (h3 : s.head.state ≠ .pulling) :
    s.bypassHead = { s with head.winding := true } := by
  unfold State.bypassHead
  split
  · exact absurd ‹_› h2
  · exact absurd ‹_› h1
  · exact absurd ‹_› h3
  · rfl

/-- Whatever the head does when the flag is set, the flag stays set and no pull place is tested. -/
theorem State.bypassHead_agenda (hb : s.alarms.bypass = true) : s.bypassHead.alarms.bypass = true
    ∧ s.bypassHead.agenda.place = s.agenda.place ∧ s.bypassHead.agenda.full = s.agenda.full := by
  have hpark : s.parkWork.alarms.bypass = true ∧ s.parkWork.agenda.place = s.agenda.place
      ∧ s.parkWork.agenda.full = s.agenda.full := by
    have hg : s.giveUpWork.alarms = s.alarms := (congrArg State.alarms s.giveUpWork_frame :)
    refine ⟨(State.parkWork_rests hb).bypass.trans ?_, ?_, ?_⟩
    · rw [← hb, ← hg]
    · rw [State.parkWork_agenda hb]
    · rw [State.parkWork_agenda hb]
  unfold State.bypassHead
  split
  · exact ⟨hb, rfl, rfl⟩
  · split
    · exact hpark
    · exact ⟨hb, rfl, rfl⟩
  · split
    · exact hpark
    · exact ⟨hb, rfl, rfl⟩
  · exact ⟨hb, rfl, rfl⟩

/-- The bypass flag set, its beacon placed (R169). -/
def State.flagged (s : State) (b : Bool) : State := ({ s with alarms.bypass := b } : State).queueBeacon

theorem State.flagged_posts (s : State) (b : Bool) : Posts (s.flagged b) { s with alarms.bypass := b } :=
  State.queueBeacon_posts _

theorem State.flagged_head (s : State) (b : Bool) : (s.flagged b).head = s.head := (s.flagged_posts b).rests.head

theorem State.flagged_bypass (s : State) (b : Bool) : (s.flagged b).alarms.bypass = b :=
  (s.flagged_posts b).rests.bypass

theorem State.flagged_agenda (s : State) (b : Bool) :
    (s.flagged b).agenda.place = s.agenda.place ∧ (s.flagged b).agenda.full = s.agenda.full
      ∧ (s.flagged b).agenda.head = s.agenda.head := by
  rw [(s.flagged_posts b).agenda]
  exact ⟨rfl, rfl, rfl⟩

/-- Setting the flag, its event over: the head stands as its part of the flag has left it. -/
theorem State.setBypass_settled (old : State) (hb : s.alarms.bypass = false) (ha : s.agenda.place = false)
    (hf : s.agenda.full = false) : (State.finish old s.setBypass.settle).alarms.bypass = true
      ∧ (State.finish old s.setBypass.settle).head = (s.flagged true).bypassHead.head := by
  have e : s.setBypass = (s.flagged true).bypassHead.askStrip := if_neg (by rw [hb]; decide)
  obtain ⟨hpl, hfu, -⟩ := s.flagged_agenda true
  obtain ⟨hby, hpl', hfu'⟩ := State.bypassHead_agenda (s.flagged_bypass true)
  have hR := State.finish_settle_bypass old (s := (s.flagged true).bypassHead.askStrip)
    (hpl'.trans (hpl.trans ha)) (hfu'.trans (hfu.trans hf)) hby
  rw [e]
  exact ⟨hR.bypass.trans hby, hR.head⟩

/-- Clearing the flag is a beacon, the homing of a PARKED head that is not homed, or R38's test (R52). -/
theorem State.clearBypass_cases (hb : s.alarms.bypass = true) :
    s.clearBypass = s.flagged false ∨ s.clearBypass = (s.flagged false).askHead
      ∨ s.clearBypass = (s.flagged false).startHoming .park := by
  have e : s.clearBypass = if (s.flagged false).head.state ≠ .parked then s.flagged false
      else if (s.flagged false).head.homed then (s.flagged false).askHead
      else if (s.flagged false).mayHome then (s.flagged false).startHoming .park else s.flagged false :=
    if_neg (by rw [hb]; decide)
  rw [e]
  split
  · exact .inl rfl
  · split
    · exact .inr (.inl rfl)
    · split
      · exact .inr (.inr rfl)
      · exact .inl rfl

theorem State.clearBypass_homes (hb : s.alarms.bypass = true) (hs : s.head.state = .parked) (hm : s.head.homed = false)
    (hr : s.running = true) : s.clearBypass = (s.flagged false).startHoming .park := by
  have e : s.clearBypass = if (s.flagged false).head.state ≠ .parked then s.flagged false
      else if (s.flagged false).head.homed then (s.flagged false).askHead
      else if (s.flagged false).mayHome then (s.flagged false).startHoming .park else s.flagged false :=
    if_neg (by rw [hb]; decide)
  have hp : (s.flagged false).phase = .running := by
    rw [(s.flagged_posts false).rests.phase]
    simpa [State.running] using hr
  rw [e, s.flagged_head, hs, hm]
  simp [State.mayHome, hp]

/-- Clearing the flag, its event over: it stays clear, and a PARKED head that is not homed is homing. -/
theorem State.clearBypass_settled (old : State) (hb : s.alarms.bypass = true) (ha : s.agenda.place = false)
    (hf : s.agenda.full = false) (ho : ∀ mW, .enable mW ∉ s.out) :
    (State.finish old s.clearBypass.settle).alarms.bypass = false
      ∧ (s.head.state = .parked → s.head.homed = false → s.running = true →
          (State.finish old s.clearBypass.settle).head.state = .homing
          ∧ (State.finish old s.clearBypass.settle).head.stage = .homingClamp
          ∧ .wireClamp true ∈ (State.finish old s.clearBypass.settle).out) := by
  obtain ⟨hpl, hfu, -⟩ := s.flagged_agenda false
  have hout : ∀ mW, .enable mW ∉ (s.flagged false).out :=
    (Posts.news (s.flagged_posts false)).quiet (c := .lock s.pins) (o := { s with alarms.bypass := false })
      ⟨KeepsOn.refl _ _, fun _ => rfl, ho⟩ |>.2.2
  refine ⟨?flag, fun hs hm hr => ?homes⟩
  case flag =>
    have hflag := s.flagged_bypass false
    rcases State.clearBypass_cases hb with e | e | e
    · rw [e, State.finish_settle_keeps_bypass old hout, hflag]
    · rw [e, State.finish_settle_keeps_bypass old (s := (s.flagged false).askHead) hout]
      exact hflag
    · rw [e, State.finish_settle_keeps_bypass old (s := (s.flagged false).startHoming .park)]
      · exact hflag
      · intro mW hm
        exact (List.mem_append.mp hm).elim (hout mW) (by simp)
  case homes =>
    rw [State.clearBypass_homes hb hs hm hr]
    have hR := State.finish_settle_rests old (s := (s.flagged false).startHoming .park) (hpl.trans ha) (hfu.trans hf) nofun
    have hon := State.finish_settle_onward old ((s.flagged false).startHoming .park) (hfu.trans hf)
    have hmem : .wireClamp true ∈ ((s.flagged false).startHoming .park).out :=
      List.mem_append_right (s.flagged false).out (List.mem_singleton.mpr rfl)
    exact ⟨by rw [hR.head]; rfl, by rw [hR.head]; rfl, hon.out hmem⟩

end

/-- Settles O19: the flag, and what the head does about it. -/
theorem bypassAndResumeBonding : Obligations.BypassAndResumeBonding := by
  intro h p s hh
  refine ⟨fun hb => ?set, fun hb => ?clear⟩
  case set =>
    obtain ⟨b, hx⟩ := receive_heard hh p fun t => if s.stn = t.stn then t.setBypass else t
    have hx : exec (.bypass h s.stn p) s = .next (State.finish s (s.heardAsking p h.sender b).setBypass.settle) := by
      refine hx.trans ?_
      rw [if_pos (show s.stn = (s.heardAsking p h.sender b).stn from rfl)]
    obtain ⟨hflag, hhead⟩ := State.setBypass_settled s (s := s.heardAsking p h.sender b) hb rfl rfl
    have hv : ((s.heardAsking p h.sender b).flagged true).head = s.head := State.flagged_head _ true
    have hu := (s.heardAsking p h.sender b).flagged_bypass true
    refine ⟨_, hx, hflag, ?_⟩
    rw [hhead]
    generalize (s.heardAsking p h.sender b).flagged true = u at hv hu ⊢
    refine ⟨fun hs hf => ?parks, fun hs hf => ?alarm, fun h1 h2 h3 => ?works⟩
    case parks =>
      rw [State.bypassHead_held (by rw [hv]; exact hs) (by rw [hv]; exact hf), (State.parkWork_rests hu).head]
      exact ⟨rfl, congrArg Head.unit u.giveUpWork_head⟩
    case alarm =>
      rw [State.bypassHead_alarm (by rw [hv]; exact hs) (by rw [hv]; exact hf)]
      exact hv
    case works =>
      rw [State.bypassHead_working (by rw [hv]; exact h1) (by rw [hv]; exact h2) (by rw [hv]; exact h3), ← hv]
  case clear =>
    obtain ⟨b, hx⟩ := receive_heard hh p fun t => if s.stn = t.stn then t.clearBypass else t
    have hx : exec (.resumeBonding h s.stn p) s = .next (State.finish s (s.heardAsking p h.sender b).clearBypass.settle) := by
      refine hx.trans ?_
      rw [if_pos (show s.stn = (s.heardAsking p h.sender b).stn from rfl)]
    refine ⟨_, hx, ?_⟩
    have hv : (s.heardAsking p h.sender b).head = s.head ∧ (s.heardAsking p h.sender b).running = s.running
      ∧ (s.heardAsking p h.sender b).agenda.place = false ∧ (s.heardAsking p h.sender b).agenda.full = false
      ∧ ∀ mW, .enable mW ∉ (s.heardAsking p h.sender b).out := ⟨rfl, rfl, rfl, rfl, fun _ => List.not_mem_nil⟩
    have hbv : (s.heardAsking p h.sender b).alarms.bypass = true := hb
    obtain ⟨hhead, hrun, hpl, hfu, hout⟩ := hv
    generalize s.heardAsking p h.sender b = v at *
    rw [← hhead, ← hrun]
    exact State.clearBypass_settled s hbv hpl hfu hout

end Sys2Proof.Machine

/-! ## What starting work leaves

Whatever the head starts, and whatever follows at an event's end, the homed mark, the phase and the start-up scan stay; the
window changes by the pass evaluation only (R37, R53, R96). -/

namespace Sys2Proof.Machine

/-- What no start of work changes. -/
def State.footing (s : State) : Bool × Phase × Bool × Straps × ScanStep :=
  (s.head.homed, s.phase, s.dup, s.straps, s.log.scan)

/-- Work has started from `s` to `t`: the footing stays and no request is taken back. -/
def Walks (t s : State) : Prop := t.footing = s.footing ∧ s.out ⊆ t.out

/-- As `Walks`, and the window has stayed in its state. -/
def Stands (t s : State) : Prop := Walks t s ∧ t.window.state = s.window.state

section
variable {u t s : State}

theorem Walks.refl (s : State) : Walks s s := ⟨rfl, List.Subset.refl _⟩
theorem Stands.refl (s : State) : Stands s s := ⟨.refl s, rfl⟩

theorem Walks.footing (h : Walks t s) : t.footing = s.footing := h.1
theorem Walks.out (h : Walks t s) : s.out ⊆ t.out := h.2
theorem Stands.toWalks (h : Stands t s) : Walks t s := h.1
theorem Stands.window (h : Stands t s) : t.window.state = s.window.state := h.2

theorem Walks.trans (h : Walks u t) (k : Walks t s) : Walks u s :=
  ⟨h.footing.trans k.footing, List.Subset.trans k.out h.out⟩

theorem Stands.trans (h : Stands u t) (k : Stands t s) : Stands u s :=
  ⟨h.toWalks.trans k.toWalks, h.window.trans k.window⟩

theorem Walks.homed (h : Walks t s) : t.head.homed = s.head.homed := (congrArg (fun x => x.1) h.footing :)
theorem Walks.phase (h : Walks t s) : t.phase = s.phase := (congrArg (fun x => x.2.1) h.footing :)
theorem Walks.dup (h : Walks t s) : t.dup = s.dup := (congrArg (fun x => x.2.2.1) h.footing :)
theorem Walks.straps (h : Walks t s) : t.straps = s.straps := (congrArg (fun x => x.2.2.2.1) h.footing :)
theorem Walks.scan (h : Walks t s) : t.log.scan = s.log.scan := (congrArg (fun x => x.2.2.2.2) h.footing :)

theorem AlarmChange.footing (h : AlarmChange t s) : t.footing = s.footing := by
  unfold AlarmChange at h
  rw [h]
  rfl

theorem Raises.stands {ks : List AlarmKind} (h : Raises ks t s) : Stands t s :=
  ⟨⟨h.change.footing, h.out⟩, h.change.winState⟩

theorem Posts.stands (h : Posts t s) : Stands t s := (h.raises []).stands

theorem State.raise_stands (s : State) (k : AlarmKind) : Stands (s.raise k) s :=
  (State.raise_raises s (List.mem_singleton.mpr rfl)).stands

theorem State.issue_stands (s : State) (r : Request) : Stands (s.issue r) s :=
  ⟨⟨rfl, List.subset_append_left _ _⟩, rfl⟩

theorem State.request_stands (s : State) (r : Request) (pt : Port) (v : Use) : Stands (s.request r pt v) s :=
  ⟨⟨rfl, List.subset_append_left _ _⟩, rfl⟩

/-! ### The head's steps (R37, R39, R42, R47, R83) -/

theorem State.disableReq_stands (s : State) : Stands s.disableReq s := by
  unfold State.disableReq
  split
  · exact State.issue_stands _ _
  · exact .refl s

theorem State.holdFor_stands (s : State) (k : AlarmKind) (n : NextWork) : Stands (s.holdFor k n) s := by
  have h : Stands (s.disableReq.raise k) s := (State.raise_stands _ k).trans s.disableReq_stands
  exact h

theorem State.withWire_stands {f : Recipe → WireEntry → Nat → State} (h : ∀ r w n, Stands (f r w n) s) :
    Stands (s.withWire f) s := by
  unfold State.withWire
  split
  · exact h _ _ _
  · exact .refl s

theorem State.abortBond_stands (s : State) : Stands s.abortBond s := by
  rw [State.abortBond_frame]
  exact ⟨⟨rfl, List.Subset.refl _⟩, rfl⟩

theorem State.enableBond_stands (s : State) (first : Bool) : Stands (s.enableBond first) s := by
  unfold State.enableBond
  split
  · exact (State.issue_stands _ _).trans s.abortBond_stands
  · exact .refl s

theorem State.startFire_stands (s : State) : Stands s.startFire s := by
  refine State.withWire_stands fun r w n => ?_
  exact State.request_stands (s.enter .sparking .fire) _ .spark .fire

theorem State.beginStep_stands (s : State) (x : WireStep) : Stands (s.beginStep x) s := by
  have hwith {f : Recipe → WireEntry → Nat → State} (h : ∀ r w n, Stands (f r w n) s) :
      Stands (({ s with head.next := .none, head.heldFor := .nothing } : State).withWire f) s :=
    State.withWire_stands (s := { s with head.next := .none, head.heldFor := .nothing }) h
  cases x with
  | positioning => exact State.request_stands _ _ _ _
  | touchLearn => exact hwith fun _ _ _ => State.request_stands _ _ _ _
  | ballDown => exact hwith fun _ _ _ => State.request_stands _ _ _ _
  | firstBond => exact State.enableBond_stands _ true
  | looping => exact State.request_stands _ _ _ _
  | stitchDown => exact hwith fun _ _ _ => State.request_stands _ _ _ _
  | secondBond => exact State.enableBond_stands _ false
  | tail => exact hwith fun _ _ _ => State.request_stands _ _ _ _
  | sparking => exact State.startFire_stands { s with head.next := .none, head.heldFor := .nothing }

theorem State.wireGate_stands {f : State → State} (x : WireStep) (h : Stands (f s) s) : Stands (s.wireGate x f) s := by
  unfold State.wireGate
  split
  · exact State.holdFor_stands { s with head.wireOut := false } _ _
  · exact h

theorem State.startCycle_stands (s : State) (o : Occasion) : Stands (s.startCycle o) s := State.request_stands _ _ _ _

theorem State.gatedCycle_stands (s : State) (o : Occasion) : Stands (s.gatedCycle o) s := by
  unfold State.gatedCycle
  split
  · exact .refl s
  · exact s.startCycle_stands o

theorem State.startWire_stands (s : State) : Stands s.startWire s := by
  unfold State.startWire
  dsimp only
  split
  · exact .refl s
  · split
    · exact State.startCycle_stands _ _
    · exact State.wireGate_stands (s := { s with head.boundaryStep := 0, head.doneUnit := none }) _
        (State.beginStep_stands _ _)

theorem State.selectUnit_stands (s : State) : Stands s.selectUnit s := by
  unfold State.selectUnit
  repeat' split
  all_goals exact .refl s

theorem State.enterParked_stands (s : State) : Stands s.enterParked s := by
  unfold State.enterParked State.feedAfterParking
  dsimp only
  split
  · exact State.request_stands _ _ _ _
  · split <;> exact .refl s

theorem State.closeSample_stands (s : State) (full : Bool) : Stands (s.closeSample full) s := by
  rw [State.closeSample_frame]
  exact ⟨⟨rfl, List.Subset.refl _⟩, rfl⟩

theorem State.parkWork_stands (s : State) : Stands s.parkWork s := by
  have h : Stands s.giveUpWork s := by
    rw [State.giveUpWork_frame]
    exact ⟨⟨rfl, List.Subset.refl _⟩, rfl⟩
  exact (State.enterParked_stands _).trans h

theorem State.applyDue_stands (s : State) : Stands s.applyDue s := by
  unfold State.applyDue State.applyActivation
  split
  · exact .refl s
  · split
    · have hask (u : State) : Stands u.askHead.askFeed u := .refl u
      have htest (u : State) : Stands u.standbyTest u := by
        unfold State.standbyTest
        split <;> exact .refl u
      refine (hask _).trans ((State.queueBeacon_posts _).stands.trans ((htest _).trans ?_))
      exact .refl s
    · exact .refl s

/-! ### The tests before a plan wire (R137) -/

theorem State.closeEntry_stands (s : State) (n : Nat) (m : BreakMode) : Stands (s.closeEntry n m) s := by
  have hfuel : ∀ (k : Nat) (u : State), Stands (State.offerPlacesFuel k u) u := by
    intro k
    induction k with
    | zero => exact Stands.refl
    | succ k ih =>
      intro u
      unfold State.offerPlacesFuel
      split
      · split
        · exact ih _
        · exact .refl u
      · exact .refl u
  unfold State.closeEntry State.offerPlaces
  split
  · exact hfuel _ _
  · exact .refl s

theorem State.startPull_stands (s : State) : Stands s.startPull s :=
  (State.request_stands _ _ _ _).trans (State.request_stands _ _ _ _)

theorem State.pullTests_stands (s : State) : Stands s.pullTests s := by
  unfold State.pullTests
  split
  · exact .refl s
  · split
    · exact .refl s
    · split
      · exact s.startPull_stands
      · split
        · split
          · exact .refl s
          · next r _ _ _ =>
            have h := State.closeEntry_stands (s.onSample (fun m => { m with placeMade := true })) r.ref .ungraded
            dsimp only
            split
            · exact (State.startPull_stands _).trans h
            · exact h
        · exact .refl s

/-! ### The pass evaluation and the unit boundary (R53, R95) -/

theorem State.evaluateStrip_walks (s : State) : Walks s.evaluateStrip s := by
  have hoffer : Walks s.makeOffer s :=
    ((State.submit_posts _ _ _).trans (State.queueBeacon_posts _)).stands.toWalks.trans ⟨rfl, List.Subset.refl _⟩
  have hunload : Walks s.startUnload s := by
    unfold State.startUnload
    split
    · exact (State.queueBeacon_posts _).stands.toWalks.trans ⟨rfl, List.subset_append_left _ _⟩
    · exact .refl s
  have hfull : Walks s.outputFull s := by
    unfold State.outputFull
    split
    · exact .refl s
    · exact (s.raise_stands _).toWalks
  have hanswer : Walks s.outputAnswer s := by
    unfold State.outputAnswer
    split
    · split
      · exact hunload
      · split
        · exact .refl s
        · exact hfull
    · exact .refl s
  unfold State.evaluateStrip
  split
  · split
    · exact hanswer
    · split
      · exact hoffer
      · exact .refl s
  · exact .refl s

theorem State.boundary6_stands (s : State) : Stands s.boundary6 s := by
  unfold State.boundary6
  extract_lets more s1
  split
  · exact State.enterParked_stands _
  · split
    · exact .refl s
    · exact (State.startWire_stands _).trans (State.selectUnit_stands { s with head.boundaryStep := 6 })

theorem State.boundary5_walks (s : State) : Walks s.boundary5 s := by
  have h := State.evaluateStrip_walks { s with head.boundaryStep := 5 }
  unfold State.boundary5
  dsimp only
  split
  · exact (State.boundary6_stands _).toWalks.trans h
  · split
    · exact (State.boundary6_stands _).toWalks.trans h
    · exact (State.enterParked_stands _).toWalks.trans h

theorem State.boundary4_walks (s : State) : Walks s.boundary4 s := by
  unfold State.boundary4
  dsimp only
  split
  · exact .refl s
  · exact State.boundary5_walks _

theorem State.boundary3_walks (s : State) : Walks s.boundary3 s := by
  unfold State.boundary3
  dsimp only
  split
  · exact (State.gatedCycle_stands _ _).toWalks
  · exact State.boundary4_walks _

theorem State.boundary2_walks (s : State) : Walks s.boundary2 s :=
  (State.boundary3_walks _).trans (State.applyDue_stands { s with head.boundaryStep := 2 }).toWalks

theorem State.boundary1_walks (s : State) : Walks s.boundary1 s := by
  unfold State.boundary1
  dsimp only
  split
  · exact State.boundary2_walks _
  · split
    · exact .refl s
    · split
      · exact State.boundary2_walks _
      · exact (State.pullTests_stands _).toWalks

theorem State.runBoundary_walks (s : State) (k : Nat) : Walks (s.runBoundary k) s := by
  unfold State.runBoundary
  split
  · exact s.boundary1_walks
  · exact s.boundary1_walks
  · exact s.boundary2_walks
  · exact s.boundary3_walks
  · exact s.boundary4_walks
  · exact s.boundary5_walks
  · exact s.boundary6_stands.toWalks

/-! ### The head's next work (R35, R59, R83, R144) -/

theorem State.endCycle_walks (s : State) (o : Occasion) : Walks (s.endCycle o) s := by
  unfold State.endCycle
  split
  · exact s.parkWork_stands.toWalks
  · cases o with
    | boundary => exact s.boundary4_walks
    | forced => exact s.startWire_stands.toWalks
    | pullIn => exact s.enterParked_stands.toWalks

theorem State.completeSample_walks (s : State) : Walks s.completeSample s := by
  unfold State.completeSample State.afterSample
  split
  · exact ((State.enterParked_stands _).trans (s.closeSample_stands false)).toWalks
  · exact (State.boundary2_walks _).trans (s.closeSample_stands false).toWalks

theorem State.nextPlanWire_walks (s : State) : Walks s.nextPlanWire s := by
  unfold State.nextPlanWire
  split
  · exact .refl s
  · split
    · exact s.completeSample_walks
    · split
      · exact ((State.enterParked_stands _).trans (s.closeSample_stands false)).toWalks
      · exact (State.pullTests_stands _).toWalks

theorem State.resumePull_walks (s : State) : Walks s.resumePull s := by
  unfold State.resumePull
  split
  · exact s.enterParked_stands.toWalks
  · split
    · exact s.nextPlanWire_walks
    · exact s.pullTests_stands.toWalks

theorem State.resumeWork_walks (s : State) (n : NextWork) : Walks (s.resumeWork n) s := by
  cases n with
  | none => exact s.enterParked_stands.toWalks
  | park => exact s.enterParked_stands.toWalks
  | step w =>
    refine (State.wireGate_stands w ?_).toWalks
    split
    · exact s.startWire_stands
    · exact s.beginStep_stands w
  | refire => exact s.startFire_stands.toWalks
  | wire => exact s.startWire_stands.toWalks
  | stoppedWire => exact s.startWire_stands.toWalks
  | boundary k => exact s.runBoundary_walks k
  | cycle o => exact (s.gatedCycle_stands o).toWalks
  | cycleEnd o => exact s.endCycle_walks o
  | pullTests => exact s.pullTests_stands.toWalks
  | pullResume => exact s.resumePull_walks

/-! ### The end of an event (R96, R119, R153, R191) -/

theorem State.inputEmpty_stands (s : State) : Stands s.inputEmpty s := by
  unfold State.inputEmpty
  split
  · exact .refl s
  · exact s.raise_stands _

theorem State.settleFeed_stands (s : State) : Stands s.settleFeed s := by
  unfold State.settleFeed State.testFeed State.searchFrom
  split
  · split
    · split
      · split
        · exact State.request_stands _ _ _ _
        · exact State.inputEmpty_stands _
      · exact s.inputEmpty_stands
    · exact .refl s
  · exact .refl s

theorem State.aheadErase_stands (s : State) :
    Stands (match s.log.aheadDue with | some a => s.startErase a | none => s) s := by
  split
  · exact State.issue_stands _ _
  · exact .refl s

theorem State.arbitrateWrites_stands (s : State) : Stands s.arbitrateWrites s := by
  unfold State.arbitrateWrites
  split
  · exact State.issue_stands _ _
  · split
    · exact s.aheadErase_stands
    · exact State.issue_stands _ _
  · exact s.aheadErase_stands

theorem State.serveRead_stands (s : State) (r : ReadSpan) (v : ReadService) : Stands (s.serveRead r v) s := by
  have hanswer (x : ReadSpan) : Stands (s.answerRead x) s := by
    unfold State.answerRead
    split
    · exact (State.reply_posts _ _ _).stands
    · exact .refl s
  unfold State.serveRead
  dsimp only
  split
  · exact (State.arbitrateWrites_stands _).trans (hanswer _)
  · exact State.issue_stands _ _

theorem State.arbitrateRead_stands (s : State) : Stands s.arbitrateRead s := by
  unfold State.arbitrateRead
  split
  · split
    · exact s.serveRead_stands _ _
    · exact s.serveRead_stands _ _
    · exact s.arbitrateWrites_stands
  · exact s.arbitrateWrites_stands

theorem State.settlePort_stands (s : State) : Stands s.settlePort s := by
  unfold State.settlePort State.arbitrate
  split
  · split
    · split
      · split
        · exact State.issue_stands _ _
        · exact s.arbitrateRead_stands
      · exact s.arbitrateRead_stands
    · exact .refl s
  · exact .refl s

theorem State.settlePoint_stands (s : State) : Stands s.settlePoint s := by
  unfold State.settlePoint
  split
  · exact s.applyDue_stands
  · exact .refl s

theorem State.settleHead_stands (s : State) : Stands s.settleHead s := by
  unfold State.settleHead
  split
  · split
    · exact (State.startWire_stands _).trans s.selectUnit_stands
    · split
      · exact s.startCycle_stands _
      · exact .refl s
  · exact .refl s

theorem State.settleStrip_walks (s : State) : Walks s.settleStrip s := by
  unfold State.settleStrip
  split
  · exact s.evaluateStrip_walks
  · exact .refl s

theorem State.settlePlace_walks (s : State) : Walks s.settlePlace s := by
  unfold State.settlePlace State.afterSample
  split
  · split
    · split
      · exact ((State.enterParked_stands _).trans (s.closeSample_stands true)).toWalks
      · exact (State.boundary2_walks _).trans (s.closeSample_stands true).toWalks
    · split
      · exact s.pullTests_stands.toWalks
      · exact .refl s
  · exact .refl s

theorem State.finish_stands (old s : State) : Stands (State.finish old s) s := by
  have h : Stands (s.beaconAfter old).keepLine s := ((State.keepLine_posts _).trans (s.beaconAfter_posts old)).stands
  exact Stands.trans ⟨⟨rfl, List.Subset.refl _⟩, rfl⟩ h

theorem State.finish_settle_walks (old s : State) : Walks (State.finish old s.settle) s := by
  refine (State.finish_stands old _).toWalks.trans ?_
  unfold State.settle
  split
  · exact (State.settlePort_stands _).toWalks.trans ((State.settleFeed_stands _).toWalks.trans
      ((State.settleStrip_walks _).trans ((State.settleHead_stands _).toWalks.trans
      ((State.settlePoint_stands _).toWalks.trans s.settlePlace_walks))))
  · exact .refl s

/-- Where the pass evaluation changes nothing, the tests of an event leave the window (R96). -/
theorem State.finish_settle_window (old : State) (hl : s.agenda.place = false) (hf : s.agenda.full = false)
    (hs : s.settlePoint.settleHead.settleStrip.window.state = s.settlePoint.settleHead.window.state) :
    (State.finish old s.settle).window.state = s.window.state := by
  rw [(State.finish_stands old _).window]
  unfold State.settle
  split
  · rw [State.settlePlace_of_calm hl hf, (State.settlePort_stands _).window, (State.settleFeed_stands _).window, hs,
      (State.settleHead_stands _).window, (State.settlePoint_stands _).window]
  · rfl

/-- A strip waiting for a fresh beacon is not offered (R98, R101). -/
theorem State.finish_settle_freshWait (old : State) (hl : s.agenda.place = false) (hf : s.agenda.full = false)
    (hw : s.window.freshWait = true) (he : s.isEnd = false) :
    (State.finish old s.settle).window.state = s.window.state := by
  refine State.finish_settle_window old hl hf ?_
  have hon : Onward s.settlePoint.settleHead s := (State.settleHead_onward _).trans s.settlePoint_onward
  have hst := ((State.settleHead_stands s.settlePoint).trans s.settlePoint_stands).toWalks.straps
  generalize s.settlePoint.settleHead = u at hon hst
  have hwu : u.window.freshWait = true := (congrArg StripView.freshWait hon.strip).trans hw
  have heu : u.isEnd = false := by
    rw [State.isEnd, hst]
    exact he
  have hoff : u.offerable = false := by simp [State.offerable, hwu]
  unfold State.settleStrip State.evaluateStrip
  simp [heu, hoff]

end

end Sys2Proof.Machine

/-! ## O15: RESUME of NO BALL and of TRANSFER JAM -/

namespace Sys2Proof.Machine

section
variable {s t old : State} {h : Hdr} {p : Pins} {e : AlarmEntry} {seq : Nat}

theorem State.alarmOf_seq (he : s.alarmOf seq = some e) : e.seq = seq := by
  have h := List.find?_some he
  simpa using h

theorem exec_resume (h : Hdr) (seq : Nat) (p : Pins) (s : State) (n : Nat) :
    exec (.resume h n seq p) s = response s h n seq .resume p := rfl

/-- RESUME of NO BALL fires again (R59). -/
theorem State.choiceEffect_refire (hh : s.heldForAlarm = true) : s.choiceEffect .noBall .resume = s.startFire := by
  obtain ⟨⟨⟨hs, hf⟩, hm⟩, hb⟩ := State.heldForAlarm_iff.mp hh
  simp [State.choiceEffect, State.headChoice, State.resumeNoBall, State.homeElse, hs, hf, hm, hb]

/-- FIRE, with the wire in place (R45). -/
theorem State.startFire_onWire {r : Recipe} {w : WireEntry} {n : Nat} (h : s.onWire r w n) :
    s.startFire = s.stepped .sparking .fire (.fire r.sparkCurrent r.sparkTime) .spark .fire :=
  State.withWire_of_onWire h _

/-- RESUME of TRANSFER JAM at a station other than END: a strip shown at STRIP OUT is CLAMPED again (R108). -/
theorem State.settleJam_shown (hw : s.window.state = .outbound) (he : s.isEnd = false) (hp : s.pins.stripOut = true) :
    s.settleJam = (({ s with window.freshWait := true } : State).reclamp).testStale := by
  simp [State.settleJam, hw, he, hp]

theorem State.settleJam_gone (hw : s.window.state = .outbound) (he : s.isEnd = false) (hp : s.pins.stripOut = false) :
    s.settleJam = (s.count .stripsPassed).giveUpRecord := by
  simp [State.settleJam, hw, he, hp]

/-- NO BALL settled and FIRE made again, the event is over. -/
theorem State.refire_settled {u v : State} {r : Recipe} {w : WireEntry} {n : Nat} (old : State)
    (hp : Posts u { v with alarms.queue := v.alarms.queue.filter (fun x => x.seq != seq) }) (hon : v.onWire r w n)
    (hh : v.heldForAlarm = true) (hc : v.agenda.calm = true) :
    ∃ t, Host.Outcome.next (State.finish old (u.choiceEffect .noBall .resume).settle)
        = (Host.Outcome.next t : Host.Outcome State Fault Refusal)
      ∧ t.out.contains (.fire r.sparkCurrent r.sparkTime) = true
      ∧ t.head = { v.head with state := .sparking, stage := .fire, next := .none, heldFor := .nothing }
      ∧ t.alarms.queue = v.alarms.queue.filter (fun x => x.seq != seq) := by
  have hch := hp.change
  have hon' : u.onWire r w n := by
    unfold LineChange at hch
    rw [hch]
    exact hon
  have hh' : u.heldForAlarm = true := by
    unfold LineChange at hch
    rw [hch]
    exact hh
  have e : u.choiceEffect .noBall .resume = u.stepped .sparking .fire (.fire r.sparkCurrent r.sparkTime) .spark .fire :=
    (State.choiceEffect_refire hh').trans (State.startFire_onWire hon')
  rw [e]
  obtain ⟨hcf, hout, -⟩ := State.finish_settle_calm old
    (u := u.stepped .sparking .fire (.fire r.sparkCurrent r.sparkTime) .spark .fire) (hp.calm.trans hc)
  refine ⟨_, rfl, ?_, ?_, ?_⟩
  · exact List.elem_eq_true_of_mem (hout (List.mem_append_right _ (List.mem_singleton.mpr rfl)))
  · rw [hcf.alarm.head]
    exact congrArg (fun x : Head => x.inStep .sparking .fire) hch.alarm.head
  · rw [hcf.alarms]
    exact congrArg Alarms.queue hch.alarms

/-- A strip clamped again with its record, the event over (R108). -/
theorem State.reclampShown_settled {u : State} (old : State) (hl : u.agenda.place = false) (hf : u.agenda.full = false)
    (he : u.isEnd = false) (hw : u.window.state = .outbound) (hp : u.pins.stripOut = true) :
    ∀ t, t = State.finish old u.settleJam.settle → t.window.state = .clamped ∧ t.window.record = u.window.record
      ∧ t.window.doneHere = u.window.doneHere ∧ t.window.freshWait = true ∧ t.window.exitTimer = none := by
  rintro t rfl
  rw [State.settleJam_shown hw he hp]
  have hr : Raises clampAlarms ({ u with window.freshWait := true } : State).reclamp.testStale
      (({ ({ u with window.freshWait := true } : State).stripClampReq true with
        window.state := .clamped
        window.recordQueued := false
        window.exitTimer := none } : State).askHead.askStrip) :=
    (State.testStale_raises _).trans ((State.queueBeacon_posts _).raises _)
  have hwin := hr.change.window
  have hst := hr.change.straps
  have hag := hr.agenda
  generalize ({ u with window.freshWait := true } : State).reclamp.testStale = x at hwin hst hag
  have hxl : x.agenda.place = false := by rw [hag]; exact hl
  have hxf : x.agenda.full = false := by rw [hag]; exact hf
  have hon := State.finish_settle_onward old x hxf
  have hxw : x.window.state = .clamped := by rw [hwin]; rfl
  have hxr : x.window.record = u.window.record := by rw [hwin]; rfl
  have hxd : x.window.doneHere = u.window.doneHere := by rw [hwin]; rfl
  have hxm : x.window.freshWait = true := by rw [hwin]; rfl
  have hxt : x.window.exitTimer = none := by rw [hwin]; rfl
  have hxe : x.isEnd = false := by
    rw [State.isEnd, hst]
    exact he
  exact ⟨(State.finish_settle_freshWait old hxl hxf hxm hxe).trans hxw, (congrArg StripView.record hon.strip).trans hxr,
    (congrArg StripView.doneHere hon.strip).trans hxd, (congrArg StripView.freshWait hon.strip).trans hxm,
    (congrArg StripView.exitTimer hon.strip).trans hxt⟩

/-- No strip shown, the event over: it has passed (R108). -/
theorem State.jamPassed_settled {u : State} (old : State) (hf : u.agenda.full = false)
    (he : u.isEnd = false) (hw : u.window.state = .outbound) (hp : u.pins.stripOut = false) :
    ∀ t, t = State.finish old u.settleJam.settle → t.window.state = .empty ∧ t.window.record = none
      ∧ t.window.doneHere = 0 ∧ t.window.exitTimer = none ∧ t.tally.counters = u.tally.counters.modify 13 Counter.bump := by
  rintro t rfl
  rw [State.settleJam_gone hw he hp]
  have hp : Posts (u.count .stripsPassed).giveUpRecord (({ (u.count .stripsPassed).dropStripData with
      window.state := .empty
      window.record := none
      window.inbound := none
      window.inboundSerial := none
      window.recordQueued := false
      window.exitTimer := none } : State).askHead.askFeed) := State.queueBeacon_posts _
  have hwin := hp.change.alarm.window
  have htally := hp.change.alarm.tally
  have hag := hp.agenda
  generalize (u.count .stripsPassed).giveUpRecord = x at hwin htally hag
  have hxf : x.agenda.full = false := by rw [hag]; exact hf
  have hon := State.finish_settle_onward old x hxf
  have hxw : x.window.state = .empty := by rw [hwin]; rfl
  have hxr : x.window.record = none := by rw [hwin]; rfl
  have hxd : x.window.doneHere = 0 := by rw [hwin]; rfl
  have hxt : x.window.exitTimer = none := by rw [hwin]; rfl
  have hxc : x.tally.counters = u.tally.counters.modify 13 Counter.bump := by rw [htally]; rfl
  refine ⟨?_, (congrArg StripView.record hon.strip).trans hxr, (congrArg StripView.doneHere hon.strip).trans hxd,
    (congrArg StripView.exitTimer hon.strip).trans hxt, (congrArg StripView.counters hon.strip).trans hxc⟩
  rcases hon.window with hw | ⟨hc, -⟩
  · exact hw.trans hxw
  · exact absurd (hxw.symm.trans hc) (by decide)

end

/-- Settles O15: NO BALL fires again, and STRIP OUT decides what TRANSFER JAM leaves in the window. -/
theorem resumeGoesOn : Obligations.ResumeGoesOn := by
  intro h seq p s e hh he
  refine ⟨fun r w n hk hheld hon => ?noBall, fun hk hw hend => ?jam⟩
  case noBall =>
    rw [exec_resume, response_settles hh he (by rw [hk]; decide), hk]
    have hheld' : (s.heardFrom p h.sender).heldForAlarm = true := hheld
    have hp := (s.heardFrom p h.sender).removeAlarm_posts e .resume h.sender (by rw [hk]; decide)
    have hon' : (s.heardFrom p h.sender).onWire r w n := hon
    rw [State.alarmOf_seq he] at hp
    exact State.refire_settled (v := s.heardFrom p h.sender) s hp hon' hheld' rfl
  case jam =>
    rw [exec_resume, response_settles hh he (by rw [hk]; decide), hk]
    obtain ⟨u, hu, hp⟩ := (s.heardFrom p h.sender).removeAlarm_asks e .resume h.sender
    have hu' : (s.heardFrom p h.sender).removeAlarm e .resume h.sender = u.askHead.askStrip := by
      rw [hu, hk]
      rfl
    rw [hu']
    refine ⟨_, rfl, ?_⟩
    have hch := hp.change.alarm
    have hxl : u.askHead.askStrip.agenda.place = false := (congrArg Agenda.place hp.agenda :)
    have hxf : u.askHead.askStrip.agenda.full = false := (congrArg Agenda.full hp.agenda :)
    have hxe : u.askHead.askStrip.isEnd = false := by
      rw [State.isEnd]
      exact (congrArg (fun x : Straps => x.endFitted && x.stn != 1) hch.straps).trans hend
    have hxw : u.askHead.askStrip.window.state = .outbound := hch.winState.trans hw
    have hpins : u.askHead.askStrip.pins = p := hch.pins
    have hdone : u.window.doneHere = s.window.doneHere := (congrArg Window.doneHere hch.window :)
    by_cases hs : p.stripOut = true
    · rw [if_pos hs]
      obtain ⟨h1, h2, h3, h4⟩ := State.reclampShown_settled s hxl hxf hxe hxw (by rw [hpins]; exact hs) _ rfl
      exact ⟨h1, h2.trans hch.record, h3.trans hdone, h4⟩
    · rw [if_neg hs]
      obtain ⟨h1, h2, h3, h4, h5⟩ := State.jamPassed_settled s hxf hxe hxw
        (by rw [hpins]; simpa using hs) _ rfl
      exact ⟨h1, h2, h3, h4, h5.trans (congrArg (fun x : Tallies => x.counters.modify 13 Counter.bump) hch.tally)⟩

end Sys2Proof.Machine

/-! ## O27: the end of the listen, and the stages of homing -/

namespace Sys2Proof.Machine

section
variable {s t old : State} {p : Pins} {rest : List Due}

/-- A beacon takes a place of the queue that has room and holds none (R191). -/
theorem State.placeBeacon_placed (ho : s.operating = true) (hl : s.phase ≠ .listening)
    (hq : s.line.txQueue.length < Config.txPlaces) (hb : s.line.hasBeacon = false) (hw : s.line.waiting = []) :
    ∃ x o, s.placeBeacon = { s with
      line := { s.line with txQueue := s.line.txQueue ++ [⟨s.beaconFrame, 0⟩], beaconTimer := some 50 }
      panel := x
      out := o } := by
  have hroom : (({ s with line.waiting := [.beaconDue] } : State).lineHasRoom) = true := by
    simp [State.lineHasRoom, hl, hq]
    exact ho
  have e : s.placeBeacon = State.drain [.beaconDue] { s with line.waiting := [.beaconDue] } := by
    simp [State.placeBeacon, ho, hb, hw, State.fill]
  obtain ⟨x, o, hx⟩ : ∃ x o, ({ s with line.waiting := [.beaconDue] } : State).placeItem .beaconDue = { s with
      line := { s.line with
        waiting := [.beaconDue], txQueue := s.line.txQueue ++ [⟨s.beaconFrame, 0⟩], beaconTimer := some Config.beaconMs }
      panel := x
      out := o } := ⟨_, _, State.panelBeacon_panel _ _ _⟩
  refine ⟨x, o, ?_⟩
  rw [e, State.drain, if_pos hroom, State.drain, hx, ← hw]
  rfl

/-! ### What a beacon requests (R180) -/

/-- Nothing but the buzzer has been requested since. -/
def Buzzes (t s : State) : Prop := ∀ q ∈ t.out, q ∈ s.out ∨ q = .buzz true

theorem Buzzes.of_out (h : t.out = s.out) : Buzzes t s := fun _ m => .inl (h ▸ m)

theorem Buzzes.trans {u : State} (h : Buzzes u t) (k : Buzzes t s) : Buzzes u s :=
  fun q m => (h q m).elim (k q) .inr

theorem State.panelChange_out (s : State) (x : Panel) : (s.panelChange x).out = s.out := by
  unfold State.panelChange State.standbyTest
  split
  · split <;> rfl
  · rfl

theorem State.panelAppend_buzzes (s : State) (e : PanelEntry) : Buzzes (s.panelAppend e) s := by
  unfold State.panelAppend
  split
  · intro q m
    rcases List.mem_append.mp m with m | m
    · exact .inl ((s.panelChange_out _) ▸ m)
    · exact .inr (List.mem_singleton.mp m)
  · exact .of_out rfl

theorem State.panelCarried_buzzes (n : Nat) (s : State) (a : Nat × Nat) : Buzzes (State.panelCarried n s a) s := by
  unfold State.panelCarried
  split
  · exact .of_out rfl
  · split
    · exact s.panelAppend_buzzes _
    · exact .of_out rfl

theorem State.panelBeacon_buzzes (s : State) (n : Nat) (l : List (Nat × Nat)) : Buzzes (s.panelBeacon n l) s := by
  have hfold : ∀ (l : List (Nat × Nat)) (u : State), Buzzes (l.foldl (State.panelCarried n) u) u := by
    intro l
    induction l with
    | nil => exact fun u => .of_out rfl
    | cons a l ih => exact fun u => (ih _).trans (u.panelCarried_buzzes n a)
  unfold State.panelBeacon
  split
  · exact .of_out rfl
  · exact Buzzes.trans (.of_out (State.panelChange_out _ _)) (hfold l s)

/-- With nothing waiting, a beacon requests the buzzer at most. -/
theorem State.placeBeacon_buzzes (hw : s.line.waiting = []) : Buzzes s.placeBeacon s := by
  unfold State.placeBeacon
  split
  · exact .of_out rfl
  · split
    · exact .of_out rfl
    · split
      · exact .of_out rfl
      · unfold State.fill
        simp only [hw, List.nil_append]
        unfold State.drain
        split
        · unfold State.drain
          exact State.panelBeacon_buzzes _ _ _
        · exact .of_out rfl

theorem State.finish_buzzes (old : State) (hw : s.line.waiting = []) : Buzzes (State.finish old s) s := by
  have h : Buzzes (s.beaconAfter old) s := by
    unfold State.beaconAfter
    split
    · exact State.placeBeacon_buzzes hw
    · exact .of_out rfl
  have hk : (s.beaconAfter old).keepLine.out = (s.beaconAfter old).out := by
    unfold State.keepLine
    split <;> rfl
  exact Buzzes.trans (.of_out hk) h

/-! ### Homing (R37, R192) -/

/-- The requests of homing's third stage. -/
theorem State.homingTable_out (h : s.out = []) :
    .move .x 0 .plain ∈ s.homingTable.out ∧ .move .y 0 .plain ∈ s.homingTable.out
      ∧ (.move .h 0 .plain ∈ s.homingTable.out ↔ s.straps.pullFitted = true)
      ∧ (.move .e 0 .plain ∈ s.homingTable.out ↔ s.phase = .homing ∧ (s.isFirst = true ∨ s.isEnd = true)) := by
  have e : s.homingTable.out = [.move .x 0 .plain, .move .y 0 .plain]
      ++ (if s.straps.pullFitted then [.move .h 0 .plain] else [])
      ++ (if s.phase == .homing && (s.isFirst || s.isEnd) then [.move .e 0 .plain] else []) := by
    unfold State.homingTable
    simp only [State.move, State.request, State.enter, h, List.nil_append, List.cons_append]
    split <;> split <;> rfl
  rw [e]
  refine ⟨by simp, by simp, by simp, ?_⟩
  by_cases hp : s.phase = .homing
  · simp [hp]
  · simp [hp]

theorem State.homingTable_head (s : State) :
    s.homingTable.head = { s.head with state := .homing, stage := .homingTable } := by
  unfold State.homingTable
  dsimp only
  split <;> split <;> rfl

theorem State.homingTable_agenda (s : State) : s.homingTable.agenda = s.agenda := by
  unfold State.homingTable
  dsimp only
  split <;> split <;> rfl

theorem State.homingTable_line (s : State) : s.homingTable.line = s.line := by
  unfold State.homingTable
  dsimp only
  split <;> split <;> rfl

/-- The end of the listen (R192): a STARTING beacon, its timer, and homing. -/
theorem State.endListen_homes (ho : s.operating = true) (hl : s.phase = .listening) (hq : s.line.txQueue = [])
    (hw : s.line.waiting = []) (hp : s.head.state = .parked) : ∃ x o,
    s.endListen = ({ s with
      phase := .homing
      line := { s.line with
        txQueue := [⟨({ s with phase := .homing } : State).beaconFrame, 0⟩], beaconTimer := some 50 }
      panel := x
      out := o } : State).startHoming .park := by
  have hop : ({ s with phase := .homing, line.beaconTimer := some Config.beaconMs } : State).operating = true := by
    simp only [State.operating, Bool.and_eq_true, Bool.not_eq_true'] at ho
    simp [State.operating, ho.2]
  obtain ⟨x, o, hx⟩ := State.placeBeacon_placed hop (show Phase.homing ≠ .listening by decide)
    (show s.line.txQueue.length < Config.txPlaces by rw [hq]; decide)
    (show s.line.txQueue.any _ = false by rw [hq]; rfl) hw
  have hfill : ({ s with phase := .homing, line.beaconTimer := some Config.beaconMs } : State).fill
      = { s with phase := .homing, line.beaconTimer := some Config.beaconMs } := by
    show State.drain s.line.waiting _ = _
    rw [hw, State.drain, ← hw]
  refine ⟨x, o, ?_⟩
  have e : s.endListen = (({ s with phase := .homing, line.beaconTimer := some Config.beaconMs } : State).fill.placeBeacon).startUpHoming :=
    if_pos hl
  rw [e, hfill, hx, show ({ s with phase := .homing, line.beaconTimer := some Config.beaconMs } : State).line.txQueue = []
    from hq, List.nil_append]
  exact if_neg (by show ¬ s.head.state = .held; rw [hp]; decide)

/-- While STARTING a PARKED head starts nothing (R38, R61, R87). -/
theorem State.finish_settle_starting (old : State) (hl : s.agenda.place = false) (hf : s.agenda.full = false)
    (hr : s.running = false) : Rests (State.finish old s.settle) s := by
  have hr2 : s.settlePoint.running = false := by
    rw [State.running, s.settlePoint_rests.phase]
    exact hr
  refine (State.finish_rests old _).trans (State.settle_rests hl hf (.inr ⟨?_, ?_⟩))
  · simp [State.unitStartable, hr2]
  · simp [State.pullInAllowed, hr2]

/-- Homing over, the event over: homed, and start-up goes on to its scan; a head that was to park has parked. -/
theorem State.endHoming_settled (old : State) (ha : s.agenda.calm = true) :
    (State.finish old s.endHoming.settle).head.homed = true
      ∧ (s.phase = .homing → (State.finish old s.endHoming.settle).phase = .scanning
          ∧ (State.finish old s.endHoming.settle).log.scan = .header 0
          ∧ .slotRead 0 0 ∈ (State.finish old s.endHoming.settle).out)
      ∧ (s.phase = .homing → s.head.next = .park → (State.finish old s.endHoming.settle).head.state = .parked) := by
  generalize hv : ({ s with head.homed := true, head.homingParks := false } : State).scanAfterHoming = v
  have hwalk : Walks (State.finish old s.endHoming.settle) v := by
    refine (State.finish_settle_walks old _).trans ?_
    unfold State.endHoming
    simp only [hv]
    split
    · exact v.parkWork_stands.toWalks
    · exact v.resumeWork_walks _
  have hhomed : v.head.homed = true := by
    rw [← hv, State.scanAfterHoming_frame]
  have hphase : s.phase = .homing → v = ({ s with
      head.homed := true, head.homingParks := false, phase := .scanning, log.scan := .header 0 } : State).issue
      (.slotRead 0 0) := fun h => by rw [← hv]; exact if_pos h
  refine ⟨hwalk.homed.trans hhomed, fun hp => ⟨?phase, ?scan, ?read⟩, fun hp hn => ?parks⟩
  case phase => rw [hwalk.phase, hphase hp]; rfl
  case scan => rw [hwalk.scan, hphase hp]; rfl
  case read =>
    refine hwalk.out ?_
    rw [hphase hp]
    exact List.mem_append_right _ (List.mem_singleton.mpr rfl)
  case parks =>
    have hagenda : v.agenda = s.agenda := by rw [hphase hp]; rfl
    have hnext : v.head.next = .park := by rw [hphase hp]; exact hn
    have hrun : v.running = false := by rw [hphase hp]; rfl
    obtain ⟨w, hw, hwh, hwa, hwr⟩ : ∃ w : State, s.endHoming = w.enterParked ∧ w.head.homed = true
        ∧ w.agenda = v.agenda ∧ w.running = v.running := by
      unfold State.endHoming
      simp only [hv]
      split
      · refine ⟨_, rfl, ?_, ?_, ?_⟩ <;> rw [State.giveUpWork_frame]
        · exact hhomed
        · rfl
      · rw [hnext]
        exact ⟨v, rfl, hhomed, rfl, rfl⟩
    rw [hw]
    have hfirst : w.homesFirst = false := by simp [State.homesFirst, hwh]
    have hr := State.enterParked_rests hfirst
    have hag := State.enterParked_agenda hfirst
    have hcalm : w.agenda.place = false ∧ w.agenda.full = false := by
      rw [hwa, hagenda]
      simp only [Agenda.calm, Bool.and_eq_true, Bool.not_eq_true'] at ha
      exact ⟨ha.1.1.2, ha.1.2⟩
    have hrun' : w.enterParked.running = false := by
      rw [State.running, hr.phase]
      exact hwr.trans hrun
    rw [(State.finish_settle_starting old (by rw [hag]; exact hcalm.1) (by rw [hag]; exact hcalm.2) hrun').head, hr.head]
    rfl

end

/-- Settles O27: the STARTING beacon and homing at the end of the listen, then homing's stages. -/
theorem startUpHomesInStages : Obligations.StartUpHomesInStages := by
  refine ⟨fun p s ho hl hq hw hp => ?listen, fun p s rest ho hw => ⟨fun hd => ?clamp, fun hd hg => ?z,
    fun a hd hg hdone => ?table⟩⟩
  case listen =>
    obtain ⟨x, o, hx⟩ := State.endListen_homes (s := s.begin_ p) ho hl hq hw hp
    have hrun : exec (.listenEnd p) s = _ := event_operates _ ho
    rw [hrun, hx]
    have hcode : ∀ u : State, u.dup = s.dup → u.phase = .listening ∨ u.phase = .homing → u.stationCode = 0 := by
      intro u hd hph
      have hdup : s.dup = false := by
        simp only [State.operating, Bool.and_eq_true, Bool.not_eq_true'] at ho
        exact ho.2
      rcases hph with hph | hph <;> simp [State.stationCode, State.running, hd, hdup, hph]
    generalize hu : (({ s.begin_ p with
      phase := .homing
      line := { (s.begin_ p).line with
        txQueue := [⟨({ s.begin_ p with phase := .homing } : State).beaconFrame, 0⟩], beaconTimer := some 50 }
      panel := x
      out := o } : State).startHoming .park) = u
    have hub : u.beaconView = { s.beaconView with station := u.stationCode } := by rw [← hu]; rfl
    have hus : u.stationCode = 0 := hcode u (by rw [← hu]; rfl) (.inr (by rw [← hu]; rfl))
    have hss : s.stationCode = 0 := hcode s rfl (.inl hl)
    have hview : u.beaconView = s.beaconView := by rw [hub, hus, ← hss]; rfl
    have ht := State.finish_settle_quiet (old := s) (u := u) (by rw [← hu]; rfl) (by rw [hview])
    refine ⟨_, rfl, ?_⟩
    generalize State.finish s u.settle = t at ht
    unfold SameButLine at ht
    have htb : t.beaconView = u.beaconView := by rw [ht]; rfl
    have hts : t.stationCode = u.stationCode := by rw [ht]; rfl
    rw [htb, hts, ht, ← hu]
    exact ⟨rfl, rfl, rfl, by rw [hu]; exact hus, rfl, List.mem_append_right _ (List.mem_singleton.mpr rfl), rfl⟩
  case clamp =>
    obtain ⟨t, ht, hh, -, hdue, hout⟩ := State.finish_settle_step s
      (u := ((s.answered p rest).enter .homing .homingZ).move .z 0 .homing) rfl hw
    refine ⟨t, ?_, hh, hdue, hout (List.mem_append_right _ (List.mem_singleton.mpr rfl))⟩
    rw [show exec (.wireClampDone p) s = _ from event_answered (f := fun u t => t.clamped u) ho hd rfl, ← ht]
    rfl
  case z =>
    have hrun : exec (.homingMoveDone .z p) s = .next (State.finish s (s.answered p rest).homingTable.settle) := by
      refine (event_answered (f := fun _ t => t.homingAnswered) ho hd rfl).trans ?_
      rw [State.homingAnswered, show (s.answered p rest).head.stage = .homingZ from hg]
    have hag := (s.answered p rest).homingTable_agenda
    have hcalm : (s.answered p rest).homingTable.agenda.calm = true := by rw [hag]; rfl
    have hwait : (s.answered p rest).homingTable.line.waiting = [] := by rw [State.homingTable_line]; exact hw
    obtain ⟨hx, hy, hh, he⟩ := State.homingTable_out (s := s.answered p rest) rfl
    have hhead := (s.answered p rest).homingTable_head
    obtain ⟨hc, hsub, -⟩ := State.finish_settle_calm s hcalm
    have hbuzz := State.finish_buzzes s hwait
    rw [← State.settle_calm hcalm] at hbuzz
    have hiff : ∀ a, .move a 0 .plain ∈ (State.finish s (s.answered p rest).homingTable.settle).out
        ↔ .move a 0 .plain ∈ (s.answered p rest).homingTable.out := fun a =>
      ⟨fun m => (hbuzz _ m).elim (fun k => by rwa [State.settle_calm hcalm] at k) nofun, fun m => hsub m⟩
    exact ⟨_, hrun, hc.alarm.head.trans hhead, hsub hx, hsub hy, (hiff _).trans hh, (hiff _).trans he⟩
  case table =>
    have hrun : exec (.homingMoveDone a p) s = .next (State.finish s (s.answered p rest).endHoming.settle) := by
      refine (event_answered (f := fun _ t => t.homingAnswered) ho hd rfl).trans ?_
      rw [State.homingAnswered, show (s.answered p rest).head.stage = .homingTable from hg]
      have hno : (s.answered p rest).awaiting .homing = false := hdone
      rw [State.allDone, hno]
      rfl
    obtain ⟨hhomed, hscan, hpark⟩ := State.endHoming_settled s (s := s.answered p rest) rfl
    exact ⟨_, hrun, hhomed, hscan, hpark⟩

end Sys2Proof.Machine

/-! ## Frames that make no request

Only a placed STRIP RECORD starts the strip moving (R100); with none waiting, alarms and beacons leave the requests that are
due. -/

namespace Sys2Proof.Machine

/-- The item is a STRIP RECORD that waits for room. -/
def Waiting.isRecord : Waiting → Bool
  | .frame .stripRecord _ => true
  | _ => false

/-- No STRIP RECORD waits. -/
def State.noRecordWaits (s : State) : Prop := ∀ w ∈ s.line.waiting, w.isRecord = false

/-- With no STRIP RECORD waiting, `t` has the answers due of `s`, and none waits in `t`. -/
def DueKept (t s : State) : Prop := s.noRecordWaits → t.due = s.due ∧ t.noRecordWaits

section
variable {u t s : State}

theorem DueKept.refl (s : State) : DueKept s s := fun h => ⟨rfl, h⟩

theorem DueKept.trans (h : DueKept u t) (k : DueKept t s) : DueKept u s := fun hs =>
  ⟨(h (k hs).2).1.trans (k hs).1, (h (k hs).2).2⟩

theorem DueKept.of_panel (h : PanelChange t s) : DueKept t s := fun hs => by
  unfold PanelChange at h
  rw [h]
  exact ⟨rfl, hs⟩

theorem State.noRecordWaits_nil (h : s.line.waiting = []) : s.noRecordWaits := by
  intro w hw
  rw [h] at hw
  cases hw

theorem State.placeItem_due {w : Waiting} (hw : w.isRecord = false) (s : State) : (s.placeItem w).due = s.due := by
  cases w with
  | beaconDue =>
    have h := State.panelBeacon_panel ({ s with
      line.txQueue := s.line.txQueue ++ [⟨s.beaconFrame, 0⟩], line.beaconTimer := some Config.beaconMs } : State)
      s.stn s.beaconView.alarms
    exact (congrArg State.due h :)
  | frame o f =>
    unfold State.placeItem State.onPlaced
    dsimp only
    split
    · cases hw
    · rfl
    · rfl

theorem State.drain_due (ws : List Waiting) (s : State) (hws : ∀ w ∈ ws, w.isRecord = false) :
    (State.drain ws s).due = s.due ∧ (State.drain ws s).noRecordWaits := by
  induction ws generalizing s with
  | nil => exact ⟨rfl, nofun⟩
  | cons w ws ih =>
    unfold State.drain
    split
    · obtain ⟨h1, h2⟩ := ih (s.placeItem w) fun x hx => hws x (List.mem_cons_of_mem _ hx)
      exact ⟨h1.trans (State.placeItem_due (hws w List.mem_cons_self) s), h2⟩
    · exact ⟨rfl, hws⟩

/-- An item other than a STRIP RECORD begins to wait, and what waits takes the room there is. -/
theorem State.fill_dueKept {w : Waiting} (hw : w.isRecord = false) (s : State) :
    DueKept ({ s with line.waiting := s.line.waiting ++ [w] } : State).fill s := fun hs =>
  State.drain_due _ { s with line.waiting := s.line.waiting ++ [w] } fun x hx =>
    (List.mem_append.mp hx).elim (hs x) fun hx => by rw [List.mem_singleton.mp hx]; exact hw

theorem State.submit_dueKept {o : Owner} (f : Frame) (ho : (Waiting.frame o f).isRecord = false) (s : State) :
    DueKept (s.submit o f) s := by
  unfold State.submit
  split
  · exact State.fill_dueKept ho s
  · exact .refl s

theorem State.placeBeacon_dueKept (s : State) : DueKept s.placeBeacon s := by
  unfold State.placeBeacon
  split
  · exact .refl s
  · split
    · exact DueKept.refl s
    · split
      · exact .refl s
      · exact State.fill_dueKept rfl s

theorem State.raise_dueKept (s : State) (k : AlarmKind) : DueKept (s.raise k) s := by
  unfold State.raise
  split
  · exact .refl s
  · exact (State.placeBeacon_dueKept _).trans ((DueKept.of_panel (State.panelAlarm_panel _ _ _ _ _)).trans
      (State.submit_dueKept _ rfl { s with
        alarms.queue := s.alarms.queue ++ [_], alarms.counter := nextSeq (freeSeq s.alarms.queue 17 s.alarms.counter) }))

theorem State.finish_dueKept (old s : State) : DueKept (State.finish old s) s := by
  have hb : DueKept (s.beaconAfter old) s := by
    unfold State.beaconAfter
    split
    · exact s.placeBeacon_dueKept
    · exact .refl s
  have hk : DueKept (s.beaconAfter old).keepLine (s.beaconAfter old) := by
    unfold State.keepLine
    split <;> exact DueKept.refl (s.beaconAfter old)
  exact DueKept.trans (.refl (s.beaconAfter old).keepLine) (hk.trans hb)

end

end Sys2Proof.Machine

/-! ## O34: the end of a bond at the head (R69 to R75, R196) -/

namespace Sys2Proof.Machine

section
variable {u t s old : State} {k : AlarmKind} {ks ls : List AlarmKind}

theorem Raises.mono (h : Raises ks t s) (hk : ∀ k ∈ ks, k ∈ ls) : Raises ls t s := by
  obtain ⟨l, hl, hm⟩ := h.queue
  exact ⟨h.change, h.out, h.agenda, ⟨l, hl, fun e he => hk _ (hm e he)⟩, h.awaits⟩

theorem Raises.alarmOpen_eq (h : Raises ks t s) (hk : k ∉ ks) : t.alarmOpen k = s.alarmOpen k := by
  obtain ⟨l, hl, hm⟩ := h.queue
  have hn : l.any (fun e => e.kind == k) = false := by
    rw [List.any_eq_false]
    intro e he hek
    exact hk (eq_of_beq hek ▸ hm e he)
  simp only [State.alarmOpen, hl, List.any_append, hn, Bool.or_false]

/-- Alarms raised allow a change of the drift rings before them to be made after them. -/
theorem Raises.with_rings (h : Raises ks t s) (x : List Ring) :
    Raises ks { t with energy.rings := x } { s with energy.rings := x } where
  change := by
    have hc := h.change
    unfold AlarmChange at hc ⊢
    rw [hc]
  out := h.out
  agenda := h.agenda
  queue := h.queue
  awaits := h.awaits

/-! ### The untracked run (R48) -/

/-- The untracked run after a bond's end, and its tally. -/
def State.untracked (s : State) : State :=
  { s with
    head.untrackedBond := false
    head.untrackedRun := if s.head.untrackedBond then min 16 (s.head.untrackedRun + 1) else s.head.untrackedRun
    tally.counters := if s.head.untrackedBond then s.tally.counters.modify 17 Counter.bump else s.tally.counters }

theorem State.untracked_of_tracked (h : s.head.untrackedBond = false) : s.untracked = s := by
  unfold State.untracked
  rw [if_neg (by rw [h]; decide), if_neg (by rw [h]; decide), ← h]

/-- The end of an untracked bond counts it; the sixteenth in a row raises GENERATOR UNLOCK. -/
theorem State.untrackedEnd_cases (s : State) : s.untrackedEnd = s.untracked
    ∨ s.untrackedEnd = s.untracked.raise .generatorUnlock := by
  by_cases h : s.head.untrackedBond = true
  · have e : ({ s with
        head.untrackedBond := false
        head.untrackedRun := min 16 (s.head.untrackedRun + 1) } : State).count .untrackedBonds = s.untracked := by
      unfold State.untracked
      rw [if_pos h, if_pos h]
      rfl
    unfold State.untrackedEnd
    rw [if_pos h]
    dsimp only
    rw [e]
    split
    · exact .inr rfl
    · exact .inl rfl
  · left
    rw [State.untracked_of_tracked (by simpa using h)]
    exact if_neg h

theorem State.untrackedEnd_unlock (h : s.head.untrackedBond = true) (hr : s.head.untrackedRun = 15) :
    s.untrackedEnd = s.untracked.raise .generatorUnlock := by
  unfold State.untrackedEnd State.untracked
  rw [if_pos h, if_pos h, if_pos h]
  dsimp only
  rw [if_pos hr]
  rfl

theorem State.untrackedEnd_raises (s : State) : Raises [.generatorUnlock] s.untrackedEnd s.untracked := by
  rcases s.untrackedEnd_cases with e | e
  · rw [e]
    exact (Posts.refl _).raises _
  · rw [e]
    exact State.raise_raises _ (by decide)

theorem State.untrackedEnd_dueKept (s : State) : DueKept s.untrackedEnd s := by
  rcases s.untrackedEnd_cases with e | e
  · rw [e]
    exact DueKept.refl s
  · rw [e]
    exact (State.raise_dueKept _ _).trans (DueKept.refl s)

/-! ### Drift (R74, R75) -/

/-- A set's ring with the energy of a stuck bond. -/
def State.ringWith (s : State) (q : OpenParams) (energy : Nat) : Ring :=
  (s.energy.rings.getD q.set ⟨0, []⟩).add q.generation energy

/-- The full ring shows drift. -/
def State.drifts (s : State) (q : OpenParams) (energy : Nat) : Bool :=
  decide ((s.ringWith q energy).energies.length = 8) && driftExists (s.ringWith q energy).energies q.params

/-- The rings after a stuck bond. -/
def State.ringsWith (s : State) (q : OpenParams) (energy : Nat) : List Ring :=
  s.energy.rings.set q.set ⟨q.generation, if s.drifts q energy then [] else (s.ringWith q energy).energies⟩

theorem State.drifts_congr (h : t.energy.rings = s.energy.rings) (q : OpenParams) (e : Nat) :
    t.drifts q e = s.drifts q e := by
  unfold State.drifts State.ringWith
  rw [h]

theorem State.ringsWith_congr (h : t.energy.rings = s.energy.rings) (q : OpenParams) (e : Nat) :
    t.ringsWith q e = s.ringsWith q e := by
  unfold State.ringsWith
  rw [State.drifts_congr h]
  unfold State.ringWith
  rw [h]

theorem State.addDrift_of_drifts {q : OpenParams} {e : Nat} (h : s.drifts q e = true) :
    s.addDrift q e = ({ s with energy.rings := s.ringsWith q e } : State).raise .energyDrift := by
  have hc : (s.ringWith q e).energies.length = 8 ∧ driftExists (s.ringWith q e).energies q.params = true := by
    simpa [State.drifts] using h
  unfold State.ringsWith
  rw [if_pos h]
  exact if_pos hc

theorem State.addDrift_of_steady {q : OpenParams} {e : Nat} (h : s.drifts q e = false) :
    s.addDrift q e = { s with energy.rings := s.ringsWith q e } := by
  have hc : ¬ ((s.ringWith q e).energies.length = 8 ∧ driftExists (s.ringWith q e).energies q.params = true) := by
    simpa [State.drifts] using h
  unfold State.ringsWith
  rw [if_neg (by rw [h]; decide)]
  exact if_neg hc

theorem State.addDrift_raises (s : State) (q : OpenParams) (e : Nat) :
    Raises [.energyDrift] (s.addDrift q e) { s with energy.rings := s.ringsWith q e } := by
  cases h : s.drifts q e
  · rw [State.addDrift_of_steady h]
    exact (Posts.refl _).raises _
  · rw [State.addDrift_of_drifts h]
    exact State.raise_raises _ (by decide)

theorem State.addDrift_open (q : OpenParams) (e : Nat) (ho : s.operating = true) :
    (s.addDrift q e).alarmOpen .energyDrift = (s.alarmOpen .energyDrift || s.drifts q e) := by
  cases h : s.drifts q e
  · rw [State.addDrift_of_steady h, Bool.or_false]
    rfl
  · rw [State.addDrift_of_drifts h, Bool.or_true]
    exact State.raise_open _ _ ho

theorem State.addDrift_dueKept (s : State) (q : OpenParams) (e : Nat) : DueKept (s.addDrift q e) s := by
  cases h : s.drifts q e
  · rw [State.addDrift_of_steady h]
    exact DueKept.refl s
  · rw [State.addDrift_of_drifts h]
    exact (State.raise_dueKept _ _).trans (DueKept.refl s)

/-! ### The judgement (R70 to R75, R196) -/

/-- The bond is tallied, ends an untracked run or goes on with it, and joins its ring if it stuck. -/
def State.judged (s : State) (r : BondReport) (tried outcome : Tally) (stuck : Bool) : State :=
  (((s.disableReq.count tried).count outcome).untrackedEnd).driftIf stuck r

/-- What a judged bond leaves, its alarms aside. -/
structure Judged (s t : State) (r : BondReport) (tried outcome : Tally) (stuck : Bool) : Prop where
  head : t.head = { s.head with
    enabled := false, untrackedBond := false
    untrackedRun := if s.head.untrackedBond then min 16 (s.head.untrackedRun + 1) else s.head.untrackedRun }
  counters : t.tally.counters = if s.head.untrackedBond then
      ((s.tally.counters.modify tried.index Counter.bump).modify outcome.index Counter.bump).modify 17 Counter.bump
    else (s.tally.counters.modify tried.index Counter.bump).modify outcome.index Counter.bump
  rings : t.energy.rings = if stuck then s.ringsWith r.params r.energy else s.energy.rings
  drift : t.alarmOpen .energyDrift = (s.alarmOpen .energyDrift || (stuck && s.drifts r.params r.energy))
  unlock : s.head.untrackedBond = true → s.head.untrackedRun = 15 → t.alarmOpen .generatorUnlock = true
  due : DueKept t s
  record : t.window.record = s.window.record
  recipes : t.recipes = s.recipes
  pins : t.pins = s.pins
  agenda : t.agenda = { s.agenda with beacon := t.agenda.beacon }
  operating : t.operating = s.operating

theorem State.driftIf_false (r : BondReport) : s.driftIf false r = s := rfl
theorem State.driftIf_true (r : BondReport) : s.driftIf true r = s.addDrift r.params r.energy := rfl

/-- The judgement raises GENERATOR UNLOCK and ENERGY DRIFT at most. -/
theorem State.judged_raises (s : State) (r : BondReport) (tried outcome : Tally) (stuck : Bool) :
    Raises [.generatorUnlock, .energyDrift] (s.judged r tried outcome stuck)
      { ((s.disableReq.count tried).count outcome).untracked with
        energy.rings := if stuck then s.ringsWith r.params r.energy else s.energy.rings } := by
  unfold State.judged
  have hrings : ((s.disableReq.count tried).count outcome).energy.rings = s.energy.rings := by
    rw [s.disableReq_frame]
    rfl
  generalize (s.disableReq.count tried).count outcome = v at hrings ⊢
  have hend := v.untrackedEnd_raises.mono (ls := [.generatorUnlock, .energyDrift]) (by simp)
  have hsame : v.untrackedEnd.energy.rings = s.energy.rings :=
    (congrArg Energy.rings hend.change.energy).trans hrings
  cases stuck with
  | false =>
    have e : ({ v.untracked with energy.rings := s.energy.rings } : State) = v.untracked := by
      rw [← hrings]
      rfl
    rw [State.driftIf_false]
    exact e ▸ hend
  | true =>
    have hx := State.ringsWith_congr hsame r.params r.energy
    have hdrift := (v.untrackedEnd.addDrift_raises r.params r.energy).mono (ls := [.generatorUnlock, .energyDrift]) (by simp)
    rw [hx] at hdrift
    exact hdrift.trans (hend.with_rings _)

theorem State.judged_judged (ho : s.operating = true) (r : BondReport) (tried outcome : Tally) (stuck : Bool) :
    Judged s (s.judged r tried outcome stuck) r tried outcome stuck := by
  have h := s.judged_raises r tried outcome stuck
  have hdis := s.disableReq_frame
  obtain ⟨o, hv⟩ : ∃ o, (s.disableReq.count tried).count outcome = { s with
      head.enabled := false, out := o
      tally.counters := (s.tally.counters.modify tried.index Counter.bump).modify outcome.index Counter.bump } :=
    ⟨s.disableReq.out, by rw [hdis]; rfl⟩
  have hop : ((s.disableReq.count tried).count outcome).operating = true := by rw [hv]; exact ho
  have hrings : ((s.disableReq.count tried).count outcome).energy.rings = s.energy.rings := by rw [hv]
  have halarm : ((s.disableReq.count tried).count outcome).alarms = s.alarms := by rw [hv]
  have hhead : ((s.disableReq.count tried).count outcome).head.untrackedBond = s.head.untrackedBond
      ∧ ((s.disableReq.count tried).count outcome).head.untrackedRun = s.head.untrackedRun := by
    rw [hv]
    exact ⟨rfl, rfl⟩
  have hkept : DueKept ((s.disableReq.count tried).count outcome) s := by
    rw [hv]
    exact DueKept.refl s
  have hrest : (s.head.untrackedBond = true → s.head.untrackedRun = 15 →
        (s.judged r tried outcome stuck).alarmOpen .generatorUnlock = true)
      ∧ (s.judged r tried outcome stuck).alarmOpen .energyDrift
        = (s.alarmOpen .energyDrift || (stuck && s.drifts r.params r.energy))
      ∧ DueKept (s.judged r tried outcome stuck) s := by
    unfold State.judged
    generalize (s.disableReq.count tried).count outcome = v at hop hrings halarm hhead hkept
    have hend := v.untrackedEnd_raises
    have hunlock : s.head.untrackedBond = true → s.head.untrackedRun = 15 →
        v.untrackedEnd.alarmOpen .generatorUnlock = true := fun hb hr => by
      rw [State.untrackedEnd_unlock (hhead.1.trans hb) (hhead.2.trans hr)]
      exact State.raise_open _ _ hop
    have hdrift : v.untrackedEnd.alarmOpen .energyDrift = s.alarmOpen .energyDrift := by
      rw [hend.alarmOpen_eq (by decide), State.alarmOpen, State.alarmOpen]
      exact congrArg (fun x : Alarms => x.queue.any (fun e => e.kind == .energyDrift)) halarm
    have hdue := v.untrackedEnd_dueKept.trans hkept
    cases stuck with
    | false => exact ⟨hunlock, by rw [State.driftIf_false, hdrift]; simp, hdue⟩
    | true =>
      have hadd := v.untrackedEnd.addDrift_raises r.params r.energy
      have hsame : v.untrackedEnd.energy.rings = s.energy.rings :=
        (congrArg Energy.rings hend.change.energy).trans hrings
      refine ⟨fun hb hr => hadd.alarmOpen (hunlock hb hr), ?_, (State.addDrift_dueKept _ _ _).trans hdue⟩
      rw [State.driftIf_true, State.addDrift_open _ _ (hend.change.operating.trans hop), hdrift,
        State.drifts_congr hsame, Bool.true_and]
  obtain ⟨hunlock, hdrift, hdue⟩ := hrest
  rw [hv] at h
  generalize s.judged r tried outcome stuck = t at *
  exact
    { head := h.change.head
      counters := congrArg Tallies.counters h.change.tally
      rings := congrArg Energy.rings h.change.energy
      drift := hdrift
      unlock := hunlock
      due := hdue
      record := h.change.record
      recipes := h.change.recipes
      pins := h.change.pins
      agenda := h.agenda
      operating := h.change.operating }

/-! ### What follows the judgement (R42, R44, R47) -/

/-- The parts of a judgement that what follows it leaves. -/
structure SameVerdict (t s : State) : Prop where
  unit : t.head.unit = s.head.unit
  wire : t.head.wire = s.head.wire
  untrackedBond : t.head.untrackedBond = s.head.untrackedBond
  untrackedRun : t.head.untrackedRun = s.head.untrackedRun
  record : t.window.record = s.window.record
  counters : t.tally.counters = s.tally.counters
  rings : t.energy.rings = s.energy.rings
  drift : t.alarmOpen .energyDrift = s.alarmOpen .energyDrift
  unlock : t.alarmOpen .generatorUnlock = s.alarmOpen .generatorUnlock

theorem SameVerdict.trans (h : SameVerdict u t) (k : SameVerdict t s) : SameVerdict u s :=
  ⟨h.unit.trans k.unit, h.wire.trans k.wire, h.untrackedBond.trans k.untrackedBond, h.untrackedRun.trans k.untrackedRun,
    h.record.trans k.record, h.counters.trans k.counters, h.rings.trans k.rings, h.drift.trans k.drift,
    h.unlock.trans k.unlock⟩

theorem State.finish_verdict (old s : State) : SameVerdict (State.finish old s) s := by
  have h := (State.finish_change old s)
  unfold LineChange at h
  rw [h]
  exact ⟨rfl, rfl, rfl, rfl, rfl, rfl, rfl, rfl, rfl⟩

theorem State.disableReq_verdict (s : State) : SameVerdict s.disableReq s := by
  rw [State.disableReq_frame]
  exact ⟨rfl, rfl, rfl, rfl, rfl, rfl, rfl, rfl, rfl⟩

theorem State.holdFor_verdict (n : NextWork) (h1 : .energyDrift ≠ k) (h2 : .generatorUnlock ≠ k) :
    SameVerdict (s.holdFor k n) s := by
  have hr := s.disableReq.raise_raises (k := k) (List.mem_singleton.mpr rfl)
  have hc := hr.change
  have hv : SameVerdict (s.disableReq.raise k) s.disableReq :=
    { unit := congrArg Head.unit hc.head
      wire := congrArg Head.wire hc.head
      untrackedBond := congrArg Head.untrackedBond hc.head
      untrackedRun := congrArg Head.untrackedRun hc.head
      record := hc.record
      counters := congrArg Tallies.counters hc.tally
      rings := congrArg Energy.rings hc.energy
      drift := hr.alarmOpen_eq (by simpa using h1)
      unlock := hr.alarmOpen_eq (by simpa using h2) }
  have hheld : SameVerdict (s.holdFor k n) (s.disableReq.raise k) := ⟨rfl, rfl, rfl, rfl, rfl, rfl, rfl, rfl, rfl⟩
  exact hheld.trans (hv.trans s.disableReq_verdict)

/-- An application point that the head is not at, and a beacon, are all that is asked for: nothing follows. -/
theorem State.settle_of_away (h : { s.agenda with point := false }.calm = true) (hp : s.atPoint = false) :
    s.settle = s := by
  obtain ⟨⟨⟨⟨⟨hhead, hstrip⟩, hfeed⟩, hplace⟩, hfull⟩, hport⟩ : ((((s.agenda.head = false ∧ s.agenda.strip = false)
      ∧ s.agenda.feed = false) ∧ s.agenda.place = false) ∧ s.agenda.full = false) ∧ s.agenda.port = false := by
    simpa [Agenda.calm, and_assoc] using h
  unfold State.settle
  rw [State.settlePlace_of_calm hplace hfull]
  simp [State.settlePoint, State.settleHead, State.settleStrip, State.settleFeed, State.settlePort, hp, hhead, hstrip,
    hfeed, hport]

/-- A head with a unit HELD for an alarm, the event over: nothing has followed. -/
theorem State.holdFor_finish (old : State) (n : NextWork) (hc : s.agenda.calm = true) (hu : s.head.unit.isSome = true) :
    State.finish old (s.holdFor k n).settle = State.finish old (s.holdFor k n) := by
  rw [State.settle_of_away (s := s.holdFor k n)]
  · have hag := s.holdFor_agenda k n
    rw [hag]
    simp only [Agenda.calm, Bool.and_eq_true, Bool.not_eq_true'] at hc
    simp [Agenda.calm, hc]
  · have hh := s.holdFor_head k n
    unfold State.atPoint
    rw [hh]
    cases hx : s.head.unit with
    | none => rw [hx] at hu; cases hu
    | some m => simp [Head.heldWith, hx]

/-- The head HELD for the alarm, the event over. -/
theorem State.holdFor_over (old : State) (n : NextWork) (ho : s.operating = true) (hc : s.agenda.calm = true)
    (hu : s.head.unit.isSome = true) (h1 : .energyDrift ≠ k) (h2 : .generatorUnlock ≠ k) :
    SameVerdict (State.finish old (s.holdFor k n).settle) s
      ∧ (State.finish old (s.holdFor k n).settle).head = s.head.heldWith n
      ∧ (State.finish old (s.holdFor k n).settle).alarmOpen k = true := by
  obtain ⟨hr, -, hk⟩ := State.holdFor_settled old k n ho hc
  refine ⟨?_, hr.head, hk⟩
  rw [State.holdFor_finish old n hc hu]
  exact (State.finish_verdict _ _).trans (State.holdFor_verdict n h1 h2)

/-- The next step begun, the event over: its request is the only one that becomes due. -/
theorem State.stepped_over (old : State) {x : HeadState} {g : Stage} {q : Request} {pt : Port} {v : Use}
    (hc : s.agenda.calm = true) (hw : s.noRecordWaits) :
    SameVerdict (State.finish old (s.stepped x g q pt v).settle) s
      ∧ (State.finish old (s.stepped x g q pt v).settle).head = s.head.inStep x g
      ∧ q ∈ (State.finish old (s.stepped x g q pt v).settle).out
      ∧ (State.finish old (s.stepped x g q pt v).settle).due = s.due ++ [⟨pt, v, true⟩] := by
  obtain ⟨hch, hout, -⟩ := State.finish_settle_calm (u := s.stepped x g q pt v) old hc
  refine ⟨?_, hch.alarm.head, hout (List.mem_append_right _ (List.mem_singleton.mpr rfl)), ?_⟩
  · rw [State.settle_calm (s := s.stepped x g q pt v) hc]
    exact (State.finish_verdict _ _).trans ⟨rfl, rfl, rfl, rfl, rfl, rfl, rfl, rfl, rfl⟩
  · rw [State.settle_calm (s := s.stepped x g q pt v) hc]
    exact (State.finish_dueKept old (s.stepped x g q pt v) hw).1

end

end Sys2Proof.Machine

/-! ### The end of the open bond (R66 to R75) -/

namespace Sys2Proof.Machine

section
variable {s t old : State} {r : Recipe} {w : WireEntry} {n : Nat}

theorem State.onWire_congr (h : s.onWire r w n) (hrec : t.window.record = s.window.record) (hr : t.recipes = s.recipes)
    (hw : t.head.wire = s.head.wire) (hu : t.head.unit = s.head.unit) : t.onWire r w n := by
  obtain ⟨h1, h2, h3⟩ := h
  have hset : t.stripSet = s.stripSet := by
    unfold State.stripSet State.setOf State.activeGen State.priorGen
    rw [hrec, hr]
  refine ⟨hset.trans h1, ?_, hu.trans h3⟩
  unfold State.wireEntry at h2 ⊢
  rw [hset, hw]
  exact h2

/-- The head's part of a bond's end: the judgement, then the step after it or the alarm. -/
def State.concluded (s : State) (b : BondReport) (tried outcome : Tally) (stuck : Bool) (x : WireStep) (k : AlarmKind) :
    State :=
  if stuck then (s.judged b tried outcome stuck).wireStep x else (s.judged b tried outcome stuck).holdFor k .wire

theorem State.endFirstBond_concluded (s : State) (b : BondReport) : s.endFirstBond b =
    s.concluded b .firstAttempted
      (if !(b.pad == .stuck) then .firstNonStick else if b.flagged then .firstFlagged else .firstGood)
      (b.pad == .stuck) .looping .nonStickPad := rfl

theorem State.endSecondBond_concluded (s : State) (b : BondReport) : s.endSecondBond b =
    s.concluded b .secondAttempted
      (if !s.pins.frameContact then .secondNonStick else if b.flagged then .secondFlagged else .secondGood)
      s.pins.frameContact .tail .nonStickLead := rfl

/-- A bond's end, its event over. -/
structure Concludes (s t : State) (b : BondReport) (tried outcome : Tally) (stuck : Bool) (k : AlarmKind)
    (x : HeadState) (g : Stage) (q : Request) (pt : Port) (v : Use) : Prop where
  unit : t.head.unit = s.head.unit
  wire : t.head.wire = s.head.wire
  record : t.window.record = s.window.record
  counters : t.tally.counters = if s.head.untrackedBond then
      ((s.tally.counters.modify tried.index Counter.bump).modify outcome.index Counter.bump).modify 17 Counter.bump
    else (s.tally.counters.modify tried.index Counter.bump).modify outcome.index Counter.bump
  untrackedBond : t.head.untrackedBond = false
  untrackedRun : t.head.untrackedRun
    = if s.head.untrackedBond then min 16 (s.head.untrackedRun + 1) else s.head.untrackedRun
  unlock : s.head.untrackedBond = true → s.head.untrackedRun = 15 → t.alarmOpen .generatorUnlock = true
  rings : t.energy.rings = if stuck then s.ringsWith b.params b.energy else s.energy.rings
  drift : t.alarmOpen .energyDrift = (s.alarmOpen .energyDrift || (stuck && s.drifts b.params b.energy))
  goesOn : stuck = true → s.wireFine s.pins = true → t.head.enabled = false ∧ t.head.state = x ∧ t.head.stage = g
    ∧ q ∈ t.out ∧ t.due = s.due ++ [⟨pt, v, true⟩]
  holds : stuck = false → t.head.state = .held ∧ t.head.heldFor = .alarm ∧ t.head.next = .wire ∧ t.head.enabled = false
    ∧ t.alarmOpen k = true

theorem State.concluded_concludes (old : State) {b : BondReport} {tried outcome : Tally} {stuck : Bool} {y : WireStep}
    {k : AlarmKind} {x : HeadState} {g : Stage} {q : Request} {pt : Port} {v : Use}
    (ho : s.operating = true) (hc : s.agenda.calm = true) (hw : s.line.waiting = []) (hon : s.onWire r w n)
    (h1 : .energyDrift ≠ k) (h2 : .generatorUnlock ≠ k)
    (hy : ∀ j : State, j.onWire r w n → j.head.surface = s.head.surface → j.beginStep y = j.stepped x g q pt v) :
    Concludes s (State.finish old (s.concluded b tried outcome stuck y k).settle) b tried outcome stuck k x g q pt v := by
  have hj := State.judged_judged ho b tried outcome stuck
  have hfollow : ∀ t, t = State.finish old (s.concluded b tried outcome stuck y k).settle →
      SameVerdict t (s.judged b tried outcome stuck)
      ∧ (stuck = true → s.wireFine s.pins = true → t.head = (s.judged b tried outcome stuck).head.inStep x g ∧ q ∈ t.out
          ∧ t.due = s.due ++ [⟨pt, v, true⟩])
      ∧ (stuck = false → t.head = (s.judged b tried outcome stuck).head.heldWith .wire ∧ t.alarmOpen k = true) := by
    rintro t rfl
    unfold State.concluded
    generalize s.judged b tried outcome stuck = j at hj
    have hjo : j.operating = true := hj.operating.trans ho
    have hjc : j.agenda.calm = true := by rw [hj.agenda]; exact hc
    have hju : j.head.unit = some n := by rw [hj.head]; exact hon.2.2
    have hjon : j.onWire r w n :=
      State.onWire_congr hon hj.record hj.recipes (by rw [hj.head]) (by rw [hj.head])
    obtain ⟨hdue, hjn⟩ := hj.due (State.noRecordWaits_nil hw)
    have hfine : j.wireFine j.pins = s.wireFine s.pins := by
      unfold State.wireFine
      rw [hj.head, hj.pins]
    cases stuck with
    | false =>
      obtain ⟨hv, hh, hk⟩ := State.holdFor_over old .wire hjo hjc (by rw [hju]; rfl) h1 h2
      exact ⟨hv, nofun, fun _ => ⟨hh, hk⟩⟩
    | true =>
      rw [if_pos rfl]
      cases hf : s.wireFine s.pins with
      | false =>
        rw [State.wireStep_out y (hfine.trans hf)]
        obtain ⟨hv, -, -⟩ := State.holdFor_over (s := { j with head.wireOut := false }) (k := .wireOut) old (.step y)
          hjo hjc (by rw [show ({ j with head.wireOut := false } : State).head.unit = _ from hju]; rfl)
          (by decide) (by decide)
        exact ⟨hv.trans ⟨rfl, rfl, rfl, rfl, rfl, rfl, rfl, rfl, rfl⟩, nofun, nofun⟩
      | true =>
        rw [State.wireStep_fine y (hfine.trans hf), hy j hjon (by rw [hj.head])]
        obtain ⟨hv, hh, hq, hd⟩ := State.stepped_over old (x := x) (g := g) (q := q) (pt := pt) (v := v) hjc hjn
        exact ⟨hv, fun _ _ => ⟨hh, hq, by rw [hd, hdue]⟩, nofun⟩
  obtain ⟨hv, hgo, hhold⟩ := hfollow _ rfl
  generalize State.finish old (s.concluded b tried outcome stuck y k).settle = t at hv hgo hhold
  have hh := hj.head
  exact
    { unit := hv.unit.trans (by rw [hh])
      wire := hv.wire.trans (by rw [hh])
      record := hv.record.trans hj.record
      counters := hv.counters.trans hj.counters
      untrackedBond := hv.untrackedBond.trans (by rw [hh])
      untrackedRun := hv.untrackedRun.trans (by rw [hh])
      unlock := fun hb hr => hv.unlock.trans (hj.unlock hb hr)
      rings := hv.rings.trans hj.rings
      drift := hv.drift.trans hj.drift
      goesOn := fun hs hf => by
        obtain ⟨h, hq, hd⟩ := hgo hs hf
        rw [h, hh]
        exact ⟨rfl, rfl, rfl, hq, hd⟩
      holds := fun hs => by
        obtain ⟨h, hk⟩ := hhold hs
        rw [h, hh]
        exact ⟨rfl, rfl, rfl, rfl, hk⟩ }

/-- The same in the words of a verdict: the ring and what follows where the bond stuck, the alarm where it did not. -/
theorem Concludes.outcome {b : BondReport} {tried outcome : Tally} {st : Bool} {k : AlarmKind} {x : HeadState} {g : Stage}
    {q : Request} {pt : Port} {v : Use} {stuck drift : Prop} [Decidable drift] {rings : List Ring}
    (h : Concludes s t b tried outcome st k x g q pt v) (hst : st = true ↔ stuck)
    (hr : s.ringsWith b.params b.energy = rings) (hd : s.drifts b.params b.energy = decide drift) :
    (stuck → t.energy.rings = rings ∧ t.alarmOpen .energyDrift = (s.alarmOpen .energyDrift || decide drift)
        ∧ (s.wireFine s.pins = true → t.head.enabled = false ∧ t.head.state = x ∧ t.head.stage = g ∧ q ∈ t.out
          ∧ t.due = s.due ++ [⟨pt, v, true⟩]))
      ∧ (¬ stuck → t.energy.rings = s.energy.rings ∧ t.alarmOpen .energyDrift = s.alarmOpen .energyDrift
        ∧ t.head.state = .held ∧ t.head.heldFor = .alarm ∧ t.head.next = .wire ∧ t.head.enabled = false
        ∧ t.alarmOpen k = true) := by
  have hrings := h.rings
  have hdrift := h.drift
  refine ⟨fun hs => ?_, fun hs => ?_⟩
  · have e := hst.mpr hs
    rw [e, if_pos rfl, hr] at hrings
    rw [e, Bool.true_and, hd] at hdrift
    exact ⟨hrings, hdrift, h.goesOn e⟩
  · have e : st = false := by
      rw [Bool.eq_false_iff]
      exact fun c => hs (hst.mp c)
    rw [e, if_neg (by decide)] at hrings
    rw [e, Bool.false_and, Bool.or_false] at hdrift
    exact ⟨hrings, hdrift, h.holds e⟩

end

/-! ### The numbers of a bond's end (R66, R67, R69 to R71) -/

section
variable {s : State} {b : BondSet} {sum count : Nat}

/-- The bond has reached its target energy (R66). -/
def reachesTarget (b : BondSet) (sum count : Nat) : Bool :=
  b.energyMode && decide (300 ≤ count) && decide (2000000 * b.eTarget ≤ sum + 1000000)

theorem reachesTarget_iff : reachesTarget b sum count = true
    ↔ b.energyMode = true ∧ 300 ≤ count ∧ 2000000 * b.eTarget ≤ sum + 1000000 := by
  simp [reachesTarget, and_assoc]

/-- The bond ends by its time, or by its energy; SHORT where it meant to reach its energy and has not (R66, R67). -/
theorem endTest_some (h : b.time * 100 ≤ count ∨ reachesTarget b sum count = true) :
    endTest b sum count = some (b.energyMode && !reachesTarget b sum count) := by
  unfold endTest
  cases hm : b.energyMode with
  | false =>
    have hn : reachesTarget b sum count = false := by simp [reachesTarget, hm]
    have ht : b.time * 100 ≤ count := h.resolve_right (by rw [hn]; decide)
    simp [ht]
  | true =>
    by_cases hr : 300 ≤ count ∧ 2000000 * b.eTarget ≤ sum + 1000000
    · have ht : reachesTarget b sum count = true := reachesTarget_iff.mpr ⟨hm, hr⟩
      simp [hr, ht]
    · have hn : reachesTarget b sum count = false := by
        rw [Bool.eq_false_iff]
        exact fun e => hr (reachesTarget_iff.mp e).2
      have ht : b.time * 100 ≤ count := h.resolve_right (by rw [hn]; decide)
      simp [hr, hn, ht]

/-- A value held at 65,535, with its SAT flag (R69). -/
theorem heldAt_eq (x : Nat) :
    (if 65535 < x then (65535, true) else (x, false)) = (min 65535 x, decide (65535 < x)) := by
  split
  · next h => rw [Nat.min_eq_left (Nat.le_of_lt h), decide_eq_true h]
  · next h => rw [Nat.min_eq_right (Nat.le_of_not_lt h), decide_eq_false h]

theorem bondEnergy_eq (sum : Nat) : bondEnergy sum
    = (min 65535 ((sum + 1000000) / 2000000), decide (65535 < (sum + 1000000) / 2000000)) := heldAt_eq _

theorem BondReport.energy_mk (f : Bool) (x : Nat) (g : Bool) (v : PadVerdict) (q : OpenParams) :
    (⟨f, x, g, v, q⟩ : BondReport).energy = x := rfl

theorem BondReport.flagged_mk (f : Bool) (x : Nat) (g : Bool) (v : PadVerdict) (q : OpenParams) :
    (⟨f, x, g, v, q⟩ : BondReport).flagged = g := rfl

theorem Prod.fst_of_eq {α β : Type} {a : α × β} {x : α} {y : β} (h : a = (x, y)) : a.1 = x := by rw [h]

/-- The reported energy (R69). Proved through `energy_mk`: a kernel that unfolds the two sides' divisions would count. -/
theorem Energy.report_energy (e : Energy) (q : OpenParams) (short : Bool) :
    (e.report q short).energy = min 65535 ((e.sum + 1000000) / 2000000) :=
  (BondReport.energy_mk _ _ _ _ _).trans (Prod.fst_of_eq (bondEnergy_eq e.sum))

theorem Energy.report_flagged (e : Energy) (q : OpenParams) (short : Bool) : (e.report q short).flagged
    = flagged (energyVerdict (bondEnergy e.sum).1 q.params.eLo q.params.eHi) short (bondEnergy e.sum).2 :=
  BondReport.flagged_mk _ _ _ _ _

theorem flagged_iff (e lo hi : Nat) (short sat : Bool) : flagged (energyVerdict e lo hi) short sat = true
    ↔ e < lo ∨ hi < e ∨ sat = true ∨ short = true := by
  have hv : (energyVerdict e lo hi != .inside) = true ↔ e < lo ∨ hi < e := by
    unfold energyVerdict
    split
    · next h => simp [h]
    · next h =>
      split
      · next h2 => simp [h2]
      · next h2 => simp [h, h2]
  simp only [flagged, Bool.or_eq_true, hv]
  tauto

theorem padCheck_stuck_iff (dMin iFloor refSum tailSum count : Nat) :
    (padCheck dMin iFloor refSum tailSum count == .stuck) = true
      ↔ dMin = 0 ∨ (iFloor ≤ refSum / 200 ∧ dMin ≤ padDrop (refSum / 200) (tailSum / (count / 4))) := by
  unfold padCheck
  split
  · next h => simp [h]
  · next h =>
    split
    · next h2 => simp [h, Nat.not_le.mpr h2]
    · next h2 =>
      split
      · next h3 => simp [h3, Nat.le_of_not_lt h2]
      · next h3 => simp [h, h3]

end

section
variable {s : State} {p : Pins} {q : OpenParams} {v i : Nat}

/-- The sample that ends the bond: it is summed, the bond closed with its energy, and the head takes the report (R64,
R70). -/
def State.closed (s : State) (p : Pins) (q : OpenParams) (e : Energy) (short : Bool) : State :=
  { s.begin_ p with energy := e.ended s.head.wire (e.report q short) }

theorem exec_sampleEnds (ho : s.operating = true) (hq : s.energy.params = some q) {short : Bool}
    (he : endTest q.params (s.energy.addSample v i).sum (s.energy.addSample v i).count = some short) :
    exec (.transducerSample v i p) s = .next (State.finish s
      (if s.energy.status == .openFirst then
        (s.closed p q (s.energy.addSample v i) short).endFirstBond ((s.energy.addSample v i).report q short)
      else (s.closed p q (s.energy.addSample v i) short).endSecondBond ((s.energy.addSample v i).report q short)).settle) := by
  have h : exec (.transducerSample v i p) s = _ := event_operates _ ho
  rw [h]
  have ht : (s.begin_ p).takeSample v i
      = ({ s.begin_ p with energy := s.energy.addSample v i } : State).endBond q short := by
    unfold State.takeSample
    rw [show (s.begin_ p).energy.params = some q from hq]
    show (match endTest q.params (s.energy.addSample v i).sum (s.energy.addSample v i).count with
      | none => _ | some short => _) = _
    rw [he]
    rfl
  rw [ht]
  rfl

/-- The ring after a bond's end (R74). -/
theorem State.ringWith_eq (s : State) (q : OpenParams) (e : Nat) : s.ringWith q e = ⟨q.generation,
    ((if (s.energy.rings.getD q.set ⟨0, []⟩).tag = q.generation then (s.energy.rings.getD q.set ⟨0, []⟩).energies
      else []) ++ [e]).drop ((if (s.energy.rings.getD q.set ⟨0, []⟩).tag = q.generation then
        (s.energy.rings.getD q.set ⟨0, []⟩).energies else []).length + 1 - 8)⟩ := rfl

end

section
variable {st fl : Bool} {stuck flag : Prop} [Decidable stuck] [Decidable flag]

/-- The tally of a first bond's outcome (R196). -/
theorem firstOutcome_index (hs : st = true ↔ stuck) (hf : fl = true ↔ flag) :
    (if !st then Tally.firstNonStick else if fl then .firstFlagged else .firstGood).index
      = 1 + (if ¬ stuck then 3 else if flag then 2 else 1) := by
  by_cases h : stuck
  · by_cases k : flag
    · simp [hs.mpr h, hf.mpr k, h, k, Tally.index]
    · have e : fl = false := Bool.eq_false_iff.mpr fun c => k (hf.mp c)
      simp [hs.mpr h, e, h, k, Tally.index]
  · have e : st = false := Bool.eq_false_iff.mpr fun c => h (hs.mp c)
    simp [e, h, Tally.index]

/-- The tally of a second bond's outcome (R196). -/
theorem secondOutcome_index (hs : st = true ↔ stuck) (hf : fl = true ↔ flag) :
    (if !st then Tally.secondNonStick else if fl then .secondFlagged else .secondGood).index
      = 6 + (if ¬ stuck then 3 else if flag then 2 else 1) := by
  by_cases h : stuck
  · by_cases k : flag
    · simp [hs.mpr h, hf.mpr k, h, k, Tally.index]
    · have e : fl = false := Bool.eq_false_iff.mpr fun c => k (hf.mp c)
      simp [hs.mpr h, e, h, k, Tally.index]
  · have e : st = false := Bool.eq_false_iff.mpr fun c => h (hs.mp c)
    simp [e, h, Tally.index]

end

/-- Settles O34: the verdicts, the tallies, the ring and what follows a bond's end. -/
theorem bondEndIsJudged : Obligations.BondEndIsJudged := by
  refine ⟨fun v i p s q r w n ho hq hopen hon hw => ?bond, fun p s ho => ⟨?lock, ?unlock⟩⟩
  case lock => exact ⟨_, event_operates _ ho, State.finish_settle_quiet rfl rfl⟩
  case unlock =>
    have hne : (s.energy.status != .closed) = decide (s.energy.status ≠ .closed) := by
      cases s.energy.status <;> rfl
    rw [← hne]
    exact ⟨_, event_operates _ ho, State.finish_settle_quiet rfl rfl⟩
  case bond =>
    intro e first full reached exact energy flag iRef iFin drop stuck held old ring mean middle drift hend
    have hreach : reachesTarget q.params e.sum e.count = true ↔ reached := reachesTarget_iff
    have hx := exec_sampleEnds (p := p) ho hq (endTest_some (hend.imp_right hreach.mpr))
    generalize hshort : (q.params.energyMode && !reachesTarget q.params e.sum e.count) = short at hx
    generalize hb : e.report q short = b at hx
    have hparams : b.params = q := by rw [← hb]; rfl
    have henergy : b.energy = energy := hb ▸ e.report_energy q short
    have hflag : b.flagged = true ↔ flag := by
      have hsh : short = true ↔ q.params.energyMode = true ∧ ¬ reached := by
        rw [← hshort, Bool.and_eq_true, Bool.not_eq_true', ← hreach, Bool.not_eq_true]
      rw [← hb, Energy.report_flagged, bondEnergy_eq, flagged_iff, hsh, decide_eq_true_eq]
    have hpad : (b.pad == .stuck) = true ↔ (q.params.dMin = 0 ∨ (q.params.iFloor ≤ iRef ∧ q.params.dMin ≤ drop)) := by
      rw [← hb]
      exact padCheck_stuck_iff _ _ _ _ _
    have hring : s.ringWith b.params b.energy = ⟨q.generation, ring⟩ := by
      rw [State.ringWith_eq, hparams, henergy]
    have hdrift : (s.closed p q e short).drifts b.params b.energy = decide drift := by
      rw [State.drifts_congr (t := s.closed p q e short) (s := s) rfl]
      unfold State.drifts
      rw [hring, hparams, Bool.eq_iff_iff]
      simp [driftExists, drift, mean, middle]
    have hrings : (s.closed p q e short).ringsWith b.params b.energy
        = s.energy.rings.set q.set ⟨q.generation, if drift then [] else ring⟩ := by
      have hr : (s.closed p q e short).ringWith b.params b.energy = ⟨q.generation, ring⟩ := hring
      have hsame : (s.closed p q e short).energy.rings = s.energy.rings := rfl
      unfold State.ringsWith
      rw [hdrift, hr, hparams, hsame]
      simp
    have hon1 : (s.closed p q e short).onWire r w n := hon
    by_cases hfirst : s.energy.status = .openFirst
    · have hstuck : (b.pad == .stuck) = true ↔ stuck := by
        show _ ↔ (if first then _ else _)
        rw [if_pos hfirst]
        exact hpad
      rw [if_pos (by rw [hfirst]; rfl), State.endFirstBond_concluded] at hx
      have hc := State.concluded_concludes s (s := s.closed p q e short) (b := b) (tried := .firstAttempted)
        (outcome := if !(b.pad == .stuck) then .firstNonStick else if b.flagged then .firstFlagged else .firstGood)
        (stuck := b.pad == .stuck) (y := .looping) (k := .nonStickPad) ho rfl hw hon1 (by decide) (by decide)
        fun j _ _ => j.beginStep_looping
      obtain ⟨hdo, hnot⟩ := hc.outcome hstuck hrings hdrift
      refine ⟨_, hx, hc.unit.trans hon.2.2, hc.wire, hc.record, ?_, hc.untrackedBond, hc.untrackedRun, hc.unlock,
        fun hst => ?_, fun hst => ?_⟩
      · refine hc.counters.trans ?_
        rw [firstOutcome_index hstuck hflag]
        rw [if_pos hfirst]
        rfl
      · obtain ⟨h1, h2, h3⟩ := hdo hst
        refine ⟨h1, h2, fun hf => ?_⟩
        rw [if_pos hfirst]
        exact h3 hf
      · rw [if_pos hfirst]
        exact hnot hst
    · have hstuck : p.frameContact = true ↔ stuck := by
        show _ ↔ (if first then _ else _)
        rw [if_neg hfirst]
      rw [if_neg (by simpa using hfirst), State.endSecondBond_concluded] at hx
      have hc := State.concluded_concludes s (s := s.closed p q e short) (b := b) (tried := .secondAttempted)
        (outcome := if !p.frameContact then .secondNonStick else if b.flagged then .secondFlagged else .secondGood)
        (stuck := p.frameContact) (y := .tail) (k := .nonStickLead) ho rfl hw hon1 (by decide) (by decide)
        fun j hj hsurf => (State.beginStep_tail hj).trans (by
          unfold State.surfaceHeight
          rw [hsurf])
      obtain ⟨hdo, hnot⟩ := hc.outcome hstuck hrings hdrift
      refine ⟨_, hx, hc.unit.trans hon.2.2, hc.wire, hc.record, ?_, hc.untrackedBond, hc.untrackedRun, hc.unlock,
        fun hst => ?_, fun hst => ?_⟩
      · refine hc.counters.trans ?_
        rw [secondOutcome_index hstuck hflag]
        rw [if_neg hfirst]
        rfl
      · obtain ⟨h1, h2, h3⟩ := hdo hst
        refine ⟨h1, h2, fun hf => ?_⟩
        rw [if_neg hfirst]
        exact h3 hf
      · rw [if_neg hfirst]
        exact hnot hst

end Sys2Proof.Machine

/-! ## O38: the unit boundary (R53) -/

/-! ### The strip record after its unit is done (R4, R10) -/

namespace Sys2Proof.Machine

section
variable {r : StripRecord} {n m : Nat} {e x : UnitEntry}

/-- The unit is left to do. -/
def UnitEntry.left (e : UnitEntry) : Bool := e.state == .opened || e.state == .partialDone

theorem UnitEntry.left_iff : e.left = true ↔ e.state = .opened ∨ e.state = .partialDone := by
  simp [UnitEntry.left]

theorem StripRecord.entry_iff : r.entry n = some e ↔ n ≠ 0 ∧ r.units[n - 1]? = some e := by
  unfold StripRecord.entry
  split
  · next h => simp [h]
  · next h => simp [h]

/-- A unit that is done is one fewer to do. -/
theorem StripRecord.finishUnit_oNow (h : r.entry n = some e) (he : e.state = .opened ∨ e.state = .partialDone)
    (stn : Nat) : (r.finishUnit n stn .done).oNow = r.oNow - 1 := by
  obtain ⟨-, hu⟩ := StripRecord.entry_iff.mp h
  obtain ⟨hlt, hget⟩ := List.getElem?_eq_some_iff.mp hu
  rw [r.finishUnit_of_unfinished h he]
  have hp : (e.state == .opened || e.state == .partialDone) = true := UnitEntry.left_iff.mpr he
  show (r.units.set (n - 1) ⟨.done, stn⟩).countP _ = r.units.countP _ - 1
  rw [List.countP_set hlt, hget, hp]
  simp

/-- The first unit from a place on that is left to do. -/
theorem lowestOpen_eq (k : Nat) (es : List UnitEntry) (j : Nat) (hj : es[j]? = some x) (hx : x.left = true)
    (hno : ∀ i y, i < j → es[i]? = some y → y.left = false) : lowestOpen k es = some (k + j) := by
  induction es generalizing k j with
  | nil => simp at hj
  | cons a es ih =>
    have ha : lowestOpen k (a :: es) = if a.left then some k else lowestOpen (k + 1) es := rfl
    rw [ha]
    cases j with
    | zero =>
      obtain rfl : a = x := by simpa using hj
      simp [hx]
    | succ j =>
      have hf : a.left = false := hno 0 a (by omega) (by simp)
      rw [hf, if_neg (by decide), ih (k + 1) j (by simpa using hj) fun i y hi hy => hno (i + 1) y (by omega) (by simpa using hy)]
      congr 1
      omega

theorem lowestOpen_none (k : Nat) {es : List UnitEntry} (h : es.countP UnitEntry.left = 0) : lowestOpen k es = none := by
  induction es generalizing k with
  | nil => rfl
  | cons a es ih =>
    have ha : lowestOpen k (a :: es) = if a.left then some k else lowestOpen (k + 1) es := rfl
    rw [List.countP_eq_zero] at h
    rw [ha, if_neg (h a List.mem_cons_self), ih]
    rw [List.countP_eq_zero]
    exact fun y hy => h y (List.mem_cons_of_mem _ hy)

theorem StripRecord.oNow_eq (r : StripRecord) : r.oNow = r.units.countP UnitEntry.left := rfl

/-- The lowest slot that is EMPTY. -/
theorem emptySlot_eq (k : Nat) (xs : List OutSlot) (j : Nat) (hj : xs[j]? = some .empty)
    (hno : ∀ i, i < j → xs[i]? ≠ some .empty) : emptySlot k xs = some (k + j) := by
  induction xs generalizing k j with
  | nil => simp at hj
  | cons a xs ih =>
    have ha : emptySlot k (a :: xs) = if a == .empty then some k else emptySlot (k + 1) xs := rfl
    rw [ha]
    cases j with
    | zero =>
      obtain rfl : a = .empty := by simpa using hj
      simp
    | succ j =>
      have hne : a ≠ .empty := fun c => hno 0 (by omega) (by simp [c])
      rw [if_neg (by simpa using hne), ih (k + 1) j (by simpa using hj) fun i hi hy => hno (i + 1) (by omega) (by simpa using hy)]
      congr 1
      omega

/-- Another unit starts at the same wire. -/
theorem StripRecord.finishUnit_startWire (h : r.entry n = some e) (he : e.state = .opened ∨ e.state = .partialDone)
    (hm : m ≠ n) (stn : Nat) : (r.finishUnit n stn .done).startWire m = r.startWire m := by
  rw [r.finishUnit_of_unfinished h he]
  have hf : (r.partials.filter (fun x => x.1 != n)).find? (fun p => p.1 == m) = r.partials.find? (fun p => p.1 == m) := by
    rw [List.find?_filter]
    congr 1
    funext p
    by_cases hp : p.1 = m
    · simp [hp, hm]
    · simp [hp]
  unfold StripRecord.startWire
  rw [hf]

end

end Sys2Proof.Machine

/-! ### The state at the start of a boundary (R46, R53, R77) -/

namespace Sys2Proof.Machine

/-- `d` is `v` once the wire that completes unit `n` is done: tallied, counted, the unit DONE (R4, R46, R82). -/
structure UnitDone (d v : State) (rec : StripRecord) (b : Recipe) (n : Nat) : Prop where
  same : d = { v with
    line := d.line, panel := d.panel, out := d.out, due := d.due, agenda := d.agenda, log.service := d.log.service
    energy := d.energy, tally := d.tally
    head := { v.head.wireCounted b with unit := none, wire := 0, firstWire := 0, doneUnit := some n }
    window := { v.window with
      record := some (rec.finishUnit n v.stn .done), doneHere := v.window.doneHere + 1
      recordQueued := d.window.recordQueued } }
  agenda : d.agenda = { v.agenda with beacon := d.agenda.beacon }
  peers : d.line.peers = v.line.peers

section
variable {s t d v u old : State} {rec : StripRecord} {r b : Recipe} {w : WireEntry} {n : Nat} {e : UnitEntry}

theorem News.peers (h : News t s) : t.line.peers = s.line.peers := congrArg Ledger.peers h.1

theorem State.completeUnit_unitDone (hw : v.onWire r w n) (hb : v.activeSet = some b) (hrec : v.window.record = some rec) :
    UnitDone v.wireDone.completeUnit v rec b n := by
  have hp := State.wireDone_posts hb
  have hc : LineChange v.wireDone { v.count .wiresCompleted with head := v.head.wireCounted b } := hp.change
  have hn := hp.news.peers
  have hag := hp.agenda
  have hunit : v.wireDone.head.unit = some n := by rw [hp.change.alarm.head]; exact hw.2.2
  rw [State.completeUnit_of_unit hunit]
  generalize v.wireDone = x at hc hn hag
  unfold LineChange at hc
  refine ⟨?_, hag, hn⟩
  rw [hc]
  simp only [State.clearUnit, State.count, State.onRecord, hrec, Option.map_some]
  rfl

end

end Sys2Proof.Machine

/-! ### Room for the OFFER (R98, R191) -/

namespace Sys2Proof.Machine

section
variable {s t u old : State}

/-- The queue has room for a frame beside a beacon that is in it, or may still join it. -/
def State.roomBeside (s : State) : Prop :=
  s.lineFree 2 = true ∨ (s.lineFree 1 = true ∧ s.line.hasBeacon = true)

theorem State.lineFree_iff {n : Nat} : s.lineFree n = true ↔ s.line.txQueue.length + n ≤ Config.txPlaces
    ∧ s.line.waiting = [] ∧ s.operating = true ∧ s.phase ≠ .listening := by
  simp [State.lineFree, and_assoc]

theorem State.roomBeside.free (h : s.roomBeside) : s.lineFree 1 = true := by
  rcases h with h | ⟨h, -⟩
  · obtain ⟨h1, h2⟩ := State.lineFree_iff.mp h
    exact State.lineFree_iff.mpr ⟨by omega, h2⟩
  · exact h

/-- A queued beacon keeps its place (R191). -/
theorem rebeacon_has (q : List TxFrame) (f : Frame) (hf : f.kind = .beacon)
    (h : q.any (fun t => t.frame.kind == .beacon) = true) :
    (q.map (fun t => if t.frame.kind == .beacon then { t with frame := f } else t)).any
      (fun t => t.frame.kind == .beacon) = true := by
  obtain ⟨x, hx, hk⟩ := List.any_eq_true.mp h
  rw [List.any_map, List.any_eq_true]
  have hk' := eq_of_beq hk
  exact ⟨x, hx, by simp [hk', hf]⟩

theorem State.placeBeacon_roomBeside (h : s.roomBeside) : s.placeBeacon.roomBeside := by
  obtain ⟨hlen, hw, ho, hl⟩ := State.lineFree_iff.mp h.free
  cases hb : s.line.hasBeacon with
  | true =>
    have e : s.placeBeacon = { s with line.txQueue := s.line.txQueue.map (fun t =>
        if t.frame.kind == .beacon then { t with frame := s.beaconFrame } else t) } := by
      simp [State.placeBeacon, ho, hb]
    rw [e]
    refine .inr ⟨State.lineFree_iff.mpr ⟨?_, hw, ho, hl⟩, rebeacon_has _ _ rfl hb⟩
    simpa using hlen
  | false =>
    obtain ⟨hlen2, -⟩ := State.lineFree_iff.mp (h.resolve_right (by rw [hb]; simp))
    obtain ⟨x, o, e⟩ := State.placeBeacon_placed ho hl (by omega) hb hw
    rw [e]
    refine .inr ⟨State.lineFree_iff.mpr ⟨?_, hw, ho, hl⟩, ?_⟩
    · show (s.line.txQueue ++ [_]).length + 1 ≤ _
      rw [List.length_append]
      exact hlen2
    · show (s.line.txQueue ++ [_]).any _ = true
      rw [List.any_append]
      simp [State.beaconFrame]

theorem State.queueBeacon_roomBeside (h : s.roomBeside) : s.queueBeacon.roomBeside := State.placeBeacon_roomBeside h

theorem State.roomBeside_congr (h : s.roomBeside) (hl : t.line = s.line) (hp : t.phase = s.phase) (hd : t.dup = s.dup) :
    t.roomBeside := by
  unfold State.roomBeside State.lineFree State.operating at h ⊢
  rw [hl, hp, hd]
  exact h

/-- The wire's completion places a beacon at most, beside which the OFFER has room. -/
theorem State.wireDone_roomBeside {b : Recipe} (hb : s.activeSet = some b) (h : s.lineFree 2 = true) :
    s.wireDone.roomBeside := by
  have hb' : (s.count .wiresCompleted).activeSet = some b := hb
  have h0 : s.roomBeside := .inl h
  unfold State.wireDone State.advanceWireCount
  rw [hb']
  dsimp only
  split
  · exact State.queueBeacon_roomBeside (State.roomBeside_congr h0 rfl rfl rfl)
  · exact State.roomBeside_congr h0 rfl rfl rfl

/-! ### What the line balancing reads (R93, R94, R97) -/

theorem State.beaconOf_congr (hp : t.line.peers = s.line.peers) (n : Nat) : t.beaconOf n = s.beaconOf n := by
  unfold State.beaconOf State.isPresent State.peer
  rw [hp]

theorem State.bDown_congr (hs : t.straps = s.straps) (hp : t.line.peers = s.line.peers) : t.bDown = s.bDown := by
  have hfuel : ∀ k n, t.bDownFrom k n = s.bDownFrom k n := by
    intro k
    induction k with
    | zero => exact fun _ => rfl
    | succ k ih =>
      intro n
      have hpres : t.isPresent n = s.isPresent n := by
        unfold State.isPresent State.peer
        rw [hp]
      unfold State.bDownFrom
      rw [hpres, State.beaconOf_congr hp]
      simp only [ih]
  unfold State.bDown State.isEnd State.stn
  rw [hs, hfuel]

theorem State.offerable_congr (hs : t.straps = s.straps) (hp : t.line.peers = s.line.peers)
    (hw : t.window.state = s.window.state) (hf : t.window.freshWait = s.window.freshWait)
    (ha : t.alarms = s.alarms) : t.offerable = s.offerable := by
  unfold State.offerable State.isEnd State.windowAlarm State.holding State.stn
  rw [State.beaconOf_congr hp, hs, hw, hf, ha]

/-! ### What follows a boundary that leaves the head PARKED -/

/-- Entering PARKED asks for an application point, R38's test and, after a warm restart, the feed conditions. -/
theorem State.enterParked_asks (s : State) : s.enterParked.agenda
    = { s.agenda with point := true, head := true, feed := s.enterParked.agenda.feed } := by
  unfold State.enterParked State.feedAfterParking
  dsimp only
  split
  · rfl
  · split <;> rfl

theorem State.enterParked_frame (s : State) : s.enterParked = { s with
    head := s.enterParked.head, agenda := s.enterParked.agenda, out := s.enterParked.out, due := s.enterParked.due } := by
  unfold State.enterParked State.feedAfterParking
  dsimp only
  split
  · rfl
  · split <;> rfl

theorem State.enterParked_unit (s : State) : s.enterParked.head.unit = s.head.unit := by
  unfold State.enterParked State.feedAfterParking
  dsimp only
  split
  · rfl
  · split <;> rfl

/-- With no activation due, a window that is not EMPTY and no unit to start, a pull-in cycle at most is started. -/
theorem State.settle_parked (hp : u.agenda.place = false) (hf : u.agenda.full = false) (hs : u.agenda.strip = false)
    (ho : u.agenda.port = false) (hd : u.recipes.pending.due = none) (hw : u.window.state ≠ .empty)
    (hu : u.unitStartable = false) : u.settle = u ∨ (u.settle = u.startCycle .pullIn ∧ u.head.state = .parked) := by
  have hpoint : u.settlePoint = u := by
    unfold State.settlePoint
    rw [State.applyDue_of_none hd]
    split <;> rfl
  have hrest : ∀ x : State, x.agenda = u.agenda → x.window = u.window → x.settleStrip.settleFeed.settlePort = x := by
    intro x ha hx
    have hstrip : x.settleStrip = x := by simp [State.settleStrip, ha, hs]
    have hfeed : x.settleFeed = x := by
      have hno : x.feedAllowed = false := by
        unfold State.feedAllowed
        have hne : (x.window.state == .empty) = false := by
          rw [hx]
          exact beq_eq_false_iff_ne.mpr hw
        simp [hne]
      unfold State.settleFeed State.testFeed
      rw [hno]
      split <;> rfl
    rw [hstrip, hfeed]
    simp [State.settlePort, ha, ho]
  unfold State.settle
  split
  · rw [State.settlePlace_of_calm hp hf, hpoint]
    by_cases hc : (u.agenda.head && u.head.state == .parked) = true ∧ u.pullInAllowed = true
    · obtain ⟨hh, hpull⟩ := hc
      have e : u.settleHead = u.startCycle .pullIn := by
        unfold State.settleHead
        rw [if_pos hh, if_neg (by rw [hu]; decide), if_pos hpull]
      refine .inr ⟨by rw [e]; exact hrest _ rfl rfl, ?_⟩
      simp only [Bool.and_eq_true, beq_iff_eq] at hh
      exact hh.2
    · have e : u.settleHead = u := by
        unfold State.settleHead
        split
        · next hh =>
          rw [if_neg (by rw [hu]; decide), if_neg (fun hpull => hc ⟨hh, hpull⟩)]
        · rfl
      exact .inl (by rw [e]; exact hrest _ rfl rfl)
  · exact .inl rfl

/-- The parts that the end of such a boundary leaves. -/
structure Parks (t u : State) : Prop where
  window : t.window = { u.window with recordQueued := t.window.recordQueued }
  outMag : t.outMag = u.outMag
  unit : t.head.unit = u.head.unit
  out : u.out ⊆ t.out
  frames : ∀ q ∈ u.line.txQueue, q.frame.kind ≠ .beacon → q ∈ t.line.txQueue
  state : t.head.state = u.head.state ∨ (u.head.state = .parked ∧ t.head.state = .conditioning)

theorem State.finish_settle_parks (old : State) (hp : u.agenda.place = false) (hf : u.agenda.full = false)
    (hs : u.agenda.strip = false) (ho : u.agenda.port = false) (hd : u.recipes.pending.due = none)
    (hw : u.window.state ≠ .empty) (hu : u.unitStartable = false) : Parks (State.finish old u.settle) u := by
  have hon := State.finish_settle_onward old u hf
  have hc := State.finish_change old u.settle
  rcases State.settle_parked hp hf hs ho hd hw hu with e | ⟨e, hpark⟩
  · rw [e] at hon hc ⊢
    exact ⟨hc.alarm.window, hc.alarm.outMag, congrArg Head.unit hc.alarm.head, hon.out, hon.frames,
      .inl (congrArg Head.state hc.alarm.head)⟩
  · rw [e] at hon hc ⊢
    have hunit : (State.finish old (u.startCycle .pullIn)).head.unit = u.head.unit :=
      (congrArg Head.unit hc.alarm.head :)
    exact ⟨hc.alarm.window, hc.alarm.outMag, hunit, hon.out, hon.frames,
      .inr ⟨hpark, congrArg Head.state hc.alarm.head⟩⟩

end

end Sys2Proof.Machine

/-! ### The boundary's steps out of line hold (R53, R85, R95) -/

namespace Sys2Proof.Machine

/-- The boundary stands at step `k`. -/
def State.atStep (s : State) (k : Nat) : State := { s with head.boundaryStep := k }

/-- The head has selected unit `m` of the strip (R10, R76). -/
def State.onUnit (s : State) (rec : StripRecord) (r : Recipe) (m : Nat) : State :=
  { s with
    head.unit := some m, head.wire := rec.startWire m, head.firstWire := rec.startWire m
    energy.working := some ⟨m, List.replicate r.wires (none, none)⟩ }

section
variable {s t d v u old : State} {rec : StripRecord} {r b : Recipe} {w : WireEntry} {n m : Nat} {e : UnitEntry}

theorem State.boundary1_skips (h : (s.atStep 1).sampleDue = none) (hd : s.recipes.pending.due = none) :
    s.boundary1 = (s.atStep 2).boundary3 := by
  have e : s.boundary1 = (s.atStep 1).boundary2 := by
    unfold State.boundary1
    dsimp only
    rw [show ({ s with head.boundaryStep := 1 } : State).sampleDue = none from h]
    rfl
  rw [e, State.boundary2, show ({ s.atStep 1 with head.boundaryStep := 2 } : State) = s.atStep 2 from rfl,
    State.applyDue_of_none (s := s.atStep 2) hd]

theorem State.boundary3_passes (h : s.head.debt ≤ 0) : s.boundary3 = (s.atStep 3).boundary4 :=
  if_neg (by show ¬ 1 ≤ s.head.debt; omega)

theorem State.boundary4_held (h : s.boundaryAlarm = true) :
    s.boundary4 = (s.atStep 4).enterHeld .boundary (.boundary 4) := if_pos h

theorem State.boundary4_passes (h : s.boundaryAlarm = false) : s.boundary4 = (s.atStep 4).boundary5 :=
  if_neg (by show ¬ s.boundaryAlarm = true; rw [h]; decide)

/-- A strip that is ready and has gone, or with nothing left to do here, leaves the head PARKED (R95). -/
theorem State.boundary5_parks (h : s.passReady = true) (hg : (s.atStep 5).evaluateStrip.window.state ≠ .clamped
      ∨ s.oNow = 0 ∨ s.window.forward = true) : s.boundary5 = (s.atStep 5).evaluateStrip.enterParked := by
  have hn : ¬ ((s.atStep 5).evaluateStrip.window.state = .clamped ∧ s.oNow ≠ 0 ∧ s.alarms.bypass = false
      ∧ s.window.forward = false) := by
    rintro ⟨h1, h2, -, h4⟩
    rcases hg with hg | hg | hg
    · exact hg h1
    · exact h2 hg
    · rw [h4] at hg
      cases hg
  have hr : ¬ (!s.passReady) = true := by rw [h]; decide
  exact (if_neg hr).trans (if_neg hn)

/-- A strip that stays with work left goes on at step 6 (R95). -/
theorem State.boundary5_goesOn (h : s.passReady = false ∨ ((s.atStep 5).evaluateStrip.window.state = .clamped
      ∧ s.oNow ≠ 0 ∧ s.alarms.bypass = false ∧ s.window.forward = false)) :
    s.boundary5 = (s.atStep 5).evaluateStrip.boundary6 := by
  rcases h with h | h
  · exact if_pos (by show (!s.passReady) = true; rw [h]; rfl)
  · show (if (!s.passReady) = true then _ else _) = _
    split
    · rfl
    · exact if_pos h

/-- Step 6 with a unit left to do, out of line hold (R53). -/
theorem State.boundary6_selects {rec : StripRecord} (hr : s.window.record = some rec)
    (hm : lowestOpen 1 rec.units = some m) (hw : s.windsDown = false) (hf : s.window.forward = false)
    (hh : s.alarms.hold = []) : s.boundary6 = (s.atStep 6).selectUnit.startWire := by
  unfold State.boundary6
  simp only [hr, hm]
  rw [if_neg, if_neg]
  · rfl
  · show ¬ (!s.alarms.hold.isEmpty) = true
    rw [hh]
    decide
  · show ¬ (!(some m).isSome || s.windsDown || s.window.forward) = true
    rw [hw, hf]
    simp

theorem State.selectUnit_selects {rec : StripRecord} (hr : s.window.record = some rec) (hs : s.stripSet = some r)
    (hm : lowestOpen 1 rec.units = some m) : s.selectUnit = s.onUnit rec r m := by
  unfold State.selectUnit
  rw [hr, hs]
  dsimp only
  rw [hm]
  rfl

/-! ### The unit done, in the words of the boundary's tests -/

theorem UnitDone.record (h : UnitDone d v rec b n) : d.window.record = some (rec.finishUnit n v.stn .done) := by
  rw [h.same]

theorem UnitDone.head (h : UnitDone d v rec b n) :
    d.head = { v.head.wireCounted b with unit := none, wire := 0, firstWire := 0, doneUnit := some n } := by
  rw [h.same]

theorem UnitDone.alarms (h : UnitDone d v rec b n) : d.alarms = v.alarms := (congrArg State.alarms h.same :)
theorem UnitDone.recipes (h : UnitDone d v rec b n) : d.recipes = v.recipes := (congrArg State.recipes h.same :)
theorem UnitDone.straps (h : UnitDone d v rec b n) : d.straps = v.straps := (congrArg State.straps h.same :)
theorem UnitDone.pins (h : UnitDone d v rec b n) : d.pins = v.pins := (congrArg State.pins h.same :)
theorem UnitDone.pull (h : UnitDone d v rec b n) : d.pull = v.pull := (congrArg State.pull h.same :)
theorem UnitDone.outMag (h : UnitDone d v rec b n) : d.outMag = v.outMag := (congrArg State.outMag h.same :)
theorem UnitDone.winState (h : UnitDone d v rec b n) : d.window.state = v.window.state := by rw [h.same]
theorem UnitDone.forward (h : UnitDone d v rec b n) : d.window.forward = v.window.forward := by rw [h.same]
theorem UnitDone.full (h : UnitDone d v rec b n) : d.log.full = v.log.full := by rw [h.same]

theorem UnitDone.boundaryAlarm (h : UnitDone d v rec b n) : d.boundaryAlarm = v.boundaryAlarm := by
  unfold State.boundaryAlarm
  rw [h.alarms]

theorem UnitDone.windsDown (h : UnitDone d v rec b n) : d.windsDown = v.windsDown := by
  unfold State.windsDown
  rw [h.alarms, h.head]
  rfl

theorem UnitDone.offerable (h : UnitDone d v rec b n) : d.offerable = v.offerable :=
  State.offerable_congr h.straps h.peers h.winState (by rw [h.same]) h.alarms

theorem UnitDone.isEnd (h : UnitDone d v rec b n) : d.isEnd = v.isEnd := by
  unfold State.isEnd
  rw [h.straps]

theorem UnitDone.oNow (h : UnitDone d v rec b n) (hr : v.window.record = some rec) (he : rec.entry n = some e)
    (hs : e.state = .opened ∨ e.state = .partialDone) : d.oNow = v.oNow - 1 := by
  unfold State.oNow
  rw [h.record, hr]
  exact rec.finishUnit_oNow he hs v.stn

/-- The strip is ready to pass on (R94), told from before the wire. -/
theorem UnitDone.passReady_iff (h : UnitDone d v rec b n) (hr : v.window.record = some rec) (he : rec.entry n = some e)
    (hs : e.state = .opened ∨ e.state = .partialDone) (hb : v.alarms.bypass = false) : d.passReady = true
      ↔ v.oNow - 1 = 0 ∨ v.window.forward = true ∨ (1 ≤ v.bDown
        ∧ (v.window.doneHere + 1 + (v.oNow - 1) + v.bDown) / (v.bDown + 1) ≤ v.window.doneHere + 1) := by
  have hdone : d.window.doneHere = v.window.doneHere + 1 := by rw [h.same]
  unfold State.passReady ceilDiv
  rw [h.oNow hr he hs, h.alarms, hb, h.forward, State.bDown_congr h.straps h.peers, hdone]
  simp only [Bool.or_false, Bool.or_eq_true, beq_iff_eq, Bool.and_eq_true, decide_eq_true_eq, or_assoc]
  have hsum : v.window.doneHere + 1 + (v.oNow - 1) + (v.bDown + 1) - 1
      = v.window.doneHere + 1 + (v.oNow - 1) + v.bDown := by omega
  rw [hsum]

theorem StripRecord.finishUnit_keeps (rec : StripRecord) (n stn : Nat) (st : UnitState) :
    rec.finishUnit n stn st = { rec with
      units := (rec.finishUnit n stn st).units, partials := (rec.finishUnit n stn st).partials } := by
  unfold StripRecord.finishUnit
  split
  · split <;> rfl
  · rfl

theorem UnitDone.stripSet (h : UnitDone d v rec b n) (hr : v.window.record = some rec) : d.stripSet = v.stripSet := by
  have hgen : (rec.finishUnit n v.stn .done).generation = rec.generation := by rw [rec.finishUnit_keeps]
  unfold State.stripSet State.setOf State.activeGen State.priorGen
  rw [h.record, hr, h.recipes]
  dsimp only
  rw [hgen]

/-- With the strip not selected no sample is due (R136). -/
theorem UnitDone.noSample (h : UnitDone d v rec b n) (hs : rec.selected = false) (k : Nat) :
    (d.atStep k).sampleDue = none := by
  have hsel : (rec.finishUnit n v.stn .done).selected = false := by rw [rec.finishUnit_keeps]; exact hs
  have hrec : (d.atStep k).window.record = some (rec.finishUnit n v.stn .done) := h.record
  unfold State.sampleDue
  rw [hrec]
  split
  · next hr _ =>
    cases hr
    rw [hsel]
    simp
  · rfl

/-- A sample due on the unit just done (R136). -/
theorem UnitDone.sample (h : UnitDone d v rec b n) (hr : v.window.record = some rec) (hset : v.stripSet = some r)
    (hc : v.pull.capable = true) (hs : rec.selected = true) (ht : rec.taken = false) (hk : rec.skipped = false)
    (hw : r.pullWires ≠ []) (k : Nat) : (d.atStep k).sampleDue = some (n, r.plan) := by
  have hkeep := rec.finishUnit_keeps n v.stn .done
  have hrec : (d.atStep k).window.record = some (rec.finishUnit n v.stn .done) := h.record
  have hst : (d.atStep k).stripSet = some r := (h.stripSet hr).trans hset
  have hdone : (d.atStep k).head.doneUnit = some n := congrArg Head.doneUnit h.head
  have hcap : (d.atStep k).pull.capable = true := (congrArg Pull.capable h.pull).trans hc
  unfold State.sampleDue
  rw [hdone, hrec, hst]
  dsimp only
  rw [hkeep, hcap]
  simp [hs, ht, hk, hw]

end

end Sys2Proof.Machine

/-! ### A boundary whose sample is skipped makes no pull (R136) -/

namespace Sys2Proof.Machine

/-- The head is at other work than a pull, and the pull sample's state is `x`. -/
def State.offPull (s : State) (x : Pull) : Prop := s.pull = x ∧ s.head.state ≠ .pulling

section
variable {s t : State} {x : Pull}

theorem Rests.offPull (h : Rests t s) (k : s.offPull x) : t.offPull x :=
  ⟨h.pull.trans k.1, by rw [h.head]; exact k.2⟩

theorem State.startCycle_offPull (s : State) (o : Occasion) : (s.startCycle o).offPull s.pull :=
  ⟨rfl, HeadState.noConfusion⟩

theorem State.enterParked_offPull (s : State) : s.enterParked.offPull s.pull := by
  unfold State.enterParked State.feedAfterParking
  dsimp only
  split
  · exact ⟨rfl, HeadState.noConfusion⟩
  · split <;> exact ⟨rfl, HeadState.noConfusion⟩

theorem State.startPositioning_offPull (s : State) : s.startPositioning.offPull s.pull := by
  refine ⟨rfl, ?_⟩
  rw [State.startPositioning_head]
  dsimp only
  split <;> exact HeadState.noConfusion

theorem State.startWire_offPull (s : State) : s.startWire.offPull s.pull := by
  unfold State.startWire
  dsimp only
  split
  · exact ⟨rfl, HeadState.noConfusion⟩
  · split
    · exact State.startCycle_offPull _ _
    · unfold State.wireStep State.wireGate
      split
      · exact ⟨(State.holdFor_rests _ _ _).pull, by rw [State.holdFor_head]; exact HeadState.noConfusion⟩
      · exact State.startPositioning_offPull _

theorem State.selectUnit_pull (s : State) : s.selectUnit.pull = s.pull := by
  unfold State.selectUnit
  repeat' split
  all_goals rfl

theorem State.boundary6_offPull (s : State) : s.boundary6.offPull s.pull := by
  unfold State.boundary6
  extract_lets more s6
  split
  · exact State.enterParked_offPull (s.atStep 6)
  · split
    · exact ⟨rfl, HeadState.noConfusion⟩
    · have hsel : (s.atStep 6).selectUnit.pull = s.pull := State.selectUnit_pull _
      exact hsel ▸ State.startWire_offPull _

theorem State.boundary5_offPull (s : State) : s.boundary5.offPull s.pull := by
  have h : (s.atStep 5).evaluateStrip.pull = s.pull := (State.evaluateStrip_rests _).pull
  rw [← h]
  unfold State.boundary5
  dsimp only
  split
  · exact State.boundary6_offPull _
  · split
    · exact State.boundary6_offPull _
    · exact State.enterParked_offPull _

theorem State.boundary3_offPull (s : State) : s.boundary3.offPull s.pull := by
  unfold State.boundary3 State.gatedCycle State.boundary4
  dsimp only
  split
  · split
    · exact ⟨rfl, HeadState.noConfusion⟩
    · exact State.startCycle_offPull _ _
  · split
    · exact ⟨rfl, HeadState.noConfusion⟩
    · exact State.boundary5_offPull _

theorem State.boundary2_offPull (s : State) : s.boundary2.offPull s.pull := by
  have h : (s.atStep 2).applyDue.pull = s.pull := (State.applyDue_rests _).pull
  rw [← h]
  exact State.boundary3_offPull _

theorem State.settleHead_offPull (h : s.offPull x) : s.settleHead.offPull x := by
  obtain ⟨rfl, -⟩ := id h
  unfold State.settleHead
  split
  · split
    · exact s.selectUnit_pull ▸ s.selectUnit.startWire_offPull
    · split
      · exact s.startCycle_offPull _
      · exact h
  · exact h

/-- Nor do the tests at the end of the event. -/
theorem State.finish_settle_offPull (old : State) (h : s.offPull x) : (State.finish old s.settle).offPull x := by
  refine (State.finish_rests old _).offPull ?_
  unfold State.settle
  split
  · have hplace : s.settlePlace = s := if_neg fun c => h.2 c.1
    rw [hplace]
    have hhead := State.settleHead_offPull (s.settlePoint_rests.offPull h)
    exact (State.settlePort_rests _).offPull ((State.settleFeed_rests _).offPull
      ((State.settleStrip_rests _).offPull hhead))
  · exact h

end

end Sys2Proof.Machine

/-! ### Step 1: the sample (R136, R137) -/

namespace Sys2Proof.Machine

section
variable {s : State} {n : Nat} {q : Plan}

/-- The window record is marked skipped (R136). -/
def State.skipSample (s : State) : State := s.onRecord (fun r => { r with skipped := true })

theorem State.boundary1_full (h : (s.atStep 1).sampleDue = some (n, q)) (hh : s.alarms.hold = [])
    (hf : s.log.full = true) : s.boundary1 = (s.atStep 1).skipSample.boundary2 := by
  unfold State.boundary1
  dsimp only
  rw [show ({ s with head.boundaryStep := 1 } : State).sampleDue = some (n, q) from h]
  dsimp only
  rw [if_neg (by simp [State.holding, hh]), if_pos hf]
  rfl

/-- With a place in the pending list the sample's first plan wire begins (R137). -/
theorem State.boundary1_pulls (h : (s.atStep 1).sampleDue = some (n, q)) (hh : s.alarms.hold = [])
    (hf : s.log.full = false) (hp : s.pull.list.length < 16) :
    s.boundary1 = ({ s.atStep 1 with pull.sample := some ⟨n, q, 0, 0, false, false⟩ } : State).startPull := by
  unfold State.boundary1
  dsimp only
  rw [show ({ s with head.boundaryStep := 1 } : State).sampleDue = some (n, q) from h]
  dsimp only
  rw [if_neg (by simp [State.holding, hh]), if_neg (by rw [hf]; decide)]
  unfold State.pullTests
  dsimp only
  have hplace : ({ s.atStep 1 with pull.sample := some ⟨n, q, 0, 0, false, false⟩ } : State).hasPlace = true :=
    decide_eq_true hp
  rw [if_neg (by simp [State.holding, hh])]
  exact if_pos hplace

end

/-! ### Step 5: the pass evaluation (R94, R96, R98, R113) -/

section
variable {s : State} {m : Nat}

/-- The strip as an OFFER of it leaves the window (R98). -/
def State.offering (s : State) : State :=
  { s with window.state := .offered, window.offerTimer := some Config.offerMs }

theorem State.makeOffer_posts (s : State) : Posts s.makeOffer s.offering :=
  (State.submit_posts _ _ _).trans (State.queueBeacon_posts _)

theorem State.makeOffer_queued (h : s.roomBeside) :
    ⟨⟨s.stn + 1, .offer, beBytes 4 s.windowSerial⟩, 0⟩ ∈ s.makeOffer.line.txQueue :=
  State.submit_placed (Nat.le_refl 1)
    (State.queueBeacon_roomBeside (s := s.offering) (State.roomBeside_congr h rfl rfl rfl)).free _ _

/-- The output magazine and the window as the unloading to slot `m` begins (R113, R130). -/
def State.unloading (s : State) (m : Nat) : State :=
  ({ s with
    window.state := .outbound
    outMag.unloader := .unloading
    outMag.target := some m
    outMag.leftWindow := false } : State).elevatorTo m .unloadMove

theorem State.startUnload_posts (h : emptySlot 1 s.outMag.slots = some m) : Posts s.startUnload (s.unloading m) := by
  unfold State.startUnload
  rw [h]
  exact State.queueBeacon_posts _

theorem State.evaluateStrip_offers (h : s.passReady = true) (ho : s.offerable = true) : s.evaluateStrip = s.makeOffer := by
  have he : s.isEnd = false := by
    simp only [State.offerable, Bool.and_eq_true, Bool.not_eq_true'] at ho
    tauto
  unfold State.evaluateStrip
  rw [if_pos h, if_neg (by rw [he]; decide), if_pos ho]

theorem State.evaluateStrip_unloads (h : s.passReady = true) (he : s.isEnd = true) (hc : s.window.state = .clamped)
    (hh : s.alarms.hold = []) (hw : s.windowAlarm = false) (hr : s.outMag.unloader = .ready)
    (hin : .empty ∈ s.outMag.slots) : s.evaluateStrip = s.startUnload := by
  have ha : s.outputAccepts = true := by simp [State.outputAccepts, hr, hin]
  have hhold : s.holding = false := by simp [State.holding, hh]
  unfold State.evaluateStrip
  rw [if_pos h, if_pos he, State.outputAnswer, if_pos ⟨hc, hhold, hw⟩, if_pos ha]

theorem State.evaluateStrip_stays (h : s.passReady = false ∨ (s.offerable = false ∧ s.isEnd = false)) :
    s.evaluateStrip = s := by
  unfold State.evaluateStrip
  rcases h with h | ⟨ho, he⟩
  · rw [h]
    rfl
  · rw [he, ho]
    exact ite_self _

theorem State.unitStartable_of_away (h : s.window.state ≠ .clamped) : s.unitStartable = false := by
  have hb : (s.window.state == .clamped) = false := beq_eq_false_iff_ne.mpr h
  simp [State.unitStartable, hb]

theorem State.unitStartable_of_forward (h : s.window.forward = true) : s.unitStartable = false := by
  simp [State.unitStartable, h]

theorem State.unitStartable_of_noneLeft (h : s.oNow = 0) : s.unitStartable = false := by
  unfold State.unitStartable
  cases hr : s.window.record with
  | none => exact Bool.and_false _
  | some r =>
    have hn : r.units.countP UnitEntry.left = 0 := by
      rw [State.oNow, hr] at h
      exact h
    simp [lowestOpen_none 1 hn]

/-- The strip gives the head no unit to start: it is on its way, has none left, or is forwarded (R38). -/
def State.noUnit (s : State) : Prop := s.window.state ≠ .clamped ∨ s.oNow = 0 ∨ s.window.forward = true

theorem State.noUnit.unitStartable (h : s.noUnit) : s.unitStartable = false := by
  rcases h with h | h | h
  · exact State.unitStartable_of_away h
  · exact State.unitStartable_of_noneLeft h
  · exact State.unitStartable_of_forward h

theorem State.enterParked_window (s : State) : s.enterParked.window = s.window := (congrArg State.window s.enterParked_frame :)
theorem State.enterParked_outMag (s : State) : s.enterParked.outMag = s.outMag := (congrArg State.outMag s.enterParked_frame :)
theorem State.enterParked_line (s : State) : s.enterParked.line = s.line := (congrArg State.line s.enterParked_frame :)
theorem State.enterParked_recipes (s : State) : s.enterParked.recipes = s.recipes :=
  (congrArg State.recipes s.enterParked_frame :)

/-- What a boundary that parks the head leaves of a strip with no unit to start. -/
theorem State.enterParked_parks (old : State) (hc : s.agenda.calm = true) (hd : s.recipes.pending.due = none)
    (hw : s.window.state ≠ .empty) (hu : s.noUnit) : Parks (State.finish old s.enterParked.settle) s.enterParked := by
  obtain ⟨⟨⟨⟨⟨⟨-, -⟩, hstrip⟩, -⟩, hplace⟩, hfull⟩, hport⟩ := by
    simpa only [Agenda.calm, Bool.and_eq_true, Bool.not_eq_true'] using hc
  have hno : s.enterParked.noUnit := by
    unfold State.noUnit State.oNow
    rw [s.enterParked_window]
    exact hu
  refine State.finish_settle_parks old ?_ ?_ ?_ ?_ ?_ ?_ hno.unitStartable
  · rw [s.enterParked_asks]; exact hplace
  · rw [s.enterParked_asks]; exact hfull
  · rw [s.enterParked_asks]; exact hstrip
  · rw [s.enterParked_asks]; exact hport
  · rw [s.enterParked_recipes]; exact hd
  · rw [s.enterParked_window]; exact hw

end

end Sys2Proof.Machine

/-! ### The boundary after a unit done (R53, R54, R85, R94 to R98, R113, R136) -/

namespace Sys2Proof.Machine

theorem State.completeUnit_line (s : State) :
    s.completeUnit.line = s.line ∧ s.completeUnit.phase = s.phase ∧ s.completeUnit.dup = s.dup := by
  unfold State.completeUnit
  split <;> exact ⟨rfl, rfl, rfl⟩

section
variable {old d v : State} {rec : StripRecord} {r b : Recipe} {w : WireEntry} {n m : Nat} {e x : UnitEntry}

/-! #### Step 1 (R136, R137) -/

/-- With the log FULL the sample due is marked skipped, and the head makes no pull (R136). -/
theorem UnitDone.skipped (h : UnitDone d v rec b n) (hc : d.agenda.calm = true) (hh : d.alarms.hold = [])
    (hs : (d.atStep 1).sampleDue = some (n, r.plan)) (hf : d.log.full = true) :
    ∃ r', (State.finish old d.boundary1.settle).window.record = some r' ∧ r'.skipped = true ∧ r'.taken = rec.taken
      ∧ (State.finish old d.boundary1.settle).head.state ≠ .pulling
      ∧ (State.finish old d.boundary1.settle).pull = v.pull := by
  rw [State.boundary1_full hs hh hf]
  have hon := (d.atStep 1).skipSample.boundary2_onward
  have hfull : (d.atStep 1).skipSample.boundary2.agenda.full = false := by
    simp only [Agenda.calm, Bool.and_eq_true, Bool.not_eq_true'] at hc
    exact (congrArg StripView.full hon.strip).trans hc.1.2
  have hrec : (State.finish old (d.atStep 1).skipSample.boundary2.settle).window.record
      = (d.atStep 1).skipSample.window.record :=
    congrArg StripView.record ((State.finish_settle_onward old _ hfull).trans hon).strip
  obtain ⟨hpull, hstate⟩ := State.finish_settle_offPull old (d.atStep 1).skipSample.boundary2_offPull
  refine ⟨{ rec.finishUnit n v.stn .done with skipped := true }, ?_, rfl, ?_, hstate, hpull.trans h.pull⟩
  · rw [hrec]
    show d.window.record.map _ = _
    rw [h.record]
    rfl
  · rw [rec.finishUnit_keeps]

/-- With room in the log and in the pending list the sample's first plan wire begins (R136, R138). -/
theorem State.boundary1_sampled (old : State) (hc : d.agenda.calm = true) (hh : d.alarms.hold = [])
    (hs : (d.atStep 1).sampleDue = some (n, r.plan)) (hf : d.log.full = false) (hp : d.pull.list.length < 16) :
    ∃ t, State.finish old d.boundary1.settle = t ∧ t.head.state = .pulling ∧ t.head.stage = .posZ
      ∧ t.pull.phase = .positioning ∧ t.pull.sample = some ⟨n, r.plan, 0, 0, false, false⟩
      ∧ .move .z 0 .plain ∈ t.out ∧ .move .h 0 .plain ∈ t.out := by
  rw [State.boundary1_pulls hs hh hf hp]
  obtain ⟨hch, hout, -⟩ := State.finish_settle_calm old
    (u := ({ d.atStep 1 with pull.sample := some ⟨n, r.plan, 0, 0, false, false⟩ } : State).startPull) hc
  have hhead := hch.alarm.head
  have hpull : (State.finish old (({ d.atStep 1 with
      pull.sample := some ⟨n, r.plan, 0, 0, false, false⟩ } : State).startPull).settle).pull = _ :=
    (congrArg State.pull (show _ = _ from hch) :)
  refine ⟨_, rfl, congrArg Head.state hhead, congrArg Head.stage hhead, congrArg Pull.phase hpull,
    congrArg Pull.sample hpull, hout ?_, hout ?_⟩
  · exact List.mem_append_left _ (List.mem_append_right _ (List.mem_singleton.mpr rfl))
  · exact List.mem_append_right _ (List.mem_singleton.mpr rfl)

/-! #### Steps 3 and 4 (R54, R85) -/

/-- A debt above 0 has a boundary cycle begin (R85). -/
theorem State.boundary3_cycled (old : State) (hc : d.agenda.calm = true) (hh : d.alarms.hold = [])
    (hdebt : 1 ≤ d.head.debt) :
    ∃ t, State.finish old d.boundary3.settle = t ∧ t.head.state = .conditioning ∧ t.head.stage = .condZ
      ∧ t.head.occasion = .boundary ∧ t.head.sparks = 0 ∧ .move .z 0 .plain ∈ t.out := by
  rw [State.boundary3_cycle hh hdebt]
  obtain ⟨t, ht, hhead, hout⟩ := State.startCycle_settled old .boundary
    (s := { d with head.boundaryStep := 3 }) hc
  refine ⟨t, ht, ?_, ?_, ?_, ?_, hout⟩ <;> rw [hhead] <;> rfl

/-- An alarm that the boundary waits for holds the head there (R54). -/
theorem State.boundary4_holds (old : State) (hc : d.agenda.calm = true) (ha : d.boundaryAlarm = true) :
    ∃ t, State.finish old d.boundary4.settle = t ∧ t.head.state = .held ∧ t.head.heldFor = .boundary
      ∧ t.head.next = .boundary 4 ∧ t.head.unit = d.head.unit := by
  rw [State.boundary4_held ha]
  simp only [Agenda.calm, Bool.and_eq_true, Bool.not_eq_true'] at hc
  have hhead := (State.finish_settle_rests old (s := (d.atStep 4).enterHeld .boundary (.boundary 4)) hc.1.1.2 hc.1.2
    HeadState.noConfusion).head
  refine ⟨_, rfl, ?_, ?_, ?_, ?_⟩ <;> rw [hhead] <;> rfl

/-! #### Step 5 (R94 to R98, R113) -/

/-- A ready strip is offered, and the head parks with no unit (R98). -/
theorem State.boundary5_offers (old : State) (hc : d.agenda.calm = true) (hp : d.recipes.pending.due = none)
    (hr : d.passReady = true) (ho : d.offerable = true) :
    ∃ t, State.finish old d.boundary5.settle = t ∧ t.window.state = .offered ∧ t.window.offerTimer = some 100
      ∧ t.head.unit = d.head.unit
      ∧ (d.roomBeside → ⟨⟨d.stn + 1, .offer, beBytes 4 d.windowSerial⟩, 0⟩ ∈ t.line.txQueue) := by
  have heval := State.evaluateStrip_offers (s := d.atStep 5) hr ho
  have hposts := (d.atStep 5).makeOffer_posts
  have hrests := (d.atStep 5).makeOffer_rests
  have hstate : (d.atStep 5).makeOffer.window.state = .offered := hposts.change.alarm.winState
  have hne : ∀ k, WindowState.offered ≠ k → (d.atStep 5).makeOffer.window.state ≠ k := fun k hk => hstate ▸ hk
  have hpend : (d.atStep 5).makeOffer.recipes = d.recipes := (congrArg State.recipes (show _ = _ from hposts.change) :)
  have htimer : (d.atStep 5).makeOffer.window.offerTimer = some 100 := by
    rw [hposts.change.alarm.window]; rfl
  rw [State.boundary5_parks hr (.inl (by rw [heval]; exact hne _ WindowState.noConfusion)), heval]
  have hpark := State.enterParked_parks old (s := (d.atStep 5).makeOffer) (hposts.calm.trans hc) (by rw [hpend]; exact hp)
    (hne _ WindowState.noConfusion) (.inl (hne _ WindowState.noConfusion))
  refine ⟨_, rfl, ?_, ?_, ?_, fun hroom => ?_⟩
  · rw [hpark.window, State.enterParked_window]; exact hstate
  · rw [hpark.window, State.enterParked_window]; exact htimer
  · rw [hpark.unit, State.enterParked_unit, hrests.head]; rfl
  · refine hpark.frames _ ?_ FrameKind.noConfusion
    rw [State.enterParked_line]
    exact (d.atStep 5).makeOffer_queued (State.roomBeside_congr hroom rfl rfl rfl)

/-- A ready strip at END is unloaded to the lowest EMPTY slot, and the head parks with no unit (R113, R130). -/
theorem State.boundary5_unloads (old : State) (hc : d.agenda.calm = true) (hp : d.recipes.pending.due = none)
    (hr : d.passReady = true) (he : d.isEnd = true) (hcl : d.window.state = .clamped) (hh : d.alarms.hold = [])
    (hw : d.windowAlarm = false) (hu : d.outMag.unloader = .ready) (hm : emptySlot 1 d.outMag.slots = some m)
    (hin : .empty ∈ d.outMag.slots) :
    ∃ t, State.finish old d.boundary5.settle = t ∧ t.window.state = .outbound ∧ t.outMag.unloader = .unloading
      ∧ t.outMag.target = some m ∧ .elevatorSlot m ∈ t.out ∧ t.head.unit = d.head.unit := by
  have heval := State.evaluateStrip_unloads (s := d.atStep 5) hr he hcl hh hw hu hin
  have hposts := State.startUnload_posts (s := d.atStep 5) hm
  have hrests := (d.atStep 5).startUnload_rests
  have hstate : (d.atStep 5).startUnload.window.state = .outbound := hposts.change.alarm.winState
  have hne : ∀ k, WindowState.outbound ≠ k → (d.atStep 5).startUnload.window.state ≠ k := fun k hk => hstate ▸ hk
  have hpend : (d.atStep 5).startUnload.recipes = d.recipes := (congrArg State.recipes (show _ = _ from hposts.change) :)
  have hmag : (d.atStep 5).startUnload.outMag = _ := hposts.change.alarm.outMag
  rw [State.boundary5_parks hr (.inl (by rw [heval]; exact hne _ WindowState.noConfusion)), heval]
  have hpark := State.enterParked_parks old (s := (d.atStep 5).startUnload) (hposts.calm.trans hc) (by rw [hpend]; exact hp)
    (hne _ WindowState.noConfusion) (.inl (hne _ WindowState.noConfusion))
  refine ⟨_, rfl, ?_, ?_, ?_, ?_, ?_⟩
  · rw [hpark.window, State.enterParked_window]; exact hstate
  · rw [hpark.outMag, State.enterParked_outMag, hmag]; rfl
  · rw [hpark.outMag, State.enterParked_outMag, hmag]; rfl
  · exact hpark.out ((State.enterParked_onward _).out (hposts.out (List.mem_append_right _ (List.mem_singleton.mpr rfl))))
  · rw [hpark.unit, State.enterParked_unit, hrests.head]; rfl

/-- A ready strip that cannot go and has nothing left to do stays, and the head parks with no unit (R95). -/
theorem State.boundary5_waits (old : State) (hc : d.agenda.calm = true) (hp : d.recipes.pending.due = none)
    (hr : d.passReady = true) (ho : d.offerable = false) (he : d.isEnd = false) (hcl : d.window.state = .clamped)
    (hleft : d.oNow = 0 ∨ d.window.forward = true) (hw : d.windsDown = false) (hk : d.head.homingParks = false) :
    ∃ t, State.finish old d.boundary5.settle = t ∧ t.window.state = .clamped ∧ t.head.unit = d.head.unit
      ∧ (t.head.state = .parked ∨ t.head.state = .conditioning) := by
  have heval := State.evaluateStrip_stays (s := d.atStep 5) (.inr ⟨ho, he⟩)
  have hwind : d.head.winding = false := (Bool.or_eq_false_iff.mp hw).1
  have hhome : (d.atStep 5).homesFirst = false := by
    unfold State.homesFirst
    rw [show (d.atStep 5).head.winding = false from hwind, show (d.atStep 5).head.homingParks = false from hk]
    rfl
  have hparked : (d.atStep 5).enterParked.head.state = .parked :=
    (congrArg Head.state (State.enterParked_rests hhome).head :)
  rw [State.boundary5_parks hr (.inr hleft), heval]
  have hpark := State.enterParked_parks old (s := d.atStep 5) hc hp (by rw [show (d.atStep 5).window.state = .clamped from hcl]; decide)
    (.inr hleft)
  refine ⟨_, rfl, ?_, ?_, ?_⟩
  · rw [hpark.window, State.enterParked_window]; exact hcl
  · rw [hpark.unit, State.enterParked_unit]; rfl
  · exact hpark.state.imp (fun h => h.trans hparked) (fun h => h.2)

/-- A strip that stays with a unit left goes on with the lowest one (R10, R95). -/
theorem State.boundary5_selects (old : State) (hc : d.agenda.calm = true) (hrec : d.window.record = some rec)
    (hset : d.stripSet = some r) (hm : lowestOpen 1 rec.units = some m) (hnow : d.oNow ≠ 0)
    (hgo : d.passReady = false ∨ (d.offerable = false ∧ d.isEnd = false)) (hf : d.window.forward = false)
    (hcl : d.window.state = .clamped) (hh : d.alarms.hold = []) (hw : d.windsDown = false) (hdebt : d.head.debt ≠ 8)
    (hfine : d.wireFine d.pins = true) :
    ∃ t, State.finish old d.boundary5.settle = t ∧ t.head.unit = some m ∧ t.head.wire = rec.startWire m
      ∧ t.head.stage = .posZ ∧ .move .z 0 .plain ∈ t.out ∧ t.window.state = .clamped := by
  have hb : d.alarms.bypass = false := (Bool.or_eq_false_iff.mp hw).2
  have heval := State.evaluateStrip_stays (s := d.atStep 5) hgo
  have hstay : d.boundary5 = (d.atStep 5).boundary6 := by
    have hgo5 := State.boundary5_goesOn (s := d) (.inr ⟨by rw [heval]; exact hcl, hnow, hb, hf⟩)
    rwa [heval] at hgo5
  rw [hstay, State.boundary6_selects (s := d.atStep 5) hrec hm hw hf hh,
    State.selectUnit_selects (s := (d.atStep 5).atStep 6) hrec hset hm,
    State.startWire_positions (s := ((d.atStep 5).atStep 6).onUnit rec r m) hh hdebt hfine]
  obtain ⟨hch, hout, -⟩ := State.finish_settle_calm old
    (u := (((d.atStep 5).atStep 6).onUnit rec r m).wireBegun.startPositioning)
    (by rw [State.startPositioning_agenda]; exact hc)
  have hhead := hch.alarm.head
  exact ⟨_, rfl, congrArg Head.unit hhead, congrArg Head.wire hhead, congrArg Head.stage hhead,
    hout (List.mem_append_right _ (List.mem_singleton.mpr rfl)), hch.alarm.winState.trans hcl⟩

end

end Sys2Proof.Machine

/-! ### The units left after the one done (R10, R94) -/

namespace Sys2Proof.Machine

section
variable {s d v : State} {rec r' : StripRecord} {r b : Recipe} {w : WireEntry} {n m : Nat} {x e : UnitEntry} {p : Pins}
  {rest : List Due} {stn : Nat}

theorem StripRecord.lowestOpen_of_entries (hm : rec.entry m = some x) (hx : x.left = true)
    (hno : ∀ k y, k < m → rec.entry k = some y → y.left = false) : lowestOpen 1 rec.units = some m := by
  obtain ⟨h0, hget⟩ := StripRecord.entry_iff.mp hm
  rw [lowestOpen_eq 1 rec.units (m - 1) hget hx fun i y hi hy =>
    hno (i + 1) y (by omega) (StripRecord.entry_iff.mpr ⟨by omega, hy⟩)]
  congr 1
  omega

theorem StripRecord.oNow_ne_zero (hm : rec.entry m = some x) (hx : x.left = true) : rec.oNow ≠ 0 := by
  obtain ⟨-, hget⟩ := StripRecord.entry_iff.mp hm
  rw [rec.oNow_eq]
  exact Nat.pos_iff_ne_zero.mp (List.countP_pos_iff.mpr ⟨x, List.mem_of_getElem? hget, hx⟩)

/-- Beside the unit done, the lowest unit left is the one left before it. -/
theorem StripRecord.Finishes.lowestOpen (h : r'.Finishes rec n stn .done) (hmn : m ≠ n) (hm : rec.entry m = some x)
    (hx : x.left = true) (hno : ∀ k y, k < m → k ≠ n → rec.entry k = some y → y.left = false) :
    lowestOpen 1 r'.units = some m := by
  refine StripRecord.lowestOpen_of_entries ((h.others m hmn).trans hm) hx fun k y hk hy => ?_
  by_cases hkn : k = n
  · rw [hkn, h.entry] at hy
    cases hy
    rfl
  · exact hno k y hk hkn ((h.others k hkn).symm.trans hy)

theorem UnitDone.windowAlarm (h : UnitDone d v rec b n) : d.windowAlarm = v.windowAlarm := by
  unfold State.windowAlarm
  rw [h.alarms]

theorem UnitDone.windowSerial (h : UnitDone d v rec b n) : d.windowSerial = rec.serial := by
  unfold State.windowSerial
  rw [h.record, rec.finishUnit_keeps]

/-- SPARK OK for the wire that completes the unit begins the boundary of the unit done (R46, R53). -/
theorem exec_lastSpark (ho : s.operating = true) (hw : s.onWire r w n) (hb : s.activeSet = some b)
    (hs : s.head.state ≠ .conditioning) (hwind : s.windsDown = false)
    (hd : takeAnswer .spark (fun _ => true) s.due = some (⟨.spark, .fire, true⟩, rest)) (hl : r.wires ≤ s.head.wire)
    (hr : s.window.record = some rec) : ∃ d, exec (.sparkOk p) s = .next (State.finish s d.boundary1.settle)
      ∧ UnitDone d (s.answered p rest) rec b n ∧ d.agenda.calm = true ∧ (s.lineFree 2 = true → d.roomBeside) := by
  have hv : (s.answered p rest).onWire r w n := State.answered_onWire hw
  have hdone := State.completeUnit_unitDone hv hb hr
  have hwind2 := hdone.windsDown.trans hwind
  have hx : exec (.sparkOk p) s = .next (State.finish s (s.answered p rest).completeWire.settle) := exec_sparkOk p ho hs hd
  rw [State.completeWire_last hv hl hwind2] at hx
  refine ⟨_, hx, hdone, ?_, fun hfree => ?_⟩
  · rw [hdone.agenda]
    rfl
  · obtain ⟨hline, hphase, hdup⟩ := (s.answered p rest).wireDone.completeUnit_line
    exact State.roomBeside_congr (State.wireDone_roomBeside (s := s.answered p rest) hb hfree) hline hphase hdup

/-- The sample not due, no activation due, no debt left and no alarm to wait for: the pass evaluation follows (R53). -/
theorem UnitDone.evaluates (h : UnitDone d v rec b n) (hs : rec.selected = false) (hp : v.recipes.pending.due = none) :
    d.boundary1 = d.boundary3 ∧ (d.head.debt ≤ 0 → d.boundary3 = d.boundary4)
      ∧ (d.head.debt ≤ 0 → v.boundaryAlarm = false → d.boundary3 = d.boundary5) := by
  have h3 (hd : d.head.debt ≤ 0) : d.boundary3 = d.boundary4 := State.boundary3_passes hd
  refine ⟨State.boundary1_skips (h.noSample hs 1) (by rw [h.recipes]; exact hp), h3, fun hd ha => (h3 hd).trans ?_⟩
  exact State.boundary4_passes (h.boundaryAlarm.trans ha)

/-- The unit to go on with after the one done, and the wire it starts at (R10). -/
theorem UnitDone.nextUnit (h : UnitDone d v rec b n) (he : rec.entry n = some e)
    (hs : e.state = .opened ∨ e.state = .partialDone) (hmn : m ≠ n) (hm : rec.entry m = some x)
    (hx : x.state = .opened ∨ x.state = .partialDone)
    (hno : ∀ k y, k < m → k ≠ n → rec.entry k = some y → y.state ≠ .opened ∧ y.state ≠ .partialDone) :
    lowestOpen 1 (rec.finishUnit n v.stn .done).units = some m ∧ d.oNow ≠ 0 := by
  have hf : (rec.finishUnit n v.stn .done).Finishes rec n v.stn .done := StripRecord.finishUnit_finishes he hs _ _
  have hleft := UnitEntry.left_iff.mpr hx
  refine ⟨hf.lowestOpen hmn hm hleft fun k y hk hkn hy => ?_, ?_⟩
  · obtain ⟨h1, h2⟩ := hno k y hk hkn hy
    simp [UnitEntry.left, h1, h2]
  · unfold State.oNow
    rw [h.record]
    exact StripRecord.oNow_ne_zero ((hf.others m hmn).trans hm) hleft

end

/-- Settles O38: each step of the boundary that the completed unit begins, and what the pass evaluation makes of the
strip. -/
theorem boundaryRunsInOrder : Obligations.BoundaryRunsInOrder := by
  intro p s rest r b w n rec e ho hw hb hs hwind hd hl hhold hrec he hst
  obtain ⟨d, hx, hdone, hcalm, hroom⟩ := exec_lastSpark (p := p) ho hw hb hs hwind hd hl hrec
  have hh : d.alarms.hold = [] := (congrArg Alarms.hold hdone.alarms).trans hhold
  have hunit : d.head.unit = none := congrArg Head.unit hdone.head
  have hdebt : d.head.debt = if b.interval ≤ s.head.wireCount + 1 then s.head.debt + 1 else s.head.debt :=
    congrArg Head.debt hdone.head
  have hwind2 : d.windsDown = false := hdone.windsDown.trans hwind
  refine ⟨⟨?skipped, ?pulls⟩, fun hsel hpend => ?_⟩
  case skipped =>
    rintro ⟨hcap, hsel, htaken, hskip, hplan⟩ hfull
    have hsample := hdone.sample hrec hw.1 hcap hsel htaken hskip hplan 1
    obtain ⟨r', hr', hsk, htk, hstate, hpull⟩ := hdone.skipped (old := s) hcalm hh hsample (hdone.full.trans hfull)
    exact ⟨_, r', hx, hr', hsk, htk.trans htaken, hstate, hpull⟩
  case pulls =>
    rintro ⟨hcap, hsel, htaken, hskip, hplan⟩ hfull hplace
    have hsample := hdone.sample hrec hw.1 hcap hsel htaken hskip hplan 1
    obtain ⟨t, ht, hpulls⟩ := State.boundary1_sampled s hcalm hh hsample (hdone.full.trans hfull)
      (by rw [hdone.pull]; exact hplace)
    exact ⟨t, hx.trans (congrArg _ ht), hpulls⟩
  obtain ⟨h3, h4, h5⟩ := hdone.evaluates hsel hpend
  have hp : d.recipes.pending.due = none := by rw [hdone.recipes]; exact hpend
  rw [h3] at hx
  dsimp only
  rw [← hdebt]
  refine ⟨fun hpos => ?cycle, fun hlow halarm => ?held, fun hlow halarm hcl => ?_⟩
  case cycle =>
    obtain ⟨t, ht, hcyc⟩ := State.boundary3_cycled s hcalm hh hpos
    exact ⟨t, hx.trans (congrArg _ ht), hcyc⟩
  case held =>
    rw [h4 hlow] at hx
    obtain ⟨t, ht, hstate, hfor, hnext, hu⟩ := State.boundary4_holds s hcalm (hdone.boundaryAlarm.trans halarm)
    exact ⟨t, hx.trans (congrArg _ ht), hstate, hfor, hnext, hu.trans hunit⟩
  rw [h5 hlow halarm] at hx
  have hcl2 : d.window.state = .clamped := hdone.winState.trans hcl
  have hready := hdone.passReady_iff hrec he hst (Bool.or_eq_false_iff.mp hwind).2
  rw [State.bDown_congr (s := s) (t := s.answered p rest) rfl rfl] at hready
  have hoff : d.offerable = s.offerable := hdone.offerable.trans (State.offerable_congr rfl rfl rfl rfl rfl)
  refine ⟨fun hrdy hof => ?offer, fun m hrdy hend hwa hul hm hslot hbefore => ?unload,
    fun m x hmn hm hxs hno hwhy hfine => ?next, fun hrdy hof hend hleft hparks => ?stay⟩
  case offer =>
    obtain ⟨t, ht, hstate, htimer, hu, hq⟩ := State.boundary5_offers s hcalm hp (hready.mpr hrdy) (hoff.trans hof)
    rw [hdone.windowSerial, show d.stn = s.stn from congrArg Straps.stn hdone.straps] at hq
    exact ⟨t, hx.trans (congrArg _ ht), hstate, htimer, hu.trans hunit, fun hfree => hq (hroom hfree)⟩
  case unload =>
    have hmag : d.outMag = s.outMag := hdone.outMag
    have hempty : emptySlot 1 s.outMag.slots = some m := by
      rw [emptySlot_eq 1 _ (m - 1) hslot hbefore]
      congr 1
      omega
    obtain ⟨t, ht, hstate, hunl, htarget, hq, hu⟩ := State.boundary5_unloads s (m := m) hcalm hp (hready.mpr hrdy)
      (hdone.isEnd.trans hend) hcl2 hh (hdone.windowAlarm.trans hwa) (by rw [hmag]; exact hul) (by rw [hmag]; exact hempty)
      (by rw [hmag]; exact List.mem_of_getElem? hslot)
    exact ⟨t, hx.trans (congrArg _ ht), hstate, hunl, htarget, hq, hu.trans hunit⟩
  case next =>
    obtain ⟨hlowest, hnow⟩ := hdone.nextUnit he hst hmn hm hxs hno
    have hgo : d.passReady = false ∨ (d.offerable = false ∧ d.isEnd = false) :=
      hwhy.imp (fun h => Bool.eq_false_iff.mpr fun c => h (hready.mp c))
        (fun h => ⟨hoff.trans h.1, hdone.isEnd.trans h.2.1⟩)
    have hfwd : s.window.forward = false :=
      hwhy.elim (fun h => Bool.eq_false_iff.mpr fun c => h (.inr (.inl c))) (fun h => h.2.2)
    have hfine2 : d.wireFine d.pins = true := by
      unfold State.wireFine
      rw [hdone.head, hdone.pins]
      exact hfine
    obtain ⟨t, ht, hu, hwire, hrest⟩ := State.boundary5_selects s hcalm hdone.record ((hdone.stripSet hrec).trans hw.1)
      hlowest hnow hgo (hdone.forward.trans hfwd) hcl2 hh hwind2 (by omega) hfine2
    exact ⟨t, hx.trans (congrArg _ ht), hu, hwire.trans (StripRecord.finishUnit_startWire he hst hmn _), hrest⟩
  case stay =>
    have hparks2 : d.head.homingParks = false := by rw [hdone.head]; exact hparks
    obtain ⟨t, ht, hstate, hu, hend⟩ := State.boundary5_waits s hcalm hp (hready.mpr hrdy) (hoff.trans hof)
      (hdone.isEnd.trans hend) hcl2 (hleft.imp (hdone.oNow hrec he hst).trans hdone.forward.trans) hwind2 hparks2
    exact ⟨t, hx.trans (congrArg _ ht), hstate, hu.trans hunit, hend⟩

end Sys2Proof.Machine

/-! ## O20: the warm restart

The parts of a restart after the head's stop are re-reads of the sensors, alarms and frames: they all leave what the
restart has cleared and kept (R60, R62, R114, R133, R148, R163, R173, R184, R195). -/

namespace Sys2Proof.Machine

/-! ### What the later parts of a restart leave -/

/-- The parts of a state that no part of a restart after the head's stop changes. -/
structure RestartView where
  straps : Straps
  phase : Phase
  dup : Bool
  pins : Pins
  recipes : RecipeStore
  head : Head
  energy : Energy
  pull : Pull
  hold : List Nat
  bypass : Bool
  peers : List Peer
  last : Option Nat
  lastRefusal : Option LastRefusal
  newest : Nat
  spanEnd : Nat
  headers : List (Option (Nat × Nat))
  stack : List Screen

def State.restartView (s : State) : RestartView where
  straps := s.straps
  phase := s.phase
  dup := s.dup
  pins := s.pins
  recipes := s.recipes
  head := { s.head with surface := none }
  energy := { s.energy with working := none, table := none }
  pull := { s.pull with list := [] }
  hold := s.alarms.hold
  bypass := s.alarms.bypass
  peers := s.line.peers
  last := s.line.last
  lastRefusal := s.line.lastRefusal
  newest := s.log.newest
  spanEnd := s.log.spanEnd
  headers := s.log.headers
  stack := s.panel.stack

/-- The strip's surface height and energy rows are gone (R35, R77). -/
def State.rowless (s : State) : Prop := s.energy.working = none ∧ s.energy.table = none ∧ s.head.surface = none

/-- No read is in service and no record waits for its grade (R148, R163). -/
def State.portIdle (s : State) : Prop := s.log.service = none ∧ ∀ e ∈ s.pull.list, e.closed = true

/-- The kinds that a restart's own tests raise (R31, R103, R129, R163). -/
def restartKinds : List AlarmKind := [.recordLost, .staleGeneration, .outputFull, .logFull]

/-- Frames other than beacons that stand first in a queue. -/
def FrontKept (b a : List TxFrame) : Prop := ∀ q, (∀ x ∈ q, x.frame.kind ≠ .beacon) → q <+: a → q <+: b

/-- `t` comes from `s` by the parts of a restart that only re-read, raise and report. -/
def Trails (t s : State) : Prop :=
  t.restartView = s.restartView ∧ s.out ⊆ t.out
    ∧ (∀ e ∈ t.alarms.queue, e ∈ s.alarms.queue ∨ e.kind ∈ restartKinds) ∧ FrontKept t.line.txQueue s.line.txQueue
    ∧ (s.panel.buffer = .empty → t.panel.buffer = .empty) ∧ (s.rowless → t.rowless) ∧ (s.portIdle → t.portIdle)

section
variable {u t s : State}

theorem FrontKept.refl (a : List TxFrame) : FrontKept a a := fun _ _ h => h

theorem Trails.refl (s : State) : Trails s s :=
  ⟨rfl, List.Subset.refl _, fun _ h => .inl h, .refl _, id, id, id⟩

theorem Trails.trans (h : Trails u t) (k : Trails t s) : Trails u s := by
  obtain ⟨hv, ho, ha, hf, hb, hr, hp⟩ := h
  obtain ⟨kv, ko, ka, kf, kb, kr, kp⟩ := k
  exact ⟨hv.trans kv, List.Subset.trans ko ho, fun e he => (ha e he).elim (ka e) .inr,
    fun q hq h => hf q hq (kf q hq h), hb ∘ kb, hr ∘ kr, hp ∘ kp⟩

theorem Trails.view (h : Trails t s) : t.restartView = s.restartView := h.1
theorem Trails.out (h : Trails t s) : s.out ⊆ t.out := h.2.1
theorem Trails.alarms (h : Trails t s) : ∀ e ∈ t.alarms.queue, e ∈ s.alarms.queue ∨ e.kind ∈ restartKinds := h.2.2.1
theorem Trails.front (h : Trails t s) : FrontKept t.line.txQueue s.line.txQueue := h.2.2.2.1
theorem Trails.buffer (h : Trails t s) : s.panel.buffer = .empty → t.panel.buffer = .empty := h.2.2.2.2.1
theorem Trails.rowless (h : Trails t s) : s.rowless → t.rowless := h.2.2.2.2.2.1
theorem Trails.portIdle (h : Trails t s) : s.portIdle → t.portIdle := h.2.2.2.2.2.2

theorem Trails.operating (h : Trails t s) : t.operating = s.operating := by
  have hp : t.phase = s.phase := congrArg RestartView.phase h.view
  have hd : t.dup = s.dup := congrArg RestartView.dup h.view
  rw [State.operating, hp, hd, State.operating]

/-- A queue that grows at its end keeps what stands first. -/
theorem FrontKept.append (a l : List TxFrame) : FrontKept (a ++ l) a := fun _ _ h => h.trans (List.prefix_append a l)

/-- A beacon that is replaced in its place leaves the frames before it. -/
theorem FrontKept.rebeacon (a : List TxFrame) (g : Frame) :
    FrontKept (a.map (fun t => if t.frame.kind == .beacon then { t with frame := g } else t)) a := by
  intro q hq h
  have he : q.map (fun t => if t.frame.kind == .beacon then { t with frame := g } else t) = q :=
    (List.map_congr_left fun x hx => if_neg (by simpa using hq x hx)).trans q.map_id'
  rw [← he]
  exact h.map _

theorem State.issue_trails (s : State) (r : Request) : Trails (s.issue r) s :=
  ⟨rfl, List.subset_append_left _ _, fun _ h => .inl h, .refl _, id, id, id⟩

theorem State.request_trails (s : State) (r : Request) (pt : Port) (v : Use) : Trails (s.request r pt v) s :=
  ⟨rfl, List.subset_append_left _ _, fun _ h => .inl h, .refl _, id, id, id⟩

theorem State.stripClampReq_trails (s : State) (c : Bool) : Trails (s.stripClampReq c) s := s.request_trails _ _ _

/-! ### The panel's list (R180) -/

theorem State.standbyTest_trails (s : State) : Trails s.standbyTest s := by
  unfold State.standbyTest
  split <;> exact .refl s

theorem Panel.refresh_stack (x : Panel) : x.refresh.stack = x.stack := by
  have hk : x.keepDeferral.stack = x.stack := by
    unfold Panel.keepDeferral
    split <;> rfl
  rw [← hk]
  unfold Panel.refresh Panel.showOpen
  split
  · rfl
  · split <;> rfl

theorem Panel.refresh_buffer (x : Panel) (h : x.buffer = .empty) : x.refresh.buffer = .empty := by
  have hk : x.keepDeferral.buffer = .empty := by
    unfold Panel.keepDeferral
    split <;> exact h
  unfold Panel.refresh Panel.showOpen
  split
  · exact hk
  · split
    · exact hk
    · rfl

theorem State.panelChange_trails (s : State) {x : Panel} (hs : x.stack = s.panel.stack)
    (hb : s.panel.buffer = .empty → x.buffer = .empty) : Trails (s.panelChange x) s := by
  have h : Trails { s with panel := x.refresh } s := by
    refine ⟨?_, List.Subset.refl _, fun _ h => .inl h, .refl _, fun h => x.refresh_buffer (hb h), id, id⟩
    show { s.restartView with stack := x.refresh.stack } = s.restartView
    rw [x.refresh_stack, hs]
    rfl
  unfold State.panelChange
  split
  · exact (State.standbyTest_trails _).trans h
  · exact h

theorem State.panelAppend_trails (s : State) (e : PanelEntry) : Trails (s.panelAppend e) s := by
  unfold State.panelAppend
  split
  · exact (State.issue_trails _ _).trans (State.panelChange_trails s rfl id)
  · exact .refl s

theorem State.panelAlarm_trails (s : State) (n q : Nat) (k : AlarmKind) (c : Context) : Trails (s.panelAlarm n q k c) s := by
  unfold State.panelAlarm
  split
  · exact .refl s
  · split
    · exact Trails.refl s
    · exact s.panelAppend_trails _

theorem State.panelSettled_trails (s : State) (n q : Nat) : Trails (s.panelSettled n q) s := by
  unfold State.panelSettled
  split
  · exact s.panelChange_trails rfl id
  · exact .refl s

theorem State.panelCarried_trails (n : Nat) (s : State) (a : Nat × Nat) : Trails (State.panelCarried n s a) s := by
  unfold State.panelCarried
  split
  · exact Trails.refl s
  · split
    · exact s.panelAppend_trails _
    · exact .refl s

theorem State.panelBeacon_trails (s : State) (n : Nat) (l : List (Nat × Nat)) : Trails (s.panelBeacon n l) s := by
  have hfold : ∀ (l : List (Nat × Nat)) (u : State), Trails (l.foldl (State.panelCarried n) u) u := by
    intro l
    induction l with
    | nil => exact Trails.refl
    | cons a l ih => exact fun u => (ih _).trans (u.panelCarried_trails n a)
  unfold State.panelBeacon
  split
  · exact .refl s
  · refine Trails.trans (State.panelChange_trails _ ?_ ?_) (hfold l s)
    · rfl
    · exact id

/-! ### Frames and beacons (R191) -/

theorem State.enqueue_trails (s : State) (x : TxFrame) (b : Timer) :
    Trails { s with line.txQueue := s.line.txQueue ++ [x], line.beaconTimer := b } s :=
  ⟨rfl, List.Subset.refl _, fun _ h => .inl h, .append _ _, id, id, id⟩

theorem State.onPlaced_trails (s : State) (o : Owner) : Trails (s.onPlaced o) s := by
  unfold State.onPlaced
  split
  · split
    · exact (State.request_trails _ _ _ _).trans ((State.request_trails _ _ _ _).trans (Trails.refl s))
    · exact .refl s
  · exact ⟨rfl, List.Subset.refl _, fun _ h => .inl h, .refl _, id, id, fun h => ⟨rfl, h.2⟩⟩
  · exact .refl s

theorem State.placeItem_trails (s : State) (w : Waiting) : Trails (s.placeItem w) s := by
  cases w with
  | beaconDue => exact (State.panelBeacon_trails _ _ _).trans (s.enqueue_trails ⟨s.beaconFrame, 0⟩ (some Config.beaconMs))
  | frame o f => exact (State.onPlaced_trails _ _).trans (s.enqueue_trails ⟨f, 0⟩ s.line.beaconTimer)

theorem State.drain_trails (ws : List Waiting) (s : State) : Trails (State.drain ws s) s := by
  induction ws generalizing s with
  | nil => exact Trails.refl s
  | cons w ws ih =>
    unfold State.drain
    split
    · exact (ih _).trans (s.placeItem_trails w)
    · exact Trails.refl s

theorem State.submit_trails (s : State) (o : Owner) (f : Frame) : Trails (s.submit o f) s := by
  unfold State.submit
  split
  · exact (State.drain_trails _ _).trans (Trails.refl s)
  · exact .refl s

theorem State.placeBeacon_trails (s : State) : Trails s.placeBeacon s := by
  unfold State.placeBeacon
  split
  · exact .refl s
  · split
    · exact ⟨rfl, List.Subset.refl _, fun _ h => .inl h, .rebeacon _ _, id, id, id⟩
    · split
      · exact .refl s
      · exact (State.drain_trails _ _).trans (Trails.refl s)

theorem State.queueBeacon_trails (s : State) : Trails s.queueBeacon s := s.placeBeacon_trails

/-! ### The alarms of the re-reads (R31, R103, R129, R163) -/

theorem State.raise_trails (s : State) {k : AlarmKind} (hk : k ∈ restartKinds) : Trails (s.raise k) s := by
  unfold State.raise
  split
  · exact .refl s
  · refine (State.queueBeacon_trails _).trans ((State.panelAlarm_trails _ _ _ _ _).trans ((State.submit_trails _ _ _).trans ?_))
    refine ⟨rfl, List.Subset.refl _, fun e he => ?_, .refl _, id, id, id⟩
    rcases List.mem_append.mp he with he | he
    · exact .inl he
    · exact .inr (by rw [List.mem_singleton.mp he]; exact hk)

theorem State.testStale_trails (s : State) : Trails s.testStale s := by
  unfold State.testStale
  split
  · split
    · exact s.raise_trails (by decide)
    · exact .refl s
  · exact .refl s

/-! ### The window's record (R1, R103, R108, R114) -/

theorem State.dropStripData_trails (s : State) : Trails s.dropStripData s :=
  ⟨rfl, List.Subset.refl _, fun _ h => .inl h, .refl _, id, fun _ => ⟨rfl, rfl, rfl⟩, id⟩

theorem State.giveUpRecord_trails (s : State) : Trails s.giveUpRecord s :=
  (State.queueBeacon_trails _).trans s.dropStripData_trails

theorem State.emptyWindow_trails (s : State) : Trails s.emptyWindow s :=
  (State.queueBeacon_trails _).trans (Trails.refl s)

theorem State.clampStrip_trails (s : State) (r : StripRecord) (lost : Bool) : Trails (s.clampStrip r lost) s := by
  have h : Trails (({ s.dropStripData.stripClampReq true with
      window.state := .clamped
      window.record := some r
      window.inbound := none
      window.inboundSerial := none
      window.arrivalTimer := none } : State).count .stripsReceived).askHead.askStrip.queueBeacon s :=
    (State.queueBeacon_trails _).trans ((State.stripClampReq_trails _ true).trans s.dropStripData_trails)
  refine (State.testStale_trails _).trans ?_
  cases lost with
  | true => exact (State.raise_trails _ (by decide)).trans h
  | false => exact h

theorem State.clampInbound_trails (s : State) : Trails s.clampInbound s := by
  unfold State.clampInbound
  split
  · exact s.clampStrip_trails _ _
  · exact s.clampStrip_trails _ _

theorem State.reclamp_trails (s : State) : Trails s.reclamp s :=
  (State.queueBeacon_trails _).trans (s.stripClampReq_trails true)

theorem State.passed_trails (s : State) : Trails (s.count .stripsPassed).giveUpRecord s :=
  (State.giveUpRecord_trails _).trans (Trails.refl s)

theorem State.fillSlot_trails (s : State) : Trails s.fillSlot s := by
  unfold State.fillSlot
  split
  · exact (State.giveUpRecord_trails _).trans (Trails.refl s)
  · exact .refl s

theorem State.scanOutput_trails (s : State) : Trails s.scanOutput s := by
  refine Trails.trans (t := { s.ignoreDue (fun d => d.use == .outScan) with
    outMag.slots := List.replicate Config.slots .unknown
    outMag.current := true
    outMag.filled := 0
    outMag.lateInsertion := false }) ?_ (Trails.refl s)
  unfold State.scanOutput State.scanSlot
  rw [if_neg (by decide)]
  exact State.request_trails _ _ _ _

theorem State.settleUnload_trails (s : State) : Trails s.settleUnload s := by
  have h (m : OutMag) : Trails { s with outMag := m } s := Trails.refl s
  unfold State.settleUnload
  extract_lets m s1 s2
  have h2 : Trails s2 s := by
    unfold s2
    split
    · exact (State.reclamp_trails _).trans (h _)
    · split
      · split
        · exact (State.fillSlot_trails _).trans (h _)
        · exact (State.passed_trails _).trans (h _)
      · exact (State.passed_trails _).trans (h _)
  split
  · exact s2.scanOutput_trails.trans h2
  · exact h2

theorem State.restartWindow_trails (s : State) : Trails s.restartWindow s := by
  unfold State.restartWindow
  split
  · split
    · exact s.clampStrip_trails _ _
    · exact .refl s
  · split
    · exact s.clampInbound_trails
    · exact s.emptyWindow_trails
  · split
    · exact (State.testStale_trails _).trans s.settleUnload_trails
    · split
      · split
        · exact (State.testStale_trails _).trans (Trails.refl s)
        · exact (State.testStale_trails _).trans s.reclamp_trails
      · exact s.passed_trails
  · split
    · exact (State.testStale_trails _).trans ((State.queueBeacon_trails _).trans (Trails.refl s))
    · exact s.giveUpRecord_trails

/-! ### The waiting strip and the record port (R96, R153) -/

theorem State.makeOffer_trails (s : State) : Trails s.makeOffer s :=
  (State.submit_trails _ _ _).trans ((State.queueBeacon_trails _).trans (Trails.refl s))

theorem State.startUnload_trails (s : State) : Trails s.startUnload s := by
  unfold State.startUnload
  split
  · exact (State.queueBeacon_trails _).trans ((State.request_trails _ _ _ _).trans (Trails.refl s))
  · exact .refl s

theorem State.outputAnswer_trails (s : State) : Trails s.outputAnswer s := by
  unfold State.outputAnswer
  split
  · split
    · exact s.startUnload_trails
    · split
      · exact .refl s
      · unfold State.outputFull
        split
        · exact .refl s
        · exact s.raise_trails (by decide)
  · exact .refl s

theorem State.evaluateStrip_trails (s : State) : Trails s.evaluateStrip s := by
  unfold State.evaluateStrip
  split
  · split
    · exact s.outputAnswer_trails
    · split
      · exact s.makeOffer_trails
      · exact .refl s
  · exact .refl s

theorem State.settleStrip_trails (s : State) : Trails s.settleStrip s := by
  unfold State.settleStrip
  split
  · exact s.evaluateStrip_trails
  · exact .refl s

theorem State.beaconAfter_trails (s old : State) : Trails (s.beaconAfter old) s := by
  unfold State.beaconAfter
  split
  · exact s.placeBeacon_trails
  · exact .refl s

theorem State.keepLine_trails (s : State) : Trails s.keepLine s := by
  unfold State.keepLine
  split <;> exact Trails.refl s

theorem State.finish_trails (old s : State) : Trails (State.finish old s) s :=
  Trails.trans (t := (s.beaconAfter old).keepLine) (Trails.refl _) ((State.keepLine_trails _).trans (s.beaconAfter_trails old))

end

end Sys2Proof.Machine

/-! ### The alarms settled, first in the new queue (R173, R195) -/

namespace Sys2Proof.Machine

section
variable {s t old : State} {e : AlarmEntry} {es : List AlarmEntry}

/-- With room in the queue and nothing waiting, SETTLED is placed at its end. -/
theorem State.submit_settled (f : Frame) (ho : s.operating = true) (hl : s.phase ≠ .listening)
    (hq : s.line.txQueue.length < Config.txPlaces) (hw : s.line.waiting = []) :
    s.submit .settled f = { s with line.txQueue := s.line.txQueue ++ [⟨f, 0⟩] } := by
  have hroom : (({ s with line.waiting := [.frame .settled f] } : State).lineHasRoom) = true := by
    simp only [State.lineHasRoom, Bool.and_eq_true, decide_eq_true_eq, bne_iff_ne]
    exact ⟨⟨hq, hl⟩, ho⟩
  have e : s.submit .settled f = State.drain [.frame .settled f] { s with line.waiting := [.frame .settled f] } := by
    simp [State.submit, ho, hw, State.fill]
  rw [e, State.drain, if_pos hroom, State.placeItem, State.drain, ← hw]
  rfl

theorem State.settleRestart_change (s : State) (e : AlarmEntry) : LineChange (s.settleRestart e) s := by
  have h : LineChange ((s.submit .settled (settledFrame e .restart 0)).panelSettled s.stn e.seq) s :=
    (State.panelSettled_panel _ _ _).line.trans (State.submit_change _ _ _)
  unfold State.settleRestart
  dsimp only
  split
  · exact (State.askStrip_change _).trans h
  · exact h

theorem State.settleRestart_trails (s : State) (e : AlarmEntry) : Trails (s.settleRestart e) s := by
  have h : Trails ((s.submit .settled (settledFrame e .restart 0)).panelSettled s.stn e.seq) s :=
    (State.panelSettled_trails _ _ _).trans (s.submit_trails _ _)
  unfold State.settleRestart
  dsimp only
  split <;> exact h

theorem State.settleRestart_line (ho : s.operating = true) (hl : s.phase ≠ .listening)
    (hq : s.line.txQueue.length < Config.txPlaces) (hw : s.line.waiting = []) (e : AlarmEntry) :
    (s.settleRestart e).line = { s.line with txQueue := s.line.txQueue ++ [⟨settledFrame e .restart 0, 0⟩] } := by
  have h : ((s.submit .settled (settledFrame e .restart 0)).panelSettled s.stn e.seq).line
      = { s.line with txQueue := s.line.txQueue ++ [⟨settledFrame e .restart 0, 0⟩] } := by
    have hp := State.panelSettled_panel (s.submit .settled (settledFrame e .restart 0)) s.stn e.seq
    unfold PanelChange at hp
    rw [hp, State.submit_settled _ ho hl hq hw]
  unfold State.settleRestart
  dsimp only
  split <;> exact h

/-- The SETTLED frame of an alarm that a restart settles, in the queue (R186, R195). -/
def settledByRestart (e : AlarmEntry) : TxFrame := ⟨settledFrame e .restart 0, 0⟩

theorem State.settleRestart_fold (es : List AlarmEntry) (s : State) :
    LineChange (es.foldl State.settleRestart s) s ∧ Trails (es.foldl State.settleRestart s) s := by
  induction es generalizing s with
  | nil => exact ⟨.refl s, .refl s⟩
  | cons e es ih =>
    obtain ⟨h, k⟩ := ih (s.settleRestart e)
    exact ⟨h.trans (s.settleRestart_change e), k.trans (s.settleRestart_trails e)⟩

theorem State.settleRestart_fold_line (es : List AlarmEntry) (s : State) (ho : s.operating = true) (hl : s.phase ≠ .listening)
    (hq : s.line.txQueue.length + es.length ≤ Config.txPlaces) (hw : s.line.waiting = []) :
    (es.foldl State.settleRestart s).line = { s.line with txQueue := s.line.txQueue ++ es.map settledByRestart } := by
  induction es generalizing s with
  | nil => simp
  | cons e es ih =>
    rw [List.length_cons] at hq
    have hc := s.settleRestart_change e
    have hline := State.settleRestart_line ho hl (by omega) hw e
    have hop : (s.settleRestart e).operating = true := hc.alarm.operating.trans ho
    have hlis : (s.settleRestart e).phase ≠ .listening := by rw [hc.alarm.phase]; exact hl
    rw [List.foldl_cons, ih (s.settleRestart e) hop hlis (by rw [hline, List.length_append]; simp; omega) (by rw [hline]; exact hw),
      hline, List.map_cons, List.append_assoc]
    rfl

/-- The alarms after a restart's settling, before its own tests (R173). -/
def Alarms.restarted (a : Alarms) (stn : Nat) : Alarms :=
  { a with queue := [], bypass := false, hold := a.hold.filter (fun n => n != stn) }

/-- The state with the alarms as the restart settles them, its frames not yet placed. -/
def State.settling (s : State) : State := s.alarms.queue.foldl State.settleRestart { s with alarms.queue := [] }

theorem State.restartAlarms_eq (s : State) : ∃ a, s.restartAlarms
    = { s.settling with alarms := s.alarms.restarted s.stn, agenda := a } := by
  have hal : s.settling.alarms = { s.alarms with queue := [] } := (State.settleRestart_fold _ _).1.alarms
  have h : ({ s.settling with
      alarms.bypass := false, alarms.hold := s.alarms.hold.filter (fun n => n != s.stn) } : State)
      = { s.settling with alarms := s.alarms.restarted s.stn } :=
    congrArg (fun a : Alarms => ({ s.settling with
      alarms := { a with bypass := false, hold := s.alarms.hold.filter (fun n => n != s.stn) } } : State)) hal
  unfold State.restartAlarms
  dsimp only
  split
  · exact ⟨_, congrArg State.askStrip h⟩
  · exact ⟨s.settling.agenda, h⟩

/-! ### The head's stop (R60, R62, R114) -/

/-- The head as a restart stops it, before its homing (R60). -/
def Head.stopped (h : Head) : Head :=
  { h with
    enabled := false, untrackedBond := false, unit := none, wire := 0, firstWire := 0, state := .parked, stage := .idle
    surface := none, next := .none, heldFor := .nothing, intent := .none, wireOut := false, untrackedRun := 0
    boundaryStep := 0, doneUnit := none, sparks := 0, winding := false, homingParks := false }

/-- The head's bond and request, its unit and its sample, ended by a restart (R60, R148). -/
def State.workEnded (s : State) : State :=
  (({ s.disableReq.abortBond with head.untrackedBond := false } : State).ignoreDue
    (fun d => d.use.ofHead)).rejectUnit.clearUnit.restartPull

theorem State.disableReq_abortBond_frame (s : State) : s.disableReq.abortBond = { s with
    head.enabled := false, out := s.disableReq.out, energy := s.disableReq.abortBond.energy
    tally := s.disableReq.abortBond.tally } := by
  rw [State.abortBond_frame, State.disableReq_frame]

theorem State.rejectUnit_frame (s : State) : s.rejectUnit.clearUnit = { s with
    window.record := s.rejectUnit.window.record, tally := s.rejectUnit.tally
    head.unit := none, head.wire := 0, head.firstWire := 0, energy.working := none } := by
  unfold State.rejectUnit
  split <;> rfl

theorem State.restartPull_frame (s : State) : s.restartPull = { s with
    window.record := s.restartPull.window.record, pull := s.restartPull.pull } := by
  unfold State.restartPull
  rw [State.closeSample_frame]

/-- The pull controller's sample has ended; its references and its list stay (R148). -/
theorem State.restartPull_pull (s : State) : s.restartPull.pull.sample = none
    ∧ (s.pull.sample.isSome = true → s.restartPull.pull.phase = .none)
    ∧ s.restartPull.pull.refCounter = s.pull.refCounter ∧ s.restartPull.pull.capable = s.pull.capable := by
  unfold State.restartPull State.closeSample
  cases hs : s.pull.sample with
  | none => exact ⟨hs, nofun, rfl, rfl⟩
  | some m =>
    dsimp only
    split <;> exact ⟨rfl, fun _ => rfl, rfl, rfl⟩

theorem State.restartPull_record (h : s.pull.sample = none) : s.restartPull.window.record = s.window.record := by
  unfold State.restartPull State.closeSample
  rw [h]

theorem State.restartHead_eq (s : State) : s.restartHead = { s.workEnded with head := s.head.stopped } := by
  have h : s.workEnded.head = { s.head with
      enabled := false, untrackedBond := false, unit := none, wire := 0, firstWire := 0 } := by
    unfold State.workEnded
    rw [State.restartPull_frame, State.rejectUnit_frame, State.disableReq_abortBond_frame]
    rfl
  have e : s.restartHead = { s.workEnded with head := { s.workEnded.head with
      state := .parked, stage := .idle, surface := none, next := .none, heldFor := .nothing, intent := .none
      wireOut := false, untrackedRun := 0, boundaryStep := 0, doneUnit := none, sparks := 0, winding := false
      homingParks := false } } := rfl
  rw [e, h]
  rfl

/-- What the end of the head's work leaves of the rest of the station. -/
theorem State.workEnded_frame (s : State) : s.workEnded = { s with
    head := s.workEnded.head, out := s.workEnded.out, due := s.workEnded.due, tally := s.workEnded.tally
    window.record := s.workEnded.window.record, pull := s.workEnded.pull, energy := s.workEnded.energy } := by
  unfold State.workEnded
  rw [State.restartPull_frame, State.rejectUnit_frame, State.disableReq_abortBond_frame]
  rfl

end

end Sys2Proof.Machine

/-! ### The core of a restart: queue, panel, alarms, head, energy and window marks (R60, R62, R114, R173, R184, R195) -/

namespace Sys2Proof.Machine

/-- A restart up to the magazines and the window's re-read. -/
def State.restartCore (s : State) : State :=
  s.restartLine.restartPanel.restartAlarms.restartHead.restartEnergy.restartMarks

section
variable {s t u : State}

theorem State.restartPanel_frame (s : State) : s.restartPanel = { s with panel := s.restartPanel.panel } := by
  unfold State.restartPanel
  split <;> rfl

theorem State.restartPanel_home (h : s.hasPanel = true) :
    s.restartPanel.panel.stack = [.home] ∧ s.restartPanel.panel.buffer = .empty := by
  unfold State.restartPanel
  rw [if_pos h]
  exact ⟨s.panel.restart.refresh_stack, s.panel.restart.refresh_buffer rfl⟩

theorem State.restartAlarms_frame (s : State) : s.restartAlarms = { s with
    alarms := s.alarms.restarted s.stn, line := s.restartAlarms.line, panel := s.restartAlarms.panel
    out := s.restartAlarms.out, due := s.restartAlarms.due, agenda := s.restartAlarms.agenda
    window.recordQueued := s.restartAlarms.window.recordQueued, log.service := s.restartAlarms.log.service } := by
  obtain ⟨a, ha⟩ := s.restartAlarms_eq
  have hc : LineChange s.settling { s with alarms.queue := [] } := (State.settleRestart_fold _ _).1
  unfold LineChange at hc
  rw [ha, hc]

theorem State.restartAlarms_view (s : State) : s.restartAlarms.restartView
    = { s.restartView with bypass := false, hold := s.alarms.hold.filter (fun n => n != s.stn) } := by
  obtain ⟨a, ha⟩ := s.restartAlarms_eq
  have hv : s.settling.restartView = s.restartView := (State.settleRestart_fold s.alarms.queue { s with alarms.queue := [] }).2.view
  rw [ha, ← hv]
  rfl

theorem State.restartAlarms_line (ho : s.operating = true) (hl : s.phase ≠ .listening) (hq : s.line.txQueue = [])
    (hw : s.line.waiting = []) (hn : s.alarms.queue.length ≤ Config.txPlaces) :
    s.restartAlarms.line = { s.line with txQueue := s.alarms.queue.map settledByRestart } := by
  obtain ⟨a, ha⟩ := s.restartAlarms_eq
  have h := State.settleRestart_fold_line s.alarms.queue { s with alarms.queue := [] } ho hl
    (by show s.line.txQueue.length + _ ≤ _; rw [hq, List.length_nil]; omega) hw
  rw [ha]
  refine (show s.settling.line = _ from h).trans ?_
  show ({ s.line with txQueue := s.line.txQueue ++ _ } : Line) = _
  rw [hq, List.nil_append]

theorem State.restartAlarms_buffer (h : s.panel.buffer = .empty) : s.restartAlarms.panel.buffer = .empty := by
  obtain ⟨a, ha⟩ := s.restartAlarms_eq
  rw [ha]
  exact (State.settleRestart_fold s.alarms.queue { s with alarms.queue := [] }).2.buffer h

/-- The state in which a restart stops the head. -/
def State.alarmsSettled (s : State) : State := s.restartLine.restartPanel.restartAlarms

theorem State.restartCore_eq (s : State) : s.restartCore
    = ({ s.alarmsSettled.workEnded with head := s.alarmsSettled.head.stopped } : State).restartEnergy.restartMarks := by
  rw [← State.restartHead_eq]
  rfl

theorem State.alarmsSettled_frame (s : State) : s.alarmsSettled = { s with
    alarms := s.alarms.restarted s.stn, line := s.alarmsSettled.line, panel := s.alarmsSettled.panel
    out := s.alarmsSettled.out, due := s.alarmsSettled.due, agenda := s.alarmsSettled.agenda
    window.recordQueued := s.alarmsSettled.window.recordQueued, log.service := s.alarmsSettled.log.service } := by
  have h := s.restartLine.restartPanel.restartAlarms_frame
  have hp := s.restartLine.restartPanel_frame
  unfold State.alarmsSettled
  generalize s.restartLine.restartPanel.restartAlarms = x at h ⊢
  generalize s.restartLine.restartPanel = y at h hp
  rw [h, hp]
  rfl

/-- What the core of a restart leaves. -/
theorem State.restartCore_frame (s : State) : s.restartCore = { s with
    alarms := s.alarms.restarted s.stn, line := s.alarmsSettled.line, panel := s.alarmsSettled.panel
    head := s.head.stopped, out := s.restartCore.out, due := s.restartCore.due, agenda := s.alarmsSettled.agenda
    window := { s.window with
      recordQueued := s.alarmsSettled.window.recordQueued, record := s.restartCore.window.record
      offerTimer := none, arrivalTimer := none, exitTimer := none, forward := false, freshWait := false }
    log.service := s.alarmsSettled.log.service, energy := s.restartCore.energy, tally := s.restartCore.tally
    pull := s.restartCore.pull } := by
  have hf := s.alarmsSettled_frame
  have hw := s.alarmsSettled.workEnded_frame
  have he := s.restartCore_eq
  generalize s.restartCore = c at he ⊢
  generalize s.alarmsSettled = a at hf hw he ⊢
  generalize a.workEnded = w at hw he
  rw [he, hw, hf]
  rfl

end

end Sys2Proof.Machine

/-! ### The magazines, the log and the belt at a restart (R114, R133, R163) -/

namespace Sys2Proof.Machine

/-- `t` comes from `s` by parts of a restart that leave the line, the alarms and the window too. -/
def Still (t s : State) : Prop :=
  Trails t s ∧ t.line = s.line ∧ t.alarms = s.alarms ∧ t.window = s.window ∧ t.log.full = s.log.full

section
variable {u t s old : State}

theorem Still.refl (s : State) : Still s s := ⟨.refl s, rfl, rfl, rfl, rfl⟩

theorem Still.trans (h : Still u t) (k : Still t s) : Still u s := by
  obtain ⟨ht, hl, ha, hw, hf⟩ := h
  obtain ⟨kt, kl, ka, kw, kf⟩ := k
  exact ⟨ht.trans kt, hl.trans kl, ha.trans ka, hw.trans kw, hf.trans kf⟩

theorem Still.trails (h : Still t s) : Trails t s := h.1
theorem Still.line (h : Still t s) : t.line = s.line := h.2.1
theorem Still.alarms (h : Still t s) : t.alarms = s.alarms := h.2.2.1
theorem Still.window (h : Still t s) : t.window = s.window := h.2.2.2.1
theorem Still.full (h : Still t s) : t.log.full = s.log.full := h.2.2.2.2

theorem State.request_still (s : State) (r : Request) (pt : Port) (v : Use) : Still (s.request r pt v) s :=
  ⟨s.request_trails r pt v, rfl, rfl, rfl, rfl⟩

theorem State.restartInput_still (s : State) : Still s.restartInput s := by
  unfold State.restartInput
  extract_lets fed m retracts s1
  have h1 : Still s1 s := Still.refl s
  split
  · exact (State.request_still _ _ _ _).trans h1
  · exact h1

/-- With no alarm open the end of a scan clears none (R128). -/
theorem State.endScan_still (h : s.alarms.queue = []) : Still s.endScan s := by
  have hc (m : OutMag) (k : AlarmKind) : ({ s with outMag := m } : State).clearAlarm k = { s with outMag := m } := by
    unfold State.clearAlarm State.openAlarm
    rw [show ({ s with outMag := m } : State).alarms.queue = [] from h]
    rfl
  unfold State.endScan
  dsimp only
  split
  · rw [hc]
    exact Still.refl s
  · exact Still.refl s

theorem State.scanSlot_still (h : s.alarms.queue = []) (n : Nat) : Still (s.scanSlot n) s := by
  unfold State.scanSlot
  split
  · exact State.endScan_still h
  · exact (State.request_still _ _ _ _).trans (Still.refl s)

theorem State.restartOutput_still (h : s.alarms.queue = []) : Still s.restartOutput s := by
  unfold State.restartOutput
  split
  · dsimp only
    split
    · split
      · exact (State.scanSlot_still (s := s.ignoreDue _) h _).trans (Still.refl s)
      · exact (State.endScan_still (s := s.ignoreDue _) h).trans (Still.refl s)
    · exact Still.refl s
  · exact Still.refl s
  · exact .refl s

theorem State.dropBelt_still (s : State) : Still s.dropBelt s := by
  unfold State.dropBelt
  split
  · exact .refl s
  · exact Still.refl s

theorem takeClosed_subset {es rest : List PendingEntry} {r : PullRecord} (h : takeClosed es = some (r, rest)) :
    ∀ e ∈ rest, e ∈ es := by
  induction es generalizing r rest with
  | nil => cases h
  | cons a es ih =>
    unfold takeClosed at h
    split at h
    · obtain ⟨-, rfl⟩ := Prod.mk.inj (Option.some.inj h)
      exact fun e he => List.mem_cons_of_mem _ he
    · obtain ⟨⟨x, l⟩, hx, hl⟩ := Option.map_eq_some_iff.mp h
      obtain ⟨-, rfl⟩ := Prod.mk.inj hl
      intro e he
      rcases List.mem_cons.mp he with rfl | he
      · exact List.mem_cons_self
      · exact List.mem_cons_of_mem _ (ih hx e he)

theorem State.offerPlacesFuel_still (n : Nat) (s : State) : Still (State.offerPlacesFuel n s) s := by
  induction n generalizing s with
  | zero => exact .refl s
  | succ n ih =>
    unfold State.offerPlacesFuel
    split
    · split
      · next r rest hr =>
        refine (ih _).trans ⟨⟨rfl, List.Subset.refl _, fun _ h => .inl h, .refl _, id, id, fun h => ⟨h.1, ?_⟩⟩, rfl, rfl,
          rfl, rfl⟩
        exact fun e he => h.2 e (takeClosed_subset hr e he)
      · exact .refl s
    · exact .refl s

/-- The log controller's part leaves no read in service and no record waiting for its grade (R148, R163). -/
theorem State.restartLog_still (s : State) : Still s.restartLog s ∧ s.restartLog.portIdle := by
  have hc : ∀ e ∈ s.pull.list.map (fun e => if e.closed then e else ⟨{ e.record with mode := .ungraded }, true⟩),
      e.closed = true := by
    intro e he
    obtain ⟨x, -, rfl⟩ := List.mem_map.mp he
    split
    · assumption
    · rfl
  have hx (x : State) : Still x.offerPlaces x := by
    unfold State.offerPlaces
    split
    · exact x.offerPlacesFuel_still _
    · exact .refl x
  generalize hy : ({ s with
    log.service := none
    pull.list := s.pull.list.map (fun e => if e.closed then e else ⟨{ e.record with mode := .ungraded }, true⟩) } : State) = y
  have hyi : y.portIdle := hy ▸ ⟨rfl, hc⟩
  have hys : Still y s := by
    rw [← hy]
    exact ⟨⟨rfl, List.Subset.refl _, fun _ h => .inl h, .refl _, id, id, fun _ => ⟨rfl, hc⟩⟩, rfl, rfl, rfl, rfl⟩
  have e : s.restartLog = y.offerPlaces := by rw [← hy]; rfl
  rw [e]
  exact ⟨(hx y).trans hys, (hx y).trails.portIdle hyi⟩

theorem State.restartFull_trails (s : State) : Trails s.restartFull s := by
  unfold State.restartFull
  split
  · exact s.raise_trails (by decide)
  · exact .refl s

/-- With no read in service the record port starts an operation at most (R153). -/
theorem State.settlePort_still (h : s.log.service = none) : Still s.settlePort s := by
  have herase (b : Nat) : Still (s.startErase b) s :=
    ⟨⟨rfl, List.subset_append_left _ _, fun _ h => .inl h, .refl _, id, id, id⟩, rfl, rfl, rfl, rfl⟩
  have hahead : Still (match s.log.aheadDue with | some a => s.startErase a | none => s) s := by
    split
    · exact herase _
    · exact .refl s
  have hstart (o : PortOp) (r : Request) : Still (({ s with log.op := o } : State).issue r) s :=
    ⟨⟨rfl, List.subset_append_left _ _, fun _ h => .inl h, .refl _, id, id, id⟩, rfl, rfl, rfl, rfl⟩
  have hread : Still s.arbitrateRead s := by
    unfold State.arbitrateRead
    rw [h]
    dsimp only
    unfold State.arbitrateWrites
    split
    · exact hstart _ _
    · split
      · exact hahead
      · exact hstart _ _
    · exact hahead
  unfold State.settlePort State.arbitrate
  split
  · split
    · split
      · split
        · exact herase _
        · exact hread
      · exact hread
    · exact .refl s
  · exact .refl s

/-! ### The homing that a restart begins (R60) -/

/-- The head as a restart's homing begins. -/
def Head.rehoming (h : Head) : Head :=
  { h with restartHoming := true, state := .homing, stage := .homingClamp, next := .park, heldFor := .nothing
           intent := .none, homingParks := false }

/-- The station of which a restart re-reads the window: the magazines are done. -/
def State.restartMags (s : State) : State := s.restartCore.restartInput.restartOutput

/-- A restart up to its homing. -/
def State.restartParts (s : State) : State := s.restartMags.restartWindow.dropBelt.restartLog.restartFull

theorem State.restart_eq (s : State) : s.restart = s.restartParts.restartHoming.queueBeacon := rfl

theorem State.restartCore_queue (s : State) : s.restartCore.alarms.queue = [] := by
  rw [s.restartCore_frame]
  rfl

theorem State.restartMags_still (s : State) : Still s.restartMags s.restartCore := by
  refine (State.restartOutput_still ?_).trans s.restartCore.restartInput_still
  rw [(State.restartInput_still _).alarms]
  exact s.restartCore_queue

theorem State.restartParts_trails (s : State) : Trails s.restartParts s.restartCore ∧ s.restartParts.portIdle := by
  obtain ⟨hlog, hidle⟩ := s.restartMags.restartWindow.dropBelt.restartLog_still
  have hfull := s.restartMags.restartWindow.dropBelt.restartLog.restartFull_trails
  exact ⟨hfull.trans (hlog.trails.trans ((State.dropBelt_still _).trails.trans
    ((State.restartWindow_trails _).trans s.restartMags_still.trails))), hfull.portIdle hidle⟩

theorem State.restartHoming_eq (s : State) : s.restartHoming = { s with
    head := s.head.rehoming, out := s.out ++ [.wireClamp true], due := s.due ++ [⟨.wireClamp, .homing, true⟩]
    agenda := { s.agenda with feed := false } } := rfl

/-- With the head in a restart's homing only the waiting strip and the record port are served (R96, R133, R153). -/
theorem State.settle_homing (ho : s.operating = true) (hs : s.head.state = .homing) (hr : s.head.restartHoming = true) :
    s.settle = s.settleStrip.settlePort := by
  have hplace : s.settlePlace = s := if_neg fun c => by rw [hs] at c; cases c.1
  have hpoint : s.settlePoint = s := by simp [State.settlePoint, State.atPoint, hs]
  have hhead : s.settleHead = s := State.settleHead_of_busy (.inl (by rw [hs]; decide))
  have hfeed : s.settleStrip.settleFeed = s.settleStrip := by
    have hno := State.feedAllowed_restart (s := s.settleStrip) (by rw [s.settleStrip_rests.head]; exact hr)
    unfold State.settleFeed State.testFeed
    rw [hno]
    split <;> rfl
  unfold State.settle
  rw [if_pos ho, hplace, hpoint, hhead, hfeed]

/-- The end of the event in which a restart's homing begins. -/
theorem State.restartHoming_settled (old : State) (ho : s.operating = true) (hi : s.portIdle) :
    s.restartHoming.queueBeacon.settle = s.restartHoming.queueBeacon.settleStrip.settlePort
      ∧ Trails (State.finish old s.restartHoming.queueBeacon.settle) s.restartHoming := by
  generalize hy : s.restartHoming = y
  have hhead : y.head = s.head.rehoming := by rw [← hy]; rfl
  have hop : y.operating = true := by rw [← hy]; exact ho
  have hidle : y.portIdle := by rw [← hy]; exact hi
  have hq : Trails y.queueBeacon y := State.queueBeacon_trails y
  have hstate : y.queueBeacon.head.state = y.head.state := congrArg (fun v : RestartView => v.head.state) hq.view
  have hre : y.queueBeacon.head.restartHoming = y.head.restartHoming :=
    congrArg (fun v : RestartView => v.head.restartHoming) hq.view
  have e := State.settle_homing (hq.operating.trans hop) (by rw [hstate, hhead]; rfl) (by rw [hre, hhead]; rfl)
  have hstrip := y.queueBeacon.settleStrip_trails
  have hport := (State.settlePort_still (hstrip.portIdle (hq.portIdle hidle)).1).trails
  refine ⟨e, ?_⟩
  rw [e]
  exact (State.finish_trails old _).trans (hport.trans (hstrip.trans hq))

end

end Sys2Proof.Machine

/-! ### What the core of a restart clears (R60, R62, R148, R173, R195) -/

namespace Sys2Proof.Machine

section
variable {s t u : State} {n : Nat} {r : StripRecord} {e : UnitEntry}

theorem State.workEnded_status (s : State) : s.workEnded.energy.status = .closed := by
  unfold State.workEnded
  rw [State.restartPull_frame, State.rejectUnit_frame]
  exact State.abortBond_closed _

theorem State.workEnded_pull (s : State) : s.workEnded.pull.sample = none
    ∧ (s.pull.sample.isSome = true → s.workEnded.pull.phase = .none)
    ∧ s.workEnded.pull.refCounter = s.pull.refCounter ∧ s.workEnded.pull.capable = s.pull.capable := by
  have hp : ∀ x : State, x.rejectUnit.clearUnit.pull = x.pull := fun x => (congrArg State.pull x.rejectUnit_frame :)
  have hq : s.disableReq.abortBond.pull = s.pull := (congrArg State.pull s.disableReq_abortBond_frame :)
  have h := State.restartPull_pull (({ s.disableReq.abortBond with head.untrackedBond := false } : State).ignoreDue
    (fun d => d.use.ofHead)).rejectUnit.clearUnit
  rw [hp] at h
  rw [← hq]
  exact h

/-- The unit in progress becomes REJECT (R6, R60). -/
theorem State.workEnded_record (hp : s.pull.sample = none) (hu : s.head.unit = some n) :
    s.workEnded.window.record = s.window.record.map (fun r => r.finishUnit n s.stn .reject) := by
  generalize hx : ({ s.disableReq.abortBond with head.untrackedBond := false } : State).ignoreDue
    (fun d => d.use.ofHead) = x
  have hf : x = { s with
      head.enabled := false, head.untrackedBond := false, out := x.out, due := x.due, energy := x.energy, tally := x.tally } := by
    rw [← hx, State.disableReq_abortBond_frame]
    rfl
  have hxu : x.head.unit = some n := by rw [hf]; exact hu
  have hpull : x.rejectUnit.clearUnit.pull.sample = none := by
    rw [x.rejectUnit_frame, hf]
    exact hp
  have e : s.workEnded = x.rejectUnit.clearUnit.restartPull := by rw [← hx]; rfl
  have hrej : x.rejectUnit.clearUnit.window.record = x.window.record.map (fun r => r.finishUnit n x.stn .reject) := by
    unfold State.rejectUnit
    rw [hxu]
    rfl
  rw [e, State.restartPull_record hpull, hrej, hf]
  rfl

theorem State.restartCore_energy (s : State) : s.restartCore.energy
    = { s.alarmsSettled.workEnded.energy with rings := emptyRings, working := none, table := none } := by
  rw [s.restartCore_eq]
  rfl

theorem State.restartCore_pull (s : State) : s.restartCore.pull = s.alarmsSettled.workEnded.pull := by
  rw [s.restartCore_eq]
  rfl

theorem State.restartCore_record (s : State) : s.restartCore.window.record = s.alarmsSettled.workEnded.window.record := by
  rw [s.restartCore_eq]
  rfl

theorem State.restartCore_line (s : State) : s.restartCore.line = s.alarmsSettled.line := by
  rw [s.restartCore_frame]

theorem State.restartCore_head (s : State) : s.restartCore.head = s.head.stopped := by
  rw [s.restartCore_frame]

theorem State.restartCore_alarms (s : State) : s.restartCore.alarms = s.alarms.restarted s.stn := by
  rw [s.restartCore_frame]

theorem State.restartCore_rowless (s : State) : s.restartCore.rowless := by
  refine ⟨?_, ?_, ?_⟩
  · rw [s.restartCore_energy]
  · rw [s.restartCore_energy]
  · rw [s.restartCore_head]
    rfl

/-- The transmit queue and what waited are gone; the presence table and L stay (R195). -/
theorem State.alarmsSettled_line (s : State) : s.alarmsSettled.line.peers = s.line.peers
    ∧ s.alarmsSettled.line.last = s.line.last ∧ s.alarmsSettled.line.lastRefusal = none := by
  have hv := s.restartLine.restartPanel.restartAlarms_view
  have hl : s.restartLine.restartPanel.line = s.restartLine.line := (congrArg State.line s.restartLine.restartPanel_frame :)
  have h1 : s.alarmsSettled.line.peers = s.restartLine.restartPanel.line.peers := (congrArg RestartView.peers hv :)
  have h2 : s.alarmsSettled.line.last = s.restartLine.restartPanel.line.last := (congrArg RestartView.last hv :)
  have h3 : s.alarmsSettled.line.lastRefusal = s.restartLine.restartPanel.line.lastRefusal :=
    (congrArg RestartView.lastRefusal hv :)
  rw [h1, h2, h3, hl]
  exact ⟨rfl, rfl, rfl⟩

/-- With 8 alarms at most their SETTLED frames are the whole queue (R195). -/
theorem State.alarmsSettled_queue (ho : s.operating = true) (hl : s.phase ≠ .listening)
    (hn : s.alarms.queue.length ≤ Config.txPlaces) : s.alarmsSettled.line.txQueue = s.alarms.queue.map settledByRestart
      ∧ s.alarmsSettled.line.waiting = [] := by
  have hf := s.restartLine.restartPanel_frame
  have hal : s.restartLine.restartPanel.alarms = s.alarms := by rw [hf]; rfl
  have hline : s.restartLine.restartPanel.line = s.restartLine.line := by rw [hf]
  have h := State.restartAlarms_line (s := s.restartLine.restartPanel)
    (by rw [hf]; exact ho) (by rw [hf]; exact hl) (by rw [hline]; rfl) (by rw [hline]; rfl) (by rw [hal]; exact hn)
  unfold State.alarmsSettled
  rw [h, hal, hline]
  exact ⟨rfl, rfl⟩

/-- A panel is back on HOME with nothing entered (R184). -/
theorem State.alarmsSettled_panel (h : s.hasPanel = true) :
    s.alarmsSettled.panel.stack = [.home] ∧ s.alarmsSettled.panel.buffer = .empty := by
  obtain ⟨hs, hb⟩ := State.restartPanel_home (s := s.restartLine) h
  have hv := s.restartLine.restartPanel.restartAlarms_view
  exact ⟨(congrArg RestartView.stack hv :).trans hs, State.restartAlarms_buffer hb⟩

/-! ### The station after a restart -/

theorem State.restartHoming_view (s : State) :
    s.restartHoming.restartView = { s.restartView with head := s.restartView.head.rehoming } := rfl

theorem State.restartHoming_rowless (h : s.rowless) : s.restartHoming.rowless := h
theorem State.restartHoming_portIdle (h : s.portIdle) : s.restartHoming.portIdle := h
theorem State.restartHoming_line (s : State) : s.restartHoming.line = s.line := rfl
theorem State.restartHoming_alarms (s : State) : s.restartHoming.alarms = s.alarms := rfl
/-- The parts of the station that the restart has fixed before its homing. -/
theorem State.restart_view (ht : Trails t s.restartParts.restartHoming) :
    t.restartView = { s.restartCore.restartView with head := s.head.stopped.rehoming } := by
  have hc : s.restartCore.restartView.head = s.head.stopped := by
    show { s.restartCore.head with surface := none } = _
    rw [s.restartCore_head]
    rfl
  rw [ht.view, State.restartHoming_view, s.restartParts_trails.1.view, hc]

theorem State.restart_rowless (ht : Trails t s.restartParts.restartHoming) : t.rowless :=
  ht.rowless (State.restartHoming_rowless (s.restartParts_trails.1.rowless s.restartCore_rowless))

theorem State.restart_head (ht : Trails t s.restartParts.restartHoming) : t.head = s.head.stopped.rehoming := by
  have hsurface : t.head.surface = none := (State.restart_rowless ht).2.2
  have hv : { t.head with surface := none } = s.head.stopped.rehoming := congrArg RestartView.head (State.restart_view ht)
  rw [← hv, ← hsurface]

theorem State.restart_energy (ht : Trails t s.restartParts.restartHoming) : t.energy.status = .closed
    ∧ t.energy.working = none ∧ t.energy.table = none ∧ t.energy.rings = List.replicate 8 ⟨0, []⟩ := by
  obtain ⟨hw, htab, -⟩ := State.restart_rowless ht
  have hs : t.energy.status = s.restartCore.energy.status :=
    congrArg (fun v : RestartView => v.energy.status) (State.restart_view ht)
  have hr : t.energy.rings = s.restartCore.energy.rings :=
    congrArg (fun v : RestartView => v.energy.rings) (State.restart_view ht)
  rw [s.restartCore_energy] at hs hr
  exact ⟨hs.trans s.alarmsSettled.workEnded_status, hw, htab, hr⟩

theorem State.restart_pull (ht : Trails t s.restartParts.restartHoming) : t.pull.sample = none
    ∧ (s.pull.sample.isSome = true → t.pull.phase = .none) ∧ t.pull.refCounter = s.pull.refCounter
    ∧ t.pull.capable = s.pull.capable ∧ ∀ e ∈ t.pull.list, e.closed = true := by
  have hv : { t.pull with list := [] } = { s.restartCore.pull with list := [] } :=
    congrArg RestartView.pull (State.restart_view ht)
  have ha : s.alarmsSettled.pull = s.pull := (congrArg State.pull s.alarmsSettled_frame :)
  obtain ⟨h1, h2, h3, h4⟩ := s.alarmsSettled.workEnded_pull
  rw [← s.restartCore_pull, ha] at h2 h3 h4
  rw [← s.restartCore_pull] at h1
  exact ⟨(congrArg Pull.sample hv :).trans h1, fun h => (congrArg Pull.phase hv :).trans (h2 h),
    (congrArg Pull.refCounter hv :).trans h3, (congrArg Pull.capable hv :).trans h4,
    (ht.portIdle (State.restartHoming_portIdle s.restartParts_trails.2)).2⟩

/-- An alarm open after a restart is one that its own tests raise (R173). -/
theorem State.restart_kinds (ht : Trails t s.restartParts.restartHoming) : ∀ e ∈ t.alarms.queue, e.kind ∈ restartKinds := by
  intro e he
  rcases ht.alarms e he with he | he
  · rw [State.restartHoming_alarms] at he
    rcases s.restartParts_trails.1.alarms e he with he | he
    · rw [s.restartCore_queue] at he
      cases he
    · exact he
  · exact he

/-- The SETTLED frames stand first in the new queue (R173, R195). -/
theorem State.restart_front (ht : Trails t s.restartParts.restartHoming) (ho : s.operating = true) (hl : s.phase ≠ .listening)
    (hn : s.alarms.queue.length ≤ Config.txPlaces) :
    t.line.txQueue.take s.alarms.queue.length = s.alarms.queue.map settledByRestart := by
  have hq : s.restartCore.line.txQueue = s.alarms.queue.map settledByRestart := by
    rw [s.restartCore_line]
    exact (State.alarmsSettled_queue ho hl hn).1
  have hno : ∀ x ∈ s.alarms.queue.map settledByRestart, x.frame.kind ≠ .beacon := by
    intro x hx
    obtain ⟨e, -, rfl⟩ := List.mem_map.mp hx
    exact FrameKind.noConfusion
  have hparts := s.restartParts_trails.1.front _ hno (by rw [hq])
  rw [← State.restartHoming_line] at hparts
  have hpre := ht.front _ hno hparts
  rw [List.prefix_iff_eq_take, List.length_map] at hpre
  exact hpre.symm

end

end Sys2Proof.Machine

/-! ### The beacon that follows a restart (R191, R195) -/

namespace Sys2Proof.Machine

section
variable {s t u old : State} {n : Nat} {r : StripRecord} {e : UnitEntry}

theorem State.openGrades_of_idle (h : s.portIdle) : s.openGrades = [] := by
  have hf : s.pull.list.filter (fun e => !e.closed) = [] :=
    List.filter_eq_nil_iff.mpr fun e he => by simp [h.2 e he]
  rw [State.openGrades, hf, List.map_nil]

/-- What a beacon carries where no record waits for its grade. -/
theorem State.beaconView_congr (hv : t.restartView = s.restartView) (ha : t.alarms = s.alarms)
    (hw : t.window = { s.window with recordQueued := t.window.recordQueued }) (ht : t.portIdle) (hs : s.portIdle) :
    t.beaconView = s.beaconView := by
  have hstraps : t.straps = s.straps := congrArg RestartView.straps hv
  have hphase : t.phase = s.phase := congrArg RestartView.phase hv
  have hdup : t.dup = s.dup := congrArg RestartView.dup hv
  have hrec : t.recipes = s.recipes := congrArg RestartView.recipes hv
  have hstate : t.head.state = s.head.state := congrArg (fun v : RestartView => v.head.state) hv
  have hdebt : t.head.debt = s.head.debt := congrArg (fun v : RestartView => v.head.debt) hv
  have hcap : t.pull.capable = s.pull.capable := congrArg (fun v : RestartView => v.pull.capable) hv
  unfold State.beaconView State.stationCode State.running State.ownHold State.isEnd State.windowSerial State.oNow
    State.activeGen State.priorGen
  rw [State.openGrades_of_idle ht, State.openGrades_of_idle hs, hstraps, hphase, hdup, hrec, hstate, hdebt, hcap, ha, hw]

/-- With the queue's beacon in its place, the end of an event writes what it carries now (R191). -/
theorem State.finish_rebeacons (old : State) (ho : s.operating = true) (q : List TxFrame)
    (hq : ∀ x ∈ q, x.frame.kind ≠ .beacon) (hl : s.line.txQueue = q ++ [⟨s.beaconFrame, 0⟩]) :
    (State.finish old s).line = s.line := by
  have hk : (s.beaconAfter old).keepLine.line = (s.beaconAfter old).line := by
    unfold State.keepLine
    split <;> rfl
  have hhas : s.line.hasBeacon = true := by
    unfold Line.hasBeacon
    rw [hl, List.any_append]
    simp [State.beaconFrame]
  have hmap : s.line.txQueue.map (fun t => if t.frame.kind == .beacon then { t with frame := s.beaconFrame } else t)
      = s.line.txQueue := by
    refine (List.map_congr_left fun x hx => ?_).trans s.line.txQueue.map_id'
    rw [hl] at hx
    rcases List.mem_append.mp hx with hx | hx
    · exact if_neg (by simpa using hq x hx)
    · rw [List.mem_singleton.mp hx]
      exact ite_self _
  refine (show (State.finish old s).line = (s.beaconAfter old).keepLine.line from rfl).trans (hk.trans ?_)
  unfold State.beaconAfter
  split
  · unfold State.placeBeacon
    rw [if_neg (by rw [ho]; decide), if_pos hhas, hmap]
  · rfl

/-- With the window EMPTY the homing of a restart raises no alarm, and a beacon joins the queue (R60, R191). -/
theorem State.restartHoming_reports (old : State) (ho : s.operating = true) (hl : s.phase ≠ .listening) (hi : s.portIdle)
    (hw : s.window.state = .empty) (ht : t = State.finish old s.restartHoming.queueBeacon.settle) :
    t.alarms = s.alarms ∧ (s.line.txQueue.length < Config.txPlaces → s.line.waiting = [] →
      (∀ x ∈ s.line.txQueue, x.frame.kind ≠ .beacon) → t.line.waiting = []
        ∧ t.line.txQueue = s.line.txQueue ++ [⟨⟨0, .beacon, encodeBeacon t.beaconView⟩, 0⟩]) := by
  obtain ⟨e, -⟩ := State.restartHoming_settled old ho hi
  rw [e] at ht
  generalize hz : s.restartHoming = z at ht e
  have hzi : z.portIdle := by rw [← hz]; exact State.restartHoming_portIdle hi
  have hzo : z.operating = true := by rw [← hz]; exact ho
  have hzl : z.phase ≠ .listening := by rw [← hz]; exact hl
  have hzline : z.line = s.line := by rw [← hz]; rfl
  have hzal : z.alarms = s.alarms := by rw [← hz]; rfl
  have hzw : z.window.state = .empty := by rw [← hz]; exact hw
  have hch := z.queueBeacon_change
  have hq := z.queueBeacon_trails
  have hstrip : z.queueBeacon.settleStrip = z.queueBeacon := by
    have hno : z.queueBeacon.stripWaits = false := by
      unfold State.stripWaits
      rw [hch.alarm.winState, hzw]
      rfl
    unfold State.settleStrip
    rw [hno]
    simp
  rw [hstrip] at ht
  have hport := State.settlePort_still (hq.portIdle hzi).1
  generalize hv : z.queueBeacon.settlePort = v at ht hport
  have hfin := State.finish_change old v
  rw [← ht] at hfin
  refine ⟨hfin.alarms.trans (hport.alarms.trans (hch.alarms.trans hzal)), fun hroom hwait hno => ?_⟩
  have htrail : Trails t v := by rw [ht]; exact State.finish_trails old v
  have hvi : v.portIdle := hport.trails.portIdle (hq.portIdle hzi)
  have hbeacon : v.beaconView = z.beaconView := by
    refine State.beaconView_congr (hport.trails.view.trans hq.view) (hport.alarms.trans hch.alarms) ?_ hvi hzi
    rw [hport.window]
    exact hch.alarm.window
  have htb : t.beaconView = v.beaconView :=
    State.beaconView_congr htrail.view hfin.alarms hfin.alarm.window (htrail.portIdle hvi) hvi
  have hnone : z.line.hasBeacon = false := by
    rw [hzline]
    exact List.any_eq_false.mpr fun x hx => by simpa using hno x hx
  obtain ⟨x, o, hplaced⟩ := State.placeBeacon_placed hzo hzl (by rw [hzline]; exact hroom) hnone (by rw [hzline]; exact hwait)
  have hwl : z.queueBeacon.line = { z.line with txQueue := z.line.txQueue ++ [⟨z.beaconFrame, 0⟩], beaconTimer := some 50 } := by
    show z.placeBeacon.line = _
    rw [hplaced]
  have hvl : v.line.txQueue = s.line.txQueue ++ [⟨v.beaconFrame, 0⟩] := by
    rw [hport.line, hwl, hzline, State.beaconFrame, State.beaconFrame, hbeacon]
  have hvo : v.operating = true := hport.trails.operating.trans (hq.operating.trans hzo)
  have htl : t.line = v.line := by rw [ht]; exact State.finish_rebeacons old hvo _ hno hvl
  rw [htl, htb]
  refine ⟨?_, hvl⟩
  rw [hport.line, hwl, hzline]
  exact hwait

/-! ### The window's re-read (R114) -/

theorem State.restartWindow_empty (h : s.window.state = .empty) (hp : s.pins.stripIn = false) : s.restartWindow = s := by
  unfold State.restartWindow
  rw [h]
  exact if_neg (by rw [hp]; decide)

theorem State.restartMags_pins (s : State) : s.restartMags.pins = s.pins := by
  have h : s.restartMags.pins = s.restartCore.pins := congrArg RestartView.pins s.restartMags_still.trails.view
  rw [h, s.restartCore_frame]

/-- With the window EMPTY and the log not FULL a restart's own tests find nothing (R114, R163). -/
theorem State.restartParts_still (hw : s.window.state = .empty) (hp : s.pins.stripIn = false) (hf : s.log.full = false) :
    Still s.restartParts s.restartCore := by
  have hwin : s.restartMags.window.state = .empty := by
    rw [s.restartMags_still.window, s.restartCore_frame]
    exact hw
  have hread : s.restartMags.restartWindow = s.restartMags :=
    State.restartWindow_empty hwin (by rw [s.restartMags_pins]; exact hp)
  have h : Still s.restartMags.dropBelt.restartLog s.restartCore :=
    (State.restartLog_still _).1.trans ((State.dropBelt_still _).trans s.restartMags_still)
  have hfull : s.restartMags.dropBelt.restartLog.log.full = false := by
    rw [h.full, s.restartCore_frame]
    exact hf
  have hnofull : s.restartMags.dropBelt.restartLog.restartFull = s.restartMags.dropBelt.restartLog :=
    if_neg (by rw [hfull]; decide)
  unfold State.restartParts
  rw [hread, hnofull]
  exact h

/-- A strip shown at STRIP OUT keeps its record in a window that was CLAMPED (R114). -/
theorem State.restartWindow_record (h : s.window.state = .clamped) (hp : s.pins.stripOut = true) :
    s.restartWindow.window.record = s.window.record := by
  have e : s.restartWindow = ({ s with window.state := .clamped } : State).queueBeacon.testStale := by
    unfold State.restartWindow
    rw [h]
    exact if_pos hp
  rw [e, (State.testStale_raises _).change.record, (State.queueBeacon_change _).alarm.record]

theorem State.restartFull_record (s : State) : s.restartFull.window.record = s.window.record := by
  unfold State.restartFull
  split
  · exact (State.raise_change _ _).record
  · rfl

/-- What follows the parts of a restart leaves the record. -/
theorem State.restartHoming_record (old : State) (ho : s.operating = true) (hi : s.portIdle) :
    (State.finish old s.restartHoming.queueBeacon.settle).window.record = s.window.record := by
  rw [(State.restartHoming_settled old ho hi).1]
  refine (State.finish_rests old _).record.trans ((State.settlePort_rests _).record.trans
    ((State.settleStrip_rests _).record.trans ?_))
  exact (State.queueBeacon_change _).alarm.record

/-- The record of the strip in the window, its unit in progress made REJECT (R6, R60, R114). -/
theorem State.restartParts_record (hu : s.head.unit = some n) (hr : s.window.record = some r)
    (hw : s.window.state = .clamped) (hp : s.pins.stripOut = true) (hs : s.pull.sample = none) :
    s.restartParts.window.record = some (r.finishUnit n s.stn .reject) := by
  have hf := s.alarmsSettled_frame
  have hcore : s.restartCore.window.record = some (r.finishUnit n s.stn .reject) := by
    have h := s.alarmsSettled.workEnded_record (by rw [hf]; exact hs) (by rw [hf]; exact hu)
    rw [s.restartCore_record, h, hf]
    show s.window.record.map _ = _
    rw [hr]
    rfl
  have hstate : s.restartMags.window.state = .clamped := by
    rw [s.restartMags_still.window, s.restartCore_frame]
    exact hw
  unfold State.restartParts
  rw [State.restartFull_record, (State.restartLog_still _).1.window, (State.dropBelt_still _).window,
    State.restartWindow_record hstate (by rw [s.restartMags_pins]; exact hp), s.restartMags_still.window, hcore]

end

end Sys2Proof.Machine

/-! ### RESTART (R193, R195) -/

namespace Sys2Proof.Machine

section
variable {s t : State} {h : Hdr} {p : Pins} {r : StripRecord} {e : UnitEntry} {n : Nat}

/-- While STARTING a strip that waits is not evaluated (R96). -/
theorem State.settle_starting {b : Bool} (hr : s.running = false)
    (ha : s.agenda = { Agenda.none with strip := b, beacon := s.agenda.beacon }) : s.settle = s := by
  have hstrip : s.settleStrip = s := by simp [State.settleStrip, hr]
  have hplace : s.settlePlace = s := State.settlePlace_of_calm (by rw [ha]; rfl) (by rw [ha]; rfl)
  have hpoint : s.settlePoint = s := if_neg (by rw [ha]; exact Bool.false_ne_true)
  have hhead : s.settleHead = s := if_neg (by rw [ha]; exact Bool.false_ne_true)
  have hfeed : s.settleFeed = s := if_neg (by rw [ha]; exact Bool.false_ne_true)
  have hport : s.settlePort = s := if_neg (by rw [ha]; exact Bool.false_ne_true)
  unfold State.settle
  rw [hplace, hpoint, hhead, hstrip, hfeed, hport, ite_self]

/-- While STARTING a refusal leaves the head, the record, the alarms and the phase (R195). -/
theorem request_refusedStarting {f : State → State} {k : FrameKind} {c d : Nat} (hs : s.serves h = true)
    (hr : s.running = false) (hf : ∀ b, f (s.heardAsking p h.sender b) = (s.heardAsking p h.sender b).refuse h k c d) :
    ∃ t, request s h p f = .next t ∧ t.line.lastRefusal = some ⟨k, c, d⟩ ∧ t.head = s.head
      ∧ t.window.record = s.window.record ∧ t.alarms = s.alarms ∧ t.phase = s.phase := by
  obtain ⟨b, hb⟩ := request_served hs p f
  rw [hf b] at hb
  have hposts := State.refuse_posts (s.heardAsking p h.sender b) h k c d
  generalize (s.heardAsking p h.sender b).refuse h k c d = u at hb hposts
  have hag := hposts.agenda
  have hrun : u.running = false := by
    rw [State.running, hposts.change.alarm.phase]
    exact hr
  rw [State.settle_starting (b := b) hrun (by rw [hag]; rfl)] at hb
  have hch := (State.finish_change s u).trans hposts.change
  have hnews := (State.finish_news s u).trans hposts.news
  exact ⟨_, hb, congrArg Ledger.lastRefusal hnews.1, hch.alarm.head, hch.alarm.record, hch.alarms, hch.alarm.phase⟩

/-- RESTART is a service request (R195). -/
theorem exec_restart (h : Hdr) (p : Pins) (s : State) : exec (.restart h p) s
    = request s h p fun t => if t.running then t.restart else t.refuse h .restart 9 0 := rfl

/-- RESTART is served while running (R195). -/
theorem exec_restart_running (hs : s.serves h = true) (hr : s.running = true) :
    ∃ b, exec (.restart h p) s = .next (State.finish s (s.heardAsking p h.sender b).restart.settle) := by
  rw [exec_restart]
  obtain ⟨b, hb⟩ := request_served hs p fun t => if t.running then t.restart else t.refuse h .restart 9 0
  have hrun : (s.heardAsking p h.sender b).running = true := hr
  rw [if_pos hrun] at hb
  exact ⟨b, hb⟩

/-- RESTART is refused while STARTING (R195). -/
theorem exec_restart_starting (hs : s.serves h = true) (hr : s.running = false) :
    ∃ t, exec (.restart h p) s = .next t ∧ t.line.lastRefusal = some ⟨.restart, 9, 0⟩ ∧ t.head = s.head
      ∧ t.window.record = s.window.record ∧ t.alarms = s.alarms ∧ t.phase = s.phase := by
  rw [exec_restart]
  refine request_refusedStarting hs hr fun b => ?_
  have hrun : (s.heardAsking p h.sender b).running = false := hr
  rw [hrun]
  rfl

/-! ### The station at the end of the event -/

theorem State.restart_trails (old : State) (ho : s.operating = true) :
    Trails (State.finish old s.restart.settle) s.restartParts.restartHoming := by
  obtain ⟨hparts, hidle⟩ := s.restartParts_trails
  have hcore : s.restartCore.operating = true := by
    rw [s.restartCore_frame]
    exact ho
  rw [s.restart_eq]
  exact (State.restartHoming_settled old (hparts.operating.trans hcore) hidle).2

theorem State.restart_homing (ht : Trails t s.restartParts.restartHoming) : .wireClamp true ∈ t.out := by
  refine ht.out ?_
  rw [State.restartHoming_eq]
  exact List.mem_append_right _ (List.mem_singleton.mpr rfl)

/-- What the line keeps and loses (R190, R194, R195). -/
theorem State.restart_line (ht : Trails t s.restartParts.restartHoming) :
    t.line.lastRefusal = none ∧ t.line.last = s.line.last ∧ t.line.peers = s.line.peers := by
  have hv := State.restart_view ht
  obtain ⟨hp, hl, hr⟩ := s.alarmsSettled_line
  rw [← s.restartCore_line] at hp hl hr
  exact ⟨(congrArg RestartView.lastRefusal hv :).trans hr, (congrArg RestartView.last hv :).trans hl,
    (congrArg RestartView.peers hv :).trans hp⟩

/-- What the log keeps and loses (R163). -/
theorem State.restart_log (ht : Trails t s.restartParts.restartHoming) : t.log.service = none
    ∧ t.log.newest = s.log.newest ∧ t.log.spanEnd = s.log.spanEnd ∧ t.log.headers = s.log.headers := by
  have hv := State.restart_view ht
  have hlog : s.restartCore.log = { s.log with service := s.alarmsSettled.log.service } :=
    (congrArg State.log s.restartCore_frame :)
  have h1 : t.log.newest = s.restartCore.log.newest := congrArg RestartView.newest hv
  have h2 : t.log.spanEnd = s.restartCore.log.spanEnd := congrArg RestartView.spanEnd hv
  have h3 : t.log.headers = s.restartCore.log.headers := congrArg RestartView.headers hv
  rw [hlog] at h1 h2 h3
  exact ⟨(ht.portIdle (State.restartHoming_portIdle s.restartParts_trails.2)).1, h1, h2, h3⟩

/-- The phase, the recipes, the bypass flag and the hold set (R28, R60, R173). -/
theorem State.restart_settings (ht : Trails t s.restartParts.restartHoming) : t.phase = s.phase ∧ t.recipes = s.recipes
    ∧ t.alarms.bypass = false ∧ t.alarms.hold = s.alarms.hold.filter (fun n => n != s.stn) := by
  have hv := State.restart_view ht
  have h1 : t.alarms.bypass = s.restartCore.alarms.bypass := congrArg RestartView.bypass hv
  have h2 : t.alarms.hold = s.restartCore.alarms.hold := congrArg RestartView.hold hv
  rw [s.restartCore_alarms] at h1 h2
  have hphase : s.restartCore.phase = s.phase := (congrArg State.phase s.restartCore_frame :)
  have hrec : s.restartCore.recipes = s.recipes := (congrArg State.recipes s.restartCore_frame :)
  exact ⟨(congrArg RestartView.phase hv :).trans hphase, (congrArg RestartView.recipes hv :).trans hrec, h1, h2⟩

/-- A panel is on HOME with nothing entered (R184). -/
theorem State.restart_panel (ht : Trails t s.restartParts.restartHoming) (hp : s.hasPanel = true) :
    t.panel.stack = [.home] ∧ t.panel.buffer = .empty := by
  obtain ⟨hs, hb⟩ := State.alarmsSettled_panel hp
  have hpanel : s.restartCore.panel = s.alarmsSettled.panel := (congrArg State.panel s.restartCore_frame :)
  rw [← hpanel] at hs hb
  have hbuffer : s.restartParts.restartHoming.panel.buffer = .empty := s.restartParts_trails.1.buffer hb
  exact ⟨(congrArg RestartView.stack (State.restart_view ht) :).trans hs, ht.buffer hbuffer⟩

/-- With nothing for its own tests to find, a restart leaves no alarm, and only the beacon follows the SETTLED frames
(R60, R173, R195; log entry 64). -/
theorem State.restart_quiets (old : State) (ho : s.operating = true) (hl : s.phase ≠ .listening)
    (hw : s.window.state = .empty) (hp : s.pins.stripIn = false) (hf : s.log.full = false)
    (ht : t = State.finish old s.restart.settle) : t.alarms.queue = [] ∧ t.alarms.counter = s.alarms.counter
      ∧ (s.alarms.queue.length < 8 → t.line.waiting = [] ∧ t.line.txQueue.drop s.alarms.queue.length
        = [⟨⟨0, .beacon, encodeBeacon t.beaconView⟩, 0⟩]) := by
  have hstill := State.restartParts_still hw hp hf
  have hframe := s.restartCore_frame
  have hop : s.restartParts.operating = true := by
    rw [hstill.trails.operating, hframe]
    exact ho
  have hlis : s.restartParts.phase ≠ .listening := by
    rw [show s.restartParts.phase = s.restartCore.phase from congrArg RestartView.phase hstill.trails.view, hframe]
    exact hl
  have hwin : s.restartParts.window.state = .empty := by
    rw [hstill.window, hframe]
    exact hw
  rw [s.restart_eq] at ht
  obtain ⟨hal, hq⟩ := State.restartHoming_reports old hop hlis s.restartParts_trails.2 hwin ht
  rw [hstill.alarms, s.restartCore_alarms] at hal
  rw [hstill.line, s.restartCore_line] at hq
  refine ⟨by rw [hal]; rfl, by rw [hal]; rfl, fun hn => ?_⟩
  obtain ⟨hqueue, hwait⟩ := State.alarmsSettled_queue ho hl (Nat.le_of_lt hn)
  have hno : ∀ x ∈ s.alarmsSettled.line.txQueue, x.frame.kind ≠ .beacon := by
    intro x hx
    rw [hqueue] at hx
    obtain ⟨e, -, rfl⟩ := List.mem_map.mp hx
    exact FrameKind.noConfusion
  obtain ⟨hwt, hqt⟩ := hq (by rw [hqueue, List.length_map]; exact hn) hwait hno
  refine ⟨hwt, ?_⟩
  rw [hqt, hqueue]
  exact List.drop_left' (List.length_map _)

/-- The unit in progress is REJECT, the others stay (R6, R60). -/
theorem State.restart_rejects (old : State) (ho : s.operating = true) (hu : s.head.unit = some n)
    (hr : s.window.record = some r) (he : r.entry n = some e) (hst : e.state = .opened ∨ e.state = .partialDone)
    (hw : s.window.state = .clamped) (hp : s.pins.stripOut = true) (hs : s.pull.sample = none)
    (ht : t = State.finish old s.restart.settle) : ∃ r', t.window.record = some r' ∧ r'.entry n = some ⟨.reject, s.stn⟩
      ∧ ∀ m, m ≠ n → r'.entry m = r.entry m := by
  obtain ⟨hparts, hidle⟩ := s.restartParts_trails
  have hop : s.restartParts.operating = true := by
    rw [hparts.operating, s.restartCore_frame]
    exact ho
  have hf : (r.finishUnit n s.stn .reject).Finishes r n s.stn .reject := StripRecord.finishUnit_finishes he hst _ _
  refine ⟨_, ?_, hf.entry, hf.others⟩
  rw [ht, s.restart_eq, State.restartHoming_record old hop hidle]
  exact State.restartParts_record hu hr hw hp hs

end

/-- Settles O20: what the restart has cleared and kept when its homing begins, and the refusal while STARTING. -/
theorem warmRestart : Obligations.WarmRestart := by
  intro h p s hserves
  refine ⟨fun hrun => ?served, fun hrun => exec_restart_starting hserves hrun⟩
  obtain ⟨hop, -, -, -, hlis⟩ := State.serves_iff.mp hserves
  obtain ⟨b, hb⟩ := exec_restart_running (p := p) hserves hrun
  generalize hx : s.heardAsking p h.sender b = x at hb
  have hxo : x.operating = true := by rw [← hx]; exact hop
  have hxl : x.phase ≠ .listening := by rw [← hx]; exact hlis
  have ht := State.restart_trails s hxo
  generalize htf : State.finish s x.restart.settle = t at hb ht
  have hhead := State.restart_head ht
  obtain ⟨hstatus, hworking, htable, hrings⟩ := State.restart_energy ht
  obtain ⟨hsample, hpull, href, hcapable, hclosed⟩ := State.restart_pull ht
  obtain ⟨hservice, hnewest, hspan, hheaders⟩ := State.restart_log ht
  obtain ⟨hphase, hrecipes, hbypass, hhold⟩ := State.restart_settings ht
  obtain ⟨hrefusal, hlast, hpeers⟩ := State.restart_line ht
  have hquiet := State.restart_quiets s (s := x) (t := t) hxo hxl
  have hreject := fun u r e => State.restart_rejects s (s := x) (t := t) (n := u) (r := r) (e := e) hxo
  have hfront := State.restart_front ht hxo hxl
  have hpanel := State.restart_panel ht
  subst hx
  refine ⟨t, hb, hphase.trans (eq_of_beq hrun), ?_, ?_, State.restart_homing ht, ?_, ?_, ?_, ?_, ?_, ?_, ?_, ?_, ?_, ?_,
    hstatus, hworking, htable, hrings, hsample, hpull, href, hcapable, hclosed, hservice, hnewest, hspan, hheaders, hbypass,
    hhold, hrecipes, hrefusal, hlast, hpeers, hfront, State.restart_kinds ht,
    fun hw hp hf => hquiet hw hp hf htf.symm,
    fun u r e hu hr he hst hw hp hs => hreject u r e hu hr he hst hw hp hs htf.symm, hpanel⟩
  all_goals
    rw [hhead]
    rfl

end Sys2Proof.Machine

/-! ## O32: the sums of the open bond (R63 to R65) -/

namespace Sys2Proof.Machine

/-- What the open bond of `e` holds once the samples `l` have joined it: the statement's sums, and the rest as it was. -/
structure Sampled (e : Energy) (l : List (Nat × Nat)) (t : Energy) : Prop where
  count : t.count = l.length
  sum : t.sum = (l.map (fun x => clampSample x.1 * clampSample x.2)).sum
  refSum : t.refSum = ((l.map (fun x => clampSample x.2)).take 200).sum
  tail : t.tail = (l.map (fun x => clampSample x.2)).drop (l.length - l.length / 4)
  tailSum : t.tailSum = t.tail.sum
  status : t.status = e.status
  params : t.params = e.params
  rings : t.rings = e.rings
  working : t.working = e.working
  table : t.table = e.table

section
variable {e t : Energy} {l : List (Nat × Nat)}

theorem tailAfter_snd (tail : List Nat) (i n : Nat) :
    (tailAfter tail tail.sum i n).2 = (tailAfter tail tail.sum i n).1.sum := by
  unfold tailAfter
  split
  · cases tail with
    | nil => simp
    | cons a as =>
      show a + as.sum + i - a = (as ++ [i]).sum
      rw [List.sum_append, List.sum_singleton]
      omega
  · rw [List.sum_append, List.sum_singleton]

/-- A store of the latest quarter stays one (R65). -/
theorem tailAfter_quarter (xs : List Nat) (x i : Nat) :
    (tailAfter (xs.drop (xs.length - xs.length / 4)) x i (xs.length + 1)).1
      = (xs ++ [i]).drop (xs.length + 1 - (xs.length + 1) / 4) := by
  have hlen : (xs.drop (xs.length - xs.length / 4)).length = xs.length / 4 := by
    rw [List.length_drop]
    omega
  have hjoin : xs.drop (xs.length - xs.length / 4) ++ [i] = (xs ++ [i]).drop (xs.length - xs.length / 4) :=
    (List.drop_append_of_le_length (by omega)).symm
  unfold tailAfter
  rw [hlen, hjoin]
  split
  · next h =>
    have hstep : xs.length + 1 - (xs.length + 1) / 4 = (xs.length - xs.length / 4) + 1 := by omega
    rw [hstep, ← List.drop_drop, List.drop_one]
    cases (xs ++ [i]).drop (xs.length - xs.length / 4) <;> rfl
  · next h =>
    have hstep : xs.length + 1 - (xs.length + 1) / 4 = xs.length - xs.length / 4 := by omega
    rw [hstep]

/-- ENABLE opens the bond with nothing summed (R63). -/
theorem Sampled.nil (e : Energy) : Sampled e [] e.cleared := by
  constructor <;> rfl

/-- A sample joins every sum (R64, R65). -/
theorem Sampled.addSample (h : Sampled e l t) (x : Nat × Nat) : Sampled e (l ++ [x]) (t.addSample x.1 x.2) := by
  have hn : (t.addSample x.1 x.2).count = l.length + 1 := congrArg (· + 1) h.count
  have htail : (t.addSample x.1 x.2).tail = (tailAfter t.tail t.tailSum (clampSample x.2) (t.count + 1)).1 := rfl
  have htailSum : (t.addSample x.1 x.2).tailSum = (tailAfter t.tail t.tailSum (clampSample x.2) (t.count + 1)).2 := rfl
  refine ⟨?count, ?sum, ?refSum, ?tail, ?tailSum, h.status, h.params, h.rings, h.working, h.table⟩
  case count => rw [hn, List.length_append, List.length_singleton]
  case sum =>
    show t.sum + clampSample x.1 * clampSample x.2 = _
    rw [h.sum, List.map_append, List.sum_append, List.map_singleton, List.sum_singleton]
  case refSum =>
    show (if t.count + 1 ≤ 200 then t.refSum + clampSample x.2 else t.refSum) = _
    rw [h.count, h.refSum, List.map_append, List.take_append, List.length_map, List.sum_append]
    split
    · next hle =>
      obtain ⟨k, hk⟩ : ∃ k, 200 - l.length = k + 1 := ⟨199 - l.length, by omega⟩
      rw [hk]
      simp
    · next hgt =>
      rw [Nat.sub_eq_zero_of_le (by omega)]
      simp
  case tail =>
    have hq := tailAfter_quarter (l.map (fun x => clampSample x.2)) t.tailSum (clampSample x.2)
    rw [List.length_map, ← h.tail] at hq
    rw [htail, h.count, hq, List.map_append, List.length_append]
    rfl
  case tailSum => rw [htail, htailSum, h.tailSum, tailAfter_snd]

end

/-- Settles O32: by induction on the samples from the last one, each joining what the ones before it have left. -/
theorem samplesAccumulate : Obligations.SamplesAccumulate := by
  intro e l i t
  have h : Sampled e l t := by
    show Sampled e l (l.foldl (fun e x => e.addSample x.1 x.2) e.cleared)
    induction l using List.reverseRecOn with
    | nil => exact .nil e
    | append_singleton l x ih =>
      rw [List.foldl_append]
      exact ih.addSample x
  exact ⟨h.count, h.sum, h.refSum, h.tail, h.tailSum, h.status, h.params, h.rings, h.working, h.table⟩

end Sys2Proof.Machine

/-! ## O33: a sample goes on or ends the bond (R63 to R70, R76) -/

namespace Sys2Proof.Machine

/-! ### What follows a judgement leaves the bond closed (R42, R44, R47) -/

/-- From `s` to `t` no bond has been opened and nothing tallied, a disabled transducer has stayed disabled, and no
request has been taken back. -/
structure KeepsClosed (t s : State) : Prop where
  energy : t.energy = { s.energy with rings := t.energy.rings }
  tally : t.tally = s.tally
  disabled : s.head.enabled = false → t.head.enabled = false
  out : s.out ⊆ t.out

/-- The head has gone on from `s` to `t` to another step of its wire. -/
def StepChange (t s : State) : Prop :=
  t = { s with
    out := t.out, due := t.due, head.next := t.head.next, head.heldFor := t.head.heldFor
    head.state := t.head.state, head.stage := t.head.stage }

section
variable {u t s : State} {k : AlarmKind} {n : NextWork} {y : WireStep}

theorem KeepsClosed.trans (h : KeepsClosed u t) (k : KeepsClosed t s) : KeepsClosed u s where
  energy := by rw [h.energy, k.energy]
  tally := h.tally.trans k.tally
  disabled hs := h.disabled (k.disabled hs)
  out := List.Subset.trans k.out h.out

theorem LineChange.keepsClosed (h : LineChange t s) (ho : s.out ⊆ t.out) : KeepsClosed t s where
  energy := by rw [h.alarm.energy]
  tally := h.alarm.tally
  disabled hs := (congrArg Head.enabled h.alarm.head).trans hs
  out := ho

theorem StepChange.keepsClosed (h : StepChange t s) (ho : s.out ⊆ t.out) : KeepsClosed t s where
  energy := by rw [show t.energy = s.energy from (congrArg State.energy h :)]
  tally := (congrArg State.tally h :)
  disabled hs := (congrArg (fun x : State => x.head.enabled) h :).trans hs
  out := ho

theorem State.withWire_step {f : Recipe → WireEntry → Nat → State} (h : ∀ r w n, StepChange (f r w n) s) :
    StepChange (s.withWire f) s := by
  unfold State.withWire
  split
  · exact h _ _ _
  · rfl

/-- A wire step that opens no bond changes the head's place in its wire, and the requests. -/
theorem State.beginStep_step (s : State) (h1 : y ≠ .firstBond) (h2 : y ≠ .secondBond) :
    StepChange (s.beginStep y) s := by
  have hwith {f : Recipe → WireEntry → Nat → State}
      (h : ∀ r w n, StepChange (f r w n) { s with head.next := .none, head.heldFor := .nothing }) :
      StepChange (({ s with head.next := .none, head.heldFor := .nothing } : State).withWire f) s :=
    State.withWire_step (s := { s with head.next := .none, head.heldFor := .nothing }) h
  cases y with
  | firstBond => exact absurd rfl h1
  | secondBond => exact absurd rfl h2
  | positioning => rfl
  | looping => rfl
  | touchLearn => exact hwith fun _ _ _ => rfl
  | ballDown => exact hwith fun _ _ _ => rfl
  | stitchDown => exact hwith fun _ _ _ => rfl
  | tail => exact hwith fun _ _ _ => rfl
  | sparking => exact hwith fun _ _ _ => rfl

theorem State.beginStep_keepsClosed (old : State) (hc : s.agenda.calm = true) (h1 : y ≠ .firstBond)
    (h2 : y ≠ .secondBond) : KeepsClosed (State.finish old (s.beginStep y).settle) s := by
  have hstep := s.beginStep_step h1 h2
  have hag : (s.beginStep y).agenda = s.agenda := (congrArg State.agenda hstep :)
  obtain ⟨hchange, hout, -⟩ := State.finish_settle_calm (u := s.beginStep y) old (by rw [hag]; exact hc)
  exact (hchange.keepsClosed hout).trans (hstep.keepsClosed (s.beginStep_stands y).toWalks.out)

/-- The head HELD for an alarm, the event over. -/
theorem State.holdFor_keepsClosed (old : State) (ho : s.operating = true) (hc : s.agenda.calm = true) :
    KeepsClosed (State.finish old (s.holdFor k n).settle) s := by
  obtain ⟨hrests, honward, -⟩ := State.holdFor_settled old k n ho hc
  exact
    { energy := hrests.energy
      tally := hrests.tally
      disabled := fun _ => congrArg Head.enabled hrests.head
      out := List.Subset.trans (s.holdFor_stands k n).toWalks.out honward.out }

/-- The wire-out test and the step, or WIRE OUT, the event over. -/
theorem State.wireStep_keepsClosed (old : State) (ho : s.operating = true) (hc : s.agenda.calm = true)
    (h1 : y ≠ .firstBond) (h2 : y ≠ .secondBond) : KeepsClosed (State.finish old (s.wireStep y).settle) s := by
  cases hf : s.wireFine s.pins with
  | true =>
    rw [State.wireStep_fine y hf]
    exact State.beginStep_keepsClosed old hc h1 h2
  | false =>
    rw [State.wireStep_out y hf]
    exact (State.holdFor_keepsClosed (s := { s with head.wireOut := false }) old ho hc).trans
      ⟨rfl, rfl, id, List.Subset.refl _⟩

/-! ### The closed bond at the end of its event (R70) -/

/-- `t` is the end of the event in which the bond closed at `s` was judged. -/
structure BondOver (t s : State) (tried outcome : Tally) : Prop where
  energy : t.energy = { s.energy with rings := t.energy.rings }
  disabled : t.head.enabled = false
  disable : s.head.enabled = true → .disable ∈ t.out
  counters : t.tally.counters = if s.head.untrackedBond then
      ((s.tally.counters.modify tried.index Counter.bump).modify outcome.index Counter.bump).modify 17 Counter.bump
    else (s.tally.counters.modify tried.index Counter.bump).modify outcome.index Counter.bump

theorem State.disableReq_issues (h : s.head.enabled = true) : .disable ∈ s.disableReq.out := by
  rw [State.disableReq, if_pos h]
  exact List.mem_append_right _ (List.mem_singleton.mpr rfl)

theorem State.judged_over (ho : s.operating = true) (b : BondReport) (tried outcome : Tally) (stuck : Bool) :
    BondOver (s.judged b tried outcome stuck) s tried outcome := by
  have hraises := s.judged_raises b tried outcome stuck
  have hjudged := State.judged_judged ho b tried outcome stuck
  have hen : (s.judged b tried outcome stuck).energy = _ := hraises.change.energy
  have hdis : s.disableReq.energy = s.energy := by rw [s.disableReq_frame]
  exact
    { energy := by
        rw [hen]
        show ({ s.disableReq.energy with rings := _ } : Energy) = _
        rw [hdis]
      disabled := by rw [hjudged.head]
      disable := fun h => hraises.out (State.disableReq_issues h)
      counters := hjudged.counters }

theorem KeepsClosed.over {tried outcome : Tally} (h : KeepsClosed u t) (k : BondOver t s tried outcome) :
    BondOver u s tried outcome where
  energy := by rw [h.energy, k.energy]
  disabled := h.disabled k.disabled
  disable hs := h.out (k.disable hs)
  counters := (congrArg Tallies.counters h.tally).trans k.counters

/-- Whatever follows a judgement, the bond is closed and its end tallied. -/
theorem State.concluded_over (old : State) (b : BondReport) (tried outcome : Tally) (stuck : Bool)
    (ho : s.operating = true) (hc : s.agenda.calm = true) (h1 : y ≠ .firstBond) (h2 : y ≠ .secondBond) :
    BondOver (State.finish old (s.concluded b tried outcome stuck y k).settle) s tried outcome := by
  have hjudged := State.judged_judged ho b tried outcome stuck
  have hover := State.judged_over ho b tried outcome stuck
  have hjo : (s.judged b tried outcome stuck).operating = true := hjudged.operating.trans ho
  have hjc : (s.judged b tried outcome stuck).agenda.calm = true := by
    rw [hjudged.agenda]
    exact hc
  unfold State.concluded
  cases stuck with
  | true => exact (State.wireStep_keepsClosed old hjo hjc h1 h2).over hover
  | false => exact (State.holdFor_keepsClosed old hjo hjc).over hover

/-- The attempt is counted once (R196). -/
theorem BondOver.attempted {tried outcome : Tally} (h : BondOver t s tried outcome)
    (hne : outcome.index ≠ tried.index) (h17 : tried.index ≠ 17) (hlen : tried.index < s.tally.counters.length) :
    t.tallyOf tried = ((s.tally.counters.getD tried.index ⟨0, false⟩).bump).value := by
  have hget : t.tally.counters[tried.index]? = s.tally.counters[tried.index]?.map Counter.bump := by
    rw [h.counters]
    split <;> simp [hne, h17.symm]
  unfold State.tallyOf
  rw [List.getD_eq_getElem?_getD, List.getD_eq_getElem?_getD, hget, List.getElem?_eq_getElem hlen]
  rfl

end

theorem firstOutcome_ne (st fl : Bool) : (if !st then Tally.firstNonStick else if fl then .firstFlagged
    else .firstGood).index ≠ Tally.firstAttempted.index := by
  cases st <;> cases fl <;> decide

theorem secondOutcome_ne (st fl : Bool) : (if !st then Tally.secondNonStick else if fl then .secondFlagged
    else .secondGood).index ≠ Tally.secondAttempted.index := by
  cases st <;> cases fl <;> decide

/-! ### The working row (R70, R76) -/

theorem Energy.ended_working (e : Energy) {wire : Nat} (b : BondReport) (hw : 1 ≤ wire) :
    (e.ended wire b).working = e.working.map (fun row => { row with
      wires := row.wires.modify (wire - 1) (fun x =>
        if b.first then (some b.energy, x.2) else (x.1, some b.energy)) }) := by
  unfold Energy.ended Energy.onWire
  simp only [if_neg (Nat.ne_of_gt hw)]

/-! ### The sample that does not end the bond (R64, R66, R67) -/

section
variable {s : State} {p : Pins} {q : OpenParams} {v i : Nat}

theorem endTest_none {b : BondSet} {sum count : Nat} (ht : ¬ b.time * 100 ≤ count)
    (hr : ¬ (b.energyMode = true ∧ 300 ≤ count ∧ 2000000 * b.eTarget ≤ sum + 1000000)) :
    endTest b sum count = none := by
  unfold endTest
  simp only [if_neg ht]
  split
  · next hm => exact if_neg fun h => hr ⟨hm, h⟩
  · rfl

/-- A sample of no bond (R63). -/
theorem exec_sampleIgnored (ho : s.operating = true) (hq : s.energy.params = none) :
    exec (.transducerSample v i p) s = .next (State.finish s (s.begin_ p).settle) := by
  have h : exec (.transducerSample v i p) s = _ := event_operates _ ho
  rw [h, State.takeSample, show (s.begin_ p).energy.params = none from hq]

/-- A sample after which the bond goes on (R64). -/
theorem exec_sampleGoesOn (ho : s.operating = true) (hq : s.energy.params = some q)
    (he : endTest q.params (s.energy.addSample v i).sum (s.energy.addSample v i).count = none) :
    exec (.transducerSample v i p) s
      = .next (State.finish s ({ s.begin_ p with energy := s.energy.addSample v i } : State).settle) := by
  have h : exec (.transducerSample v i p) s = _ := event_operates _ ho
  have hq' : (s.begin_ p).energy.params = some q := hq
  have he' : endTest q.params ((s.begin_ p).energy.addSample v i).sum ((s.begin_ p).energy.addSample v i).count
      = none := he
  have ht : (s.begin_ p).takeSample v i = { s.begin_ p with energy := s.energy.addSample v i } := by
    simp only [State.takeSample, hq', he']
    rfl
  rw [h, ht]

/-! ### The sample that ends the bond (R66 to R70) -/

/-- The tally of the attempt that an open bond is (R196). -/
def BondStatus.attempt (x : BondStatus) : Tally := if x = .openFirst then .firstAttempted else .secondAttempted

theorem exec_sampleEnds_over (ho : s.operating = true) (hq : s.energy.params = some q) {short : Bool}
    (he : endTest q.params (s.energy.addSample v i).sum (s.energy.addSample v i).count = some short) :
    ∃ t outcome, exec (.transducerSample v i p) s = .next t ∧ outcome.index ≠ s.energy.status.attempt.index
      ∧ BondOver t (s.closed p q (s.energy.addSample v i) short) s.energy.status.attempt outcome := by
  have hx := exec_sampleEnds (p := p) ho hq he
  generalize (s.energy.addSample v i).report q short = b at hx
  generalize hc : s.closed p q (s.energy.addSample v i) short = c at hx
  have hop : c.operating = true := by rw [← hc]; exact ho
  have hcalm : c.agenda.calm = true := by rw [← hc]; rfl
  by_cases hf : s.energy.status = .openFirst
  · rw [if_pos (beq_iff_eq.mpr hf), State.endFirstBond_concluded] at hx
    rw [BondStatus.attempt, if_pos hf]
    exact ⟨_, _, hx, firstOutcome_ne _ _, State.concluded_over s b _ _ _ hop hcalm (by decide) (by decide)⟩
  · rw [if_neg (by simpa using hf), State.endSecondBond_concluded] at hx
    rw [BondStatus.attempt, if_neg hf]
    exact ⟨_, _, hx, secondOutcome_ne _ _, State.concluded_over s b _ _ _ hop hcalm (by decide) (by decide)⟩

theorem BondStatus.attempt_index (x : BondStatus) : x.attempt.index = if x = .openFirst then 1 else 6 := by
  unfold BondStatus.attempt
  split <;> rfl

/-- The working row with the energy of the bond that ended (R69, R70). -/
theorem State.closed_working (e : Energy) (short : Bool) (hw : 1 ≤ s.head.wire) :
    (s.closed p q e short).energy.working = e.working.map (fun row => { row with
      wires := row.wires.modify (s.head.wire - 1) (fun x =>
        if e.status = .openFirst then (some (min 65535 ((e.sum + 1000000) / 2000000)), x.2)
        else (x.1, some (min 65535 ((e.sum + 1000000) / 2000000)))) }) := by
  have hfirst : (e.report q short).first = (e.status == .openFirst) := rfl
  show (e.ended s.head.wire (e.report q short)).working = _
  rw [Energy.ended_working e _ hw, Energy.report_energy, hfirst]
  simp only [beq_iff_eq]

end

/-- Settles O33: the end test decides whether the bond goes on; its end closes it, whatever follows the judgement. -/
theorem sampleGoesOnOrEndsBond : Obligations.SampleGoesOnOrEndsBond := by
  intro v i p s ho
  refine ⟨fun hq => ⟨_, exec_sampleIgnored ho hq, State.finish_begin s p⟩, fun q hq => ?_⟩
  intro e full reached energy
  refine ⟨fun hfull hreached => ?goesOn, fun hend _ => ?ends⟩
  case goesOn =>
    exact ⟨_, exec_sampleGoesOn ho hq (endTest_none hfull hreached), State.finish_settle_quiet rfl rfl⟩
  case ends =>
    obtain ⟨t, outcome, hx, hne, hover⟩ :=
      exec_sampleEnds_over (p := p) ho hq (endTest_some (hend.imp_right reachesTarget_iff.mpr))
    have hindex := s.energy.status.attempt_index
    refine ⟨t, hx, (congrArg Energy.status hover.energy :), (congrArg Energy.params hover.energy :), hover.disabled,
      hover.disable, fun hlen => ?counted, fun _ hwire => ?row⟩
    case counted =>
      have hsmall : s.energy.status.attempt.index < 17 := by
        rw [hindex]
        split <;> decide
      have hlong : 17 < s.tally.counters.length := by
        rw [hlen]
        decide
      rw [← hindex]
      exact hover.attempted hne (Nat.ne_of_lt hsmall) (Nat.lt_trans hsmall hlong)
    case row => exact (congrArg Energy.working hover.energy :).trans (State.closed_working (p := p) e _ hwire)

end Sys2Proof.Machine

/-! ## O36: a conditioning cycle (R83, R84) -/

namespace Sys2Proof.Machine

section
variable {s t : State} {p : Pins} {rest : List Due}

/-! ### The cycle's moves (R83) -/

theorem State.conditioned_z (hg : s.head.stage = .condZ) :
    s.conditioned = ({ s with head.stage := .condTable } : State).moveTable (0, 0) .conditioning := by
  rw [State.conditioned, hg]

theorem State.conditioned_table (hg : s.head.stage = .condTable) (hd : s.awaiting .conditioning = false) :
    s.conditioned = ({ s with head.stage := .condClamp } : State).wireClampReq true .conditioning := by
  rw [State.conditioned, hg]
  exact if_neg (by rw [hd]; decide)

/-- What SPARK OK does, for a cycle and for a wire (R46, R83). -/
def State.sparked (s : State) : State := if s.head.state = .conditioning then s.cycleSparked else s.completeWire

theorem State.sparked_cycle (h : s.head.state = .conditioning) : s.sparked = s.cycleSparked := if_pos h

theorem exec_sparkOk_answered (ho : s.operating = true)
    (hd : takeAnswer .spark (fun _ => true) s.due = some (⟨.spark, .fire, true⟩, rest)) :
    exec (.sparkOk p) s = .next (State.finish s (s.answered p rest).sparked.settle) :=
  event_answered (f := fun _ v => v.sparked) ho hd rfl

theorem State.cycleSparked_more (h : s.head.sparks < 3) :
    s.cycleSparked = ({ s with head.sparks := s.head.sparks + 1 } : State).request
      (.fire s.head.cycleSpark.1 s.head.cycleSpark.2) .spark .fire :=
  if_neg (Nat.not_le.mpr h)

theorem State.cycleSparked_last (h : 3 ≤ s.head.sparks) :
    s.cycleSparked = ({ s with head.sparks := 4 } : State).creditCycle.endCycle s.head.occasion :=
  if_pos h

/-! ### The credit of a cycle, and its way out (R83 to R85) -/

/-- The cycle is credited, its beacon not yet placed (R84). -/
def State.cycleCredited (s : State) : State :=
  ({ s with head.debt := s.head.debt - 1 } : State).count .conditioningCycles

theorem State.creditCycle_posts (s : State) : Posts s.creditCycle s.cycleCredited := State.queueBeacon_posts _

theorem State.creditCycle_head (s : State) : s.creditCycle.head = { s.head with debt := s.head.debt - 1 } :=
  s.creditCycle_posts.change.alarm.head

theorem State.creditCycle_windsDown (s : State) : s.creditCycle.windsDown = s.windsDown := by
  rw [State.windsDown, s.creditCycle_head, s.creditCycle_posts.change.alarm.bypass]
  rfl

/-- Where nothing winds down, the way out of a cycle is work that goes on. -/
theorem State.endCycle_onward (o : Occasion) (hw : s.windsDown = false) : Onward (s.endCycle o) s := by
  unfold State.endCycle
  rw [if_neg (by rw [hw]; decide)]
  cases o with
  | boundary => exact s.boundary4_onward
  | forced => exact s.startWire_onward
  | pullIn => exact s.enterParked_onward

/-- A credited cycle's way out, and the tests after it, keep the credit. -/
theorem State.creditCycle_settled (old : State) (o : Occasion) (hf : s.agenda.full = false) (hw : s.windsDown = false) :
    Onward (State.finish old (s.creditCycle.endCycle o).settle) s.cycleCredited := by
  have h : Onward (s.creditCycle.endCycle o) s.cycleCredited :=
    (State.endCycle_onward o (s.creditCycle_windsDown.trans hw)).trans s.creditCycle_posts.onward
  exact (State.finish_settle_onward old _ ((congrArg StripView.full h.strip).trans hf)).trans h

theorem Onward.credited (h : Onward t s.cycleCredited) : t.head.debt = s.head.debt - 1
    ∧ t.head.wireCount = s.head.wireCount ∧ t.tally.counters = s.tally.counters.modify 14 Counter.bump :=
  ⟨congrArg StripView.debt h.strip, congrArg StripView.wireCount h.strip, congrArg StripView.counters h.strip⟩

end

/-- Settles O36: each answer of the cycle makes its next request, and the fourth spark credits it. -/
theorem cycleFiresFourTimes : Obligations.CycleFiresFourTimes := by
  intro p s a rest ho
  refine ⟨fun hd => ⟨fun hg => ?z, fun hg hdone => ?table⟩, fun hd => ?clamp,
    fun hd hs => ⟨fun hlt => ?again, fun hle hwind => ?fourth⟩⟩
  case z =>
    exact event_onward (f := fun _ t => t.conditioned) ho hd rfl
      ((State.conditioned_z (s := s.answered p rest) hg).trans (State.moveTable_answered (0, 0) _))
  case table =>
    exact event_onward (f := fun _ t => t.conditioned) ho hd rfl (State.conditioned_table hg hdone)
  case clamp => exact event_onward (f := fun u t => t.clamped u) ho hd rfl rfl
  case again =>
    refine ⟨_, exec_sparkOk_answered ho hd, ?_⟩
    rw [State.sparked_cycle (s := s.answered p rest) hs, State.cycleSparked_more (s := s.answered p rest) hlt]
    exact State.finish_settle_quiet rfl rfl
  case fourth =>
    refine ⟨_, exec_sparkOk_answered ho hd, ?_⟩
    rw [State.sparked_cycle (s := s.answered p rest) hs, State.cycleSparked_last (s := s.answered p rest) hle]
    exact (State.creditCycle_settled (s := { s.answered p rest with head.sparks := 4 }) s _ rfl hwind).credited

end Sys2Proof.Machine

/-! ## Frames that mark nothing

Only a placed STRIP RECORD and the last frame of a read of the log do more than join the queue (R100, R159); with neither
waiting, frames and beacons change the line, the panel and its buzzer only. -/

namespace Sys2Proof.Machine

/-- The item's placing does nothing but join the queue. -/
def Waiting.plain : Waiting → Bool
  | .frame .stripRecord _ | .frame (.reply .pullRead true) _ => false
  | _ => true

/-- With only plain items waiting in `s`, `t` is `s` but for the line and the panel, and only plain items wait in it. -/
def NewsKept (t s : State) : Prop :=
  (∀ w ∈ s.line.waiting, w.plain = true) → SameButNews t s ∧ ∀ w ∈ t.line.waiting, w.plain = true

section
variable {u t s : State} {w : Waiting}

theorem NewsKept.refl (s : State) : NewsKept s s := fun h => ⟨rfl, h⟩

theorem NewsKept.trans (h : NewsKept u t) (k : NewsKept t s) : NewsKept u s := fun hs =>
  ⟨(h (k hs).2).1.trans (k hs).1, (h (k hs).2).2⟩

theorem PanelChange.newsKept (h : PanelChange t s) : NewsKept t s := fun hs => by
  unfold PanelChange at h
  rw [h]
  exact ⟨rfl, hs⟩

theorem State.placeItem_plain (hw : w.plain = true) (s : State) : SameButNews (s.placeItem w) s := by
  cases w with
  | beaconDue =>
    have h := State.panelBeacon_panel ({ s with
      line.txQueue := s.line.txQueue ++ [⟨s.beaconFrame, 0⟩], line.beaconTimer := some Config.beaconMs } : State)
      s.stn s.beaconView.alarms
    unfold PanelChange at h
    unfold State.placeItem SameButNews
    rw [h]
  | frame o f =>
    unfold State.placeItem State.onPlaced
    dsimp only
    split
    · cases hw
    · cases hw
    · rfl

theorem State.drain_plain (ws : List Waiting) (s : State) (hws : ∀ w ∈ ws, w.plain = true) :
    SameButNews (State.drain ws s) s ∧ ∀ w ∈ (State.drain ws s).line.waiting, w.plain = true := by
  induction ws generalizing s with
  | nil => exact ⟨rfl, hws⟩
  | cons w ws ih =>
    unfold State.drain
    split
    · obtain ⟨h1, h2⟩ := ih (s.placeItem w) fun x hx => hws x (List.mem_cons_of_mem _ hx)
      exact ⟨h1.trans (State.placeItem_plain (hws w List.mem_cons_self) s), h2⟩
    · exact ⟨rfl, hws⟩

/-- A plain item begins to wait, and what waits takes the room there is. -/
theorem State.fill_newsKept (hw : w.plain = true) (s : State) :
    NewsKept ({ s with line.waiting := s.line.waiting ++ [w] } : State).fill s := fun hs =>
  State.drain_plain _ { s with line.waiting := s.line.waiting ++ [w] } fun x hx =>
    (List.mem_append.mp hx).elim (hs x) fun hx => by rw [List.mem_singleton.mp hx]; exact hw

theorem State.submit_newsKept {o : Owner} (f : Frame) (ho : (Waiting.frame o f).plain = true) (s : State) :
    NewsKept (s.submit o f) s := by
  unfold State.submit
  split
  · exact State.fill_newsKept ho s
  · exact .refl s

theorem State.placeBeacon_newsKept (s : State) : NewsKept s.placeBeacon s := by
  unfold State.placeBeacon
  split
  · exact .refl s
  · split
    · exact fun hs => ⟨rfl, hs⟩
    · split
      · exact .refl s
      · exact State.fill_newsKept rfl s

theorem State.withdraw_newsKept (s : State) (d : Owner → Bool) : NewsKept (s.withdraw d) s := fun hs =>
  ⟨rfl, fun w hw => hs w (List.mem_filter.mp hw).1⟩

theorem State.beaconAfter_newsKept (s old : State) : NewsKept (s.beaconAfter old) s := by
  unfold State.beaconAfter
  split
  · exact s.placeBeacon_newsKept
  · exact .refl s

/-- A change of the agenda is no news. -/
theorem SameButNews.with_agenda (h : SameButNews t s) (a : Agenda) :
    SameButNews { t with agenda := a } { s with agenda := a } := by
  unfold SameButNews at *
  rw [h]

/-- What follows an effect that makes no other test due than a beacon's, with only plain items waiting. -/
theorem State.finish_settle_plain (old : State) (hc : s.agenda.calm = true)
    (hw : ∀ w ∈ s.line.waiting, w.plain = true) :
    SameButNews (State.finish old s.settle) { s with agenda := Agenda.none } := by
  rw [State.settle_calm hc]
  exact ((State.keepLine_news_only _).trans (s.beaconAfter_newsKept old hw).1).with_agenda Agenda.none

/-- An alarm settled that makes no test due: but for its beacon, its settling is news (R164, R167). -/
theorem State.removeAlarm_newsKept (s : State) (e : AlarmEntry) (c : Choice) (r : Nat)
    (hk : e.kind.holdsWindow = false ∧ e.kind ≠ .feedJam) :
    ∃ u, s.removeAlarm e c r = u.askBeacon
      ∧ NewsKept u { s with alarms.queue := s.alarms.queue.filter (fun x => x.seq != e.seq) } :=
  ⟨_, State.askSettled_of_other hk _, ((State.placeBeacon_newsKept _).trans (State.panelSettled_panel _ _ _).newsKept).trans
    ((State.submit_newsKept _ rfl _).trans (State.withdraw_newsKept _ _))⟩

end

end Sys2Proof.Machine

/-! ## O16: CONTINUE of CONDITIONING FAULT and of LOG FULL, and FORWARD (R84, R111, R156, R167) -/

namespace Sys2Proof.Machine

section
variable {s t : State} {h : Hdr} {p : Pins} {e : AlarmEntry} {seq : Nat} {k : AlarmKind}

theorem exec_continue (h : Hdr) (n seq : Nat) (p : Pins) (s : State) :
    exec (.continue_ h n seq p) s = response s h n seq .cont p := rfl

theorem exec_forward (h : Hdr) (n seq : Nat) (p : Pins) (s : State) :
    exec (.forward h n seq p) s = response s h n seq .forward p := rfl

theorem State.afterHearing_again (ha : s.hearsAgain h = true) : s.afterHearing p h.sender = s.heardFrom p h.sender := by
  rw [State.afterHearing, State.heard_again ha]
  rfl

/-- CONTINUE of CONDITIONING FAULT at a homed head credits the cycle and takes its way out (R84). -/
theorem State.choiceEffect_credits (hh : s.heldForAlarm = true) :
    s.choiceEffect .conditioningFault .cont = s.creditCycle.endCycle s.head.occasion := by
  obtain ⟨⟨⟨hs, hf⟩, hm⟩, hb⟩ := State.heldForAlarm_iff.mp hh
  simp [State.choiceEffect, State.headChoice, State.continueCycle, State.homeElse, State.creditCycle_head, hs, hf, hm, hb]

/-- The fault settled and the cycle credited, the event over. -/
theorem State.continueCycle_settled {u v : State} (old : State) (hp : Posts u v) (hh : v.heldForAlarm = true)
    (hw : v.head.winding = false) (hf : v.agenda.full = false) :
    Onward (State.finish old (u.choiceEffect .conditioningFault .cont).settle) u.cycleCredited
      ∧ u.head = v.head ∧ u.tally = v.tally := by
  have hc := hp.change.alarm
  have hu : u.heldForAlarm = true := by
    rw [State.heldForAlarm, hc.head, hc.bypass]
    exact hh
  have hwind : u.windsDown = false := by
    rw [State.windsDown, hc.head, hc.bypass, hw, (State.heldForAlarm_iff.mp hh).2]
    rfl
  rw [State.choiceEffect_credits hu]
  exact ⟨State.creditCycle_settled old _ ((congrArg Agenda.full hp.agenda).trans hf) hwind, hc.head, hc.tally⟩

/-- FORWARD of either alarm marks the strip in the window, which then waits (R111). -/
theorem State.choiceEffect_forward (hk : k = .recordLost ∨ k = .staleGeneration) (hr : s.window.record.isSome = true) :
    s.choiceEffect k .forward = ({ s with window.forward := true } : State).askStrip := by
  have hm : s.markForward = ({ s with window.forward := true } : State).askStrip := if_pos hr
  rcases hk with rfl | rfl
  · exact hm
  · exact hm

/-- The alarm settled and the strip marked, the event over. -/
theorem State.forward_settled {u v : State} (old : State) (hp : Posts u v) (hf : v.agenda.full = false)
    (hr : v.window.record.isSome = true) (hk : k = .recordLost ∨ k = .staleGeneration)
    (ht : t = State.finish old ((u.askSettled k).choiceEffect k .forward).settle) :
    t.window.forward = true ∧ t.window.record = v.window.record ∧ t.alarmOpen k = v.alarmOpen k := by
  have hrec : (u.askSettled k).window.record = v.window.record :=
    (u.askSettled_change k).alarm.record.trans hp.change.alarm.record
  have halarms : (u.askSettled k).alarms = v.alarms := (u.askSettled_change k).alarms.trans hp.change.alarms
  have hfull : (u.askSettled k).agenda.full = false :=
    (u.askSettled_full k).trans ((congrArg Agenda.full hp.agenda).trans hf)
  have hstart : k ∉ startAlarms := by rcases hk with rfl | rfl <;> decide
  rw [State.choiceEffect_forward hk (by rw [hrec]; exact hr)] at ht
  have hon := State.finish_settle_onward old
    (({ u.askSettled k with window.forward := true } : State).askStrip) hfull
  rw [← ht] at hon
  refine ⟨congrArg StripView.forward hon.strip, (congrArg StripView.record hon.strip).trans hrec,
    (hon.alarmOpen_eq hstart).trans ?_⟩
  exact congrArg (fun a : Alarms => a.queue.any (fun e => e.kind == k)) halarms

end

/-- Settles O16: each choice settles its alarm, then credits the cycle, does nothing more, or marks the strip. -/
theorem continueAndForward : Obligations.ContinueAndForward := by
  intro h seq p s e ha he
  have hseq := State.alarmOf_seq he
  refine ⟨fun hk hh hw => ?credits, fun hk hwait => ?logFull, fun hk hr => ?forward⟩
  case credits =>
    rw [exec_continue, response_settles ha he (by rw [hk]; decide), hk]
    have hp := (s.heardFrom p h.sender).removeAlarm_posts e .cont h.sender (by rw [hk]; decide)
    obtain ⟨hon, hhead, htally⟩ := State.continueCycle_settled s hp hh hw rfl
    obtain ⟨hdebt, -, hcount⟩ := hon.credited
    rw [hhead] at hdebt
    rw [htally] at hcount
    exact ⟨_, rfl, hdebt, hcount⟩
  case logFull =>
    rw [exec_continue, response_settles ha he (by rw [hk]; decide), hk]
    obtain ⟨u, hu, hn⟩ := (s.heardFrom p h.sender).removeAlarm_newsKept e .cont h.sender (by rw [hk]; decide)
    have hnone : (s.heardFrom p h.sender).line.waiting = [] := hwait
    obtain ⟨hsame, hplain⟩ := hn (by rw [hnone]; exact List.forall_mem_nil _)
    have hcalm : u.askBeacon.agenda.calm = true := by
      unfold SameButNews at hsame
      rw [hsame]
      rfl
    rw [hu, State.afterHearing_again ha, ← hseq]
    exact ⟨_, rfl, (State.finish_settle_plain s hcalm hplain).trans (hsame.with_agenda Agenda.none)⟩
  case forward =>
    have hchoice : e.kind.choices.contains .forward = true := by rcases hk with hk | hk <;> rw [hk] <;> decide
    obtain ⟨u, hu, hp⟩ := (s.heardFrom p h.sender).removeAlarm_asks e .forward h.sender
    rw [exec_forward, response_settles ha he hchoice, hu, ← hseq]
    exact ⟨_, rfl, State.forward_settled s hp rfl hr hk rfl⟩

end Sys2Proof.Machine

/-! ## Frames of another station: for others, discarded, or heard again

A good frame of another station counts for L and presence; unless it is the downstream station's first, it makes no test
due (R96, R188, R190). -/

namespace Sys2Proof.Machine

section
variable {s : State} {h : Hdr} {p : Pins} {c : Instr}

/-- Of every frame but a BEACON its owner alone takes anything (R186). -/
theorem exec_receive (hc : c.header = some h) (hb : ∀ g b p, c ≠ .beacon g b p) :
    ∃ f, exec c s = receive s h c.pins f := by
  cases c with
  | beacon g b p => exact absurd rfl (hb g b p)
  | restart | offer | take | decline | stripRecord | alarm | settled | retry | skipUnit | passStrip | resume | continue_
  | forward | grade | hold | release | bypass | resumeBonding | recipeSegment | recipeActivate | tallySnapshot
  | tallyRead | pullRead | collected | skipSlots | magazineRead | errorDetail | discardedFrame =>
    obtain rfl := Option.some.inj hc
    simp only [exec, execRestart, execOffer, execTake, execDecline, execStripRecord, execAlarm, execSettled, execRetry,
      execSkipUnit, execPassStrip, execResume, execContinue, execForward, execGrade, execHold, execRelease, execBypass,
      execResumeBonding, execRecipeSegment, execRecipeActivate, execTallySnapshot, execTallyRead, execPullRead,
      execCollected, execSkipSlots, execMagazineRead, execErrorDetail, execDiscardedFrame, response, request]
    exact ⟨_, rfl⟩
  | _ => exact nomatch hc

/-- A station heard before, or one that is not downstream, leaves the waiting strip alone (R96). -/
theorem State.heard_known {n : Nat} (hk : s.isPresent n = true ∨ n ≠ s.stn + 1) :
    (s.begin_ p).heard n = s.heardFrom p n := by
  have hp : ¬ ((s.begin_ p).isPresent n = false ∧ n = (s.begin_ p).stn + 1) := by
    rintro ⟨hfirst, hdown⟩
    rcases hk with hk | hk
    · exact Bool.noConfusion (hfirst.symm.trans hk)
    · exact hk hdown
  unfold State.heard
  exact if_neg hp

/-- A frame of another station, known or not downstream: its owner acts on it where it is addressed here (R186). -/
theorem receive_known (ho : s.operating = true) (h1 : 1 ≤ h.sender) (h7 : h.sender ≤ 7) (hne : h.sender ≠ s.stn)
    (hk : s.isPresent h.sender = true ∨ h.sender ≠ s.stn + 1) (p : Pins) (f : State → State) :
    receive s h p f = .next (State.finish s
      (if s.addressed h then f (s.heardFrom p h.sender) else s.heardFrom p h.sender).settle) := by
  have hbad : ¬ (h.sender = 0 ∨ 7 < h.sender) := by omega
  have hdup : h.sender ≠ (s.begin_ p).stn := hne
  unfold receive receiveWith
  rw [event_operates _ ho]
  simp only [if_neg hbad, if_neg hdup, State.heard_known hk]
  rfl

/-- A frame that is heard, and not as the downstream station's first, is its owner's alone to act on. -/
theorem receive_again (ha : s.hearsAgain h = true) (p : Pins) (f : State → State) :
    receive s h p f = .next (State.finish s (f (s.heardFrom p h.sender)).settle) := by
  obtain ⟨hh, hk⟩ : s.hears h = true ∧ (s.isPresent h.sender = true ∨ h.sender ≠ s.stn + 1) := by
    simpa [State.hearsAgain] using ha
  obtain ⟨ho, ⟨h1, h7⟩, hne, hto⟩ := State.hears_iff.mp hh
  have haddr : s.addressed h = true := by simpa [State.addressed] using hto
  rw [receive_known ho h1 h7 hne hk, if_pos haddr]

/-- A frame that nobody here acts on leaves the state as it has been heard. -/
theorem State.finish_heardFrom (s : State) (p : Pins) (n : Nat) :
    SameButLine (State.finish s (s.heardFrom p n).settle) (s.heardFrom p n) :=
  State.finish_settle_quiet rfl rfl

end

/-- Settles O4: such a frame is heard and no more, and a bad frame changes nothing that a beacon carries. -/
theorem frameForOthersCountsForPresence : Obligations.FrameForOthersCountsForPresence := by
  refine ⟨fun c h s hc hb hto ho h1 h7 hne hk => ?heard, fun p s ho => ?bad⟩
  case heard =>
    suffices he : exec c s = .next (State.finish s (s.heardFrom c.pins h.sender).settle) from
      ⟨_, he, s.finish_heardFrom c.pins h.sender⟩
    rcases hto with ⟨hall, hown⟩ | ⟨p, rfl⟩
    · obtain ⟨f, hf⟩ := exec_receive (s := s) hc hb
      have haddr : ¬ s.addressed h = true := by simp [State.addressed, hall, hown]
      rw [hf, receive_known ho h1 h7 hne hk, if_neg haddr]
    · have hf : exec (.discardedFrame h p) s = receive s h p fun t => t := rfl
      rw [hf, receive_known ho h1 h7 hne hk, ite_self]
      rfl
  case bad => exact ⟨_, event_operates State.takeBadFrame ho, State.finish_settle_quiet rfl rfl⟩

end Sys2Proof.Machine

/-! ## O11: a STRIP RECORD (R15, R92, R102) -/

namespace Sys2Proof.Machine

section
variable {s : State} {h : Hdr} {payload : List Byte}

/-- The STRIP RECORD is the upstream station's for the strip that is coming (R92, R102). -/
def State.expectsRecord (s : State) (h : Hdr) (payload : List Byte) : Prop :=
  h.sender + 1 = s.stn ∧ 4 ≤ payload.length ∧ payload.length ≤ 64 ∧ s.window.state = .inbound
    ∧ s.window.inboundSerial = some (field payload 0 4)

/-- What a STRIP RECORD does once it is heard. -/
def State.hearRecord (s : State) (h : Hdr) (payload : List Byte) : State :=
  if within payload.length 4 64 then fromUpstream s h (fun u => u.takeRecord payload) else s

theorem State.hearRecord_expected (he : s.expectsRecord h payload) :
    (∀ r, checkRecord payload = some r → s.hearRecord h payload = { s with window.inbound := some r })
      ∧ (checkRecord payload = none →
        s.hearRecord h payload = { s with line.badRecords := bump16 s.line.badRecords }) := by
  obtain ⟨hup, h4, h64, hw, hs⟩ := he
  have hin : within payload.length 4 64 = true := by simp [within, h4, h64]
  have e : s.hearRecord h payload = s.takeRecord payload := by
    rw [State.hearRecord, if_pos hin, fromUpstream, if_pos hup]
  refine ⟨fun r hr => ?_, fun hr => ?_⟩ <;>
  simp only [e, State.takeRecord, hw, hs, and_self, if_true, hr]

theorem State.hearRecord_other (he : ¬ s.expectsRecord h payload) : s.hearRecord h payload = s := by
  unfold State.hearRecord fromUpstream State.takeRecord
  split
  · next hin =>
    split
    · next hup =>
      refine if_neg fun ⟨hw, hs⟩ => he ⟨hup, ?_, ?_, hw, hs⟩ <;> simp [within] at hin <;> omega
    · rfl
  · rfl

end

/-- Settles O11: a record expected is checked, any other leaves the state as the frame has been heard. -/
theorem stripRecordIsChecked : Obligations.StripRecordIsChecked := by
  intro h payload p s ha
  have hx : exec (.stripRecord h payload p) s = _ := receive_again ha p fun t => t.hearRecord h payload
  refine ⟨_, hx, ?_⟩
  rw [State.afterHearing_again ha]
  split
  · next he =>
    obtain ⟨hpass, hfail⟩ := State.hearRecord_expected (s := s.heardFrom p h.sender) he
    cases hr : checkRecord payload with
    | some r =>
      rw [hpass r hr]
      exact State.finish_settle_quiet rfl rfl
    | none =>
      rw [hfail hr]
      exact State.finish_settle_quiet rfl rfl
  · next he =>
    rw [State.hearRecord_other (s := s.heardFrom p h.sender) he]
    exact s.finish_heardFrom p h.sender

end Sys2Proof.Machine

/-! ## O9: the answer to an OFFER (R99) -/

namespace Sys2Proof.Machine

section
variable {s v : State} {h : Hdr} {p : Pins} {serial reason n : Nat}

/-- With room and nothing waiting, a frame joins the queue at once (R191). -/
theorem State.submit_free (hn : 1 ≤ n) (h : s.lineFree n = true) (o : Owner) (f : Frame) :
    s.submit o f = State.onPlaced { s with line.txQueue := s.placed f } o := by
  obtain ⟨hlen, hw, ho, hl⟩ := State.lineFree_iff.mp h
  have hlt : s.line.txQueue.length < Config.txPlaces := by omega
  have hroom : ({ s with line.waiting := [.frame o f] } : State).lineHasRoom = true := by
    have hop : ({ s with line.waiting := [.frame o f] } : State).operating = true := ho
    simp [State.lineHasRoom, hop, hl, hlt]
  have e : s.submit o f = State.drain [.frame o f] { s with line.waiting := [.frame o f] } := by
    simp [State.submit, ho, State.fill, hw]
  rw [e, State.drain, if_pos hroom, State.drain, State.placeItem]
  unfold State.onPlaced
  split
  · split <;> rw [← hw] <;> rfl
  · rw [← hw]; rfl
  · rw [← hw]; rfl

/-- Every frame of the upstream station is heard again: it is not the downstream station's first. -/
theorem State.hearsAgain_of_upstream (hh : s.hears h = true) (hup : h.sender + 1 = s.stn) : s.hearsAgain h = true := by
  have hne : h.sender ≠ s.stn + 1 := by omega
  simp [State.hearsAgain, hh, hne]

/-- An OFFER of the upstream station is answered, but not during the listen (R192). -/
theorem execOffer_answers (hh : s.hears h = true) (hup : h.sender + 1 = s.stn) (hl : s.phase ≠ .listening) :
    exec (.offer h serial p) s = .next (State.finish s ((s.heardFrom p h.sender).answerOffer serial).settle) := by
  have hx : exec (.offer h serial p) s = _ := receive_again (s.hearsAgain_of_upstream hh hup) p
    fun t => if t.phase = .listening then t else fromUpstream t h (fun u => u.answerOffer serial)
  have hrun : (s.heardFrom p h.sender).phase ≠ .listening := hl
  have hfrom : h.sender + 1 = (s.heardFrom p h.sender).stn := hup
  rw [hx, if_neg hrun, fromUpstream, if_pos hfrom]

/-- A DECLINE at the end of its event: it joins the queue, and the window stays. -/
theorem State.decline_settled (hfree : s.lineFree 2 = true) (hup : n + 1 = s.stn) :
    let t := State.finish s ((s.heardFrom p n).decline serial reason).settle
    SameButNews t { s with pins := p, agenda := Agenda.none, window := t.window }
      ∧ t.line.txQueue = s.placed ⟨n, .decline, beBytes 4 serial ++ [byteOf reason]⟩ ∧ t.window = s.window := by
  have hn : n = s.stn - 1 := by omega
  have hfree' : (s.heardFrom p n).lineFree 2 = true := hfree
  have e : (s.heardFrom p n).decline serial reason = { s.heardFrom p n with
      line.txQueue := s.placed ⟨n, .decline, beBytes 4 serial ++ [byteOf reason]⟩ } := by
    rw [State.decline, State.submit_free (by decide) hfree', hn]
    rfl
  intro t
  have k : SameButLine t _ := State.finish_settle_quiet (u := (s.heardFrom p n).decline serial reason) (by rw [e]; rfl)
    (by rw [e]; rfl)
  rw [e] at k
  unfold SameButLine at k
  unfold SameButNews
  rw [k]
  exact ⟨rfl, rfl, rfl⟩

/-- A TAKE at the end of its event, from a state that differs from the one heard by its window `w` and by a beacon. -/
theorem State.takeStrip_settled {w : Window} (fromEmpty : Bool) (hup : n + 1 = s.stn) (hroom : v.roomBeside)
    (hc : v.agenda.calm = true) (hv : SameButNews v { s with pins := p, agenda := v.agenda, window := w }) :
    let t := State.finish s (v.takeStrip serial fromEmpty).settle
    SameButNews t { s with pins := p, agenda := Agenda.none, window := t.window }
      ∧ ⟨⟨n, .take, beBytes 4 serial⟩, 0⟩ ∈ t.line.txQueue ∧ t.window = w := by
  have hstn : v.stn = s.stn := (congrArg State.stn hv :)
  have hn : n = v.stn - 1 := by omega
  have hwait : v.line.waiting = [] := (State.lineFree_iff.mp hroom.free).2.1
  obtain ⟨hnews, hplain⟩ := State.submit_newsKept (o := .take fromEmpty) ⟨v.stn - 1, .take, beBytes 4 serial⟩ rfl v
    (by rw [hwait]; exact List.forall_mem_nil _)
  have hposts := v.submit_posts (.take fromEmpty) ⟨v.stn - 1, .take, beBytes 4 serial⟩
  have hcalm : (v.takeStrip serial fromEmpty).agenda.calm = true := hposts.calm.trans hc
  intro t
  have k : SameButNews t { v with agenda := Agenda.none } :=
    (State.finish_settle_plain s hcalm hplain).trans (hnews.with_agenda Agenda.none)
  have hall := k.trans (hv.with_agenda Agenda.none)
  have hwin : t.window = w := (congrArg State.window hall :)
  refine ⟨?_, (State.finish_settle_calm s hcalm).2.2 _ ?_ FrameKind.noConfusion, hwin⟩
  · rwa [hwin]
  · rw [hn]
    exact State.submit_placed (by decide) hroom.free _ _

/-- The window as an OFFER taken from EMPTY leaves it, the answer not yet placed (R99). -/
def State.awaitsStrip (s : State) (serial : Nat) : State :=
  { s with
    window.state := .inbound
    window.inbound := none
    window.inboundSerial := some serial
    window.arrivalTimer := some Config.arrivalMs }

/-- With nothing waiting, a queued beacon is news: it leaves what the state has been made from (R191). -/
theorem State.queueBeacon_newsOnly (hw : s.line.waiting = []) :
    SameButNews s.queueBeacon { s with agenda := s.queueBeacon.agenda } := by
  have k := State.placeBeacon_news hw
  unfold SameButNews at *
  rw [State.queueBeacon, k]
  rfl

/-- The arrival timer started again (R99). -/
def State.arrivalRestarted (s : State) : State := { s with window.arrivalTimer := some Config.arrivalMs }

/-- R99's table, line by line. -/
theorem State.answerOffer_table (s : State) (serial : Nat) : s.answerOffer serial =
    if s.running = false ∨ s.alarmOpen .transferJam = true then s.decline serial 4
    else if s.recipes.active = none then s.decline serial 3
    else if s.alarms.hold ≠ [] then s.decline serial 2
    else if s.window.state = .empty then (s.awaitsStrip serial).queueBeacon.takeStrip serial true
    else if s.window.state = .inbound ∧ s.window.inboundSerial = some serial then
      s.arrivalRestarted.takeStrip serial false
    else s.decline serial 1 := by
  simp only [State.answerOffer, State.holding, Bool.or_eq_true, Bool.not_eq_true', Option.isNone_iff_eq_none,
    List.isEmpty_eq_false_iff]
  rfl

/-- The table on what the frame's hearing leaves of the state. -/
theorem State.answerOffer_heard (s : State) (p : Pins) (n serial : Nat) : (s.heardFrom p n).answerOffer serial =
    if s.running = false ∨ s.alarmOpen .transferJam = true then (s.heardFrom p n).decline serial 4
    else if s.recipes.active = none then (s.heardFrom p n).decline serial 3
    else if s.alarms.hold ≠ [] then (s.heardFrom p n).decline serial 2
    else if s.window.state = .empty then ((s.heardFrom p n).awaitsStrip serial).queueBeacon.takeStrip serial true
    else if s.window.state = .inbound ∧ s.window.inboundSerial = some serial then
      (s.heardFrom p n).arrivalRestarted.takeStrip serial false
    else (s.heardFrom p n).decline serial 1 :=
  (s.heardFrom p n).answerOffer_table serial

end

/-- Settles O9: each line of the table is a branch of the answer, and nothing else becomes due. -/
theorem offerIsAnsweredByTable : Obligations.OfferIsAnsweredByTable := by
  intro h serial p s hh hup hfree
  obtain ⟨-, hwait, -, hl⟩ := State.lineFree_iff.mp hfree
  have hroom : (s.heardFrom p h.sender).roomBeside := .inl hfree
  refine ⟨_, execOffer_answers hh hup hl, ?_⟩
  rw [State.answerOffer_heard]
  by_cases hfault : s.running = false ∨ s.alarmOpen .transferJam = true
  · simp only [if_pos hfault]
    exact State.decline_settled hfree hup
  by_cases hrecipe : s.recipes.active = none
  · simp only [if_neg hfault, if_pos hrecipe]
    exact State.decline_settled hfree hup
  by_cases hhold : s.alarms.hold ≠ []
  · simp only [if_neg hfault, if_neg hrecipe, if_pos hhold]
    exact State.decline_settled hfree hup
  by_cases hempty : s.window.state = .empty
  · simp only [if_neg hfault, if_neg hrecipe, if_neg hhold, if_pos hempty]
    have hbeacon := State.queueBeacon_newsOnly (s := (s.heardFrom p h.sender).awaitsStrip serial) hwait
    exact State.takeStrip_settled (v := ((s.heardFrom p h.sender).awaitsStrip serial).queueBeacon) (p := p)
      (serial := serial) true hup (State.queueBeacon_roomBeside (State.roomBeside_congr hroom rfl rfl rfl))
      ((State.queueBeacon_posts _).calm.trans rfl) hbeacon
  by_cases hagain : s.window.state = .inbound ∧ s.window.inboundSerial = some serial
  · simp only [if_neg hfault, if_neg hrecipe, if_neg hhold, if_neg hempty, if_pos hagain]
    exact State.takeStrip_settled (v := (s.heardFrom p h.sender).arrivalRestarted) false hup hroom rfl rfl
  · simp only [if_neg hfault, if_neg hrecipe, if_neg hhold, if_neg hempty, if_neg hagain]
    exact State.decline_settled hfree hup

end Sys2Proof.Machine

/-! ## The window while no strip is leaving

Of what is placed on the station line only a STRIP RECORD marks the window, and only while it is OUTBOUND (R100). -/

namespace Sys2Proof.Machine

/-- Nothing that waits for room would start the strip moving (R100). -/
def State.beltRests (s : State) : Prop := s.window.state ≠ .outbound ∨ s.noRecordWaits

/-- With the belt at rest in `s`, `t` has the window of `s`, and the belt is at rest in `t`. -/
def WindowKept (t s : State) : Prop := s.beltRests → t.window = s.window ∧ t.beltRests

section
variable {u t s : State}

theorem WindowKept.refl (s : State) : WindowKept s s := fun h => ⟨rfl, h⟩

theorem WindowKept.trans (h : WindowKept u t) (k : WindowKept t s) : WindowKept u s := fun hs =>
  ⟨(h (k hs).2).1.trans (k hs).1, (h (k hs).2).2⟩

/-- Out of OUTBOUND the window alone decides. -/
theorem WindowKept.of_window (h : t.window = s.window) (hl : t.line.waiting = s.line.waiting) : WindowKept t s := by
  intro hs
  refine ⟨h, ?_⟩
  unfold State.beltRests State.noRecordWaits at hs ⊢
  rwa [h, hl]

theorem PanelChange.window (h : PanelChange t s) : t.window = s.window := (congrArg State.window h :)

theorem PanelChange.windowKept (h : PanelChange t s) : WindowKept t s :=
  .of_window h.window (congrArg (fun x : State => x.line.waiting) h :)

theorem State.onPlaced_window {o : Owner} {f : Frame}
    (h : s.window.state ≠ .outbound ∨ (Waiting.frame o f).isRecord = false) : (s.onPlaced o).window = s.window := by
  unfold State.onPlaced
  split
  · split
    · next hout => exact h.elim (absurd hout.1) nofun
    · rfl
  · rfl
  · rfl

theorem State.placeItem_window {w : Waiting} (h : s.window.state ≠ .outbound ∨ w.isRecord = false) :
    (s.placeItem w).window = s.window := by
  cases w with
  | beaconDue => exact (State.panelBeacon_panel _ _ _).window
  | frame o f => exact State.onPlaced_window (s := { s with line.txQueue := s.line.txQueue ++ [⟨f, 0⟩] }) h

/-- Items take their places: the window stays unless a STRIP RECORD of a strip that is leaving is among them. -/
theorem State.drain_window (ws : List Waiting) (s : State)
    (h : s.window.state ≠ .outbound ∨ ∀ w ∈ ws, w.isRecord = false) :
    (State.drain ws s).window = s.window ∧ (State.drain ws s).beltRests := by
  induction ws generalizing s with
  | nil => exact ⟨rfl, .inr (State.noRecordWaits_nil rfl)⟩
  | cons w ws ih =>
    unfold State.drain
    split
    · have hw : (s.placeItem w).window = s.window :=
        State.placeItem_window (h.imp_right fun k => k w List.mem_cons_self)
      have hrest : (s.placeItem w).window.state ≠ .outbound ∨ ∀ w ∈ ws, w.isRecord = false := by
        rw [hw]
        exact h.imp_right fun k x hx => k x (List.mem_cons_of_mem _ hx)
      obtain ⟨h1, h2⟩ := ih (s.placeItem w) hrest
      exact ⟨h1.trans hw, h2⟩
    · exact ⟨rfl, h⟩

/-- An item other than a STRIP RECORD begins to wait, and what waits takes the room there is. -/
theorem State.fill_windowKept {w : Waiting} (hw : w.isRecord = false) (s : State) :
    WindowKept ({ s with line.waiting := s.line.waiting ++ [w] } : State).fill s := fun hs =>
  State.drain_window _ { s with line.waiting := s.line.waiting ++ [w] } (hs.imp_right fun k x hx =>
    (List.mem_append.mp hx).elim (k x) fun hx => by rw [List.mem_singleton.mp hx]; exact hw)

theorem State.submit_windowKept {o : Owner} (f : Frame) (ho : (Waiting.frame o f).isRecord = false) (s : State) :
    WindowKept (s.submit o f) s := by
  unfold State.submit
  split
  · exact State.fill_windowKept ho s
  · exact .refl s

theorem State.placeBeacon_windowKept (s : State) : WindowKept s.placeBeacon s := by
  unfold State.placeBeacon
  split
  · exact .refl s
  · split
    · exact .of_window rfl rfl
    · split
      · exact .refl s
      · exact State.fill_windowKept rfl s

theorem State.queueBeacon_windowKept (s : State) : WindowKept s.queueBeacon s :=
  WindowKept.trans (.of_window rfl rfl) s.placeBeacon_windowKept

theorem State.addAlarm_windowKept (s : State) (e : AlarmEntry) : WindowKept (s.addAlarm e) s := by
  have hadd : WindowKept { s with alarms.queue := s.alarms.queue ++ [e], alarms.counter := nextSeq e.seq } s :=
    .of_window rfl rfl
  have hsend := (State.submit_windowKept (o := .alarm e.seq) (alarmFrame e) rfl _).trans hadd
  exact (State.queueBeacon_windowKept _).trans ((State.panelAlarm_panel _ _ _ _ _).windowKept.trans hsend)

theorem State.raise_windowKept (s : State) (k : AlarmKind) : WindowKept (s.raise k) s := by
  unfold State.raise
  split
  · exact .refl s
  · exact s.addAlarm_windowKept _

theorem State.finish_windowKept (old s : State) : WindowKept (State.finish old s) s := by
  have hb : WindowKept (s.beaconAfter old) s := by
    unfold State.beaconAfter
    split
    · exact s.placeBeacon_windowKept
    · exact .refl s
  have hk : WindowKept (s.beaconAfter old).keepLine (s.beaconAfter old) := by
    unfold State.keepLine
    split <;> exact .of_window rfl rfl
  exact WindowKept.trans (.of_window rfl rfl) (hk.trans hb)

end

end Sys2Proof.Machine

/-! ## O41: the timers of a transfer (R105, R106) -/

namespace Sys2Proof.Machine

section
variable {s u old : State} {p : Pins}

/-- The window with its timers stopped, TRANSFER JAM not yet raised (R105, R106). -/
def State.timersStopped (s : State) : State :=
  { s with
    window := { s.window with offerTimer := none, arrivalTimer := none, exitTimer := none }
    outMag.unloadTimer := none }

theorem State.jamWindow_eq (s : State) : s.jamWindow = s.timersStopped.raise .transferJam := rfl

/-- A jam at the end of its event: TRANSFER JAM is open, and the window has lost its timers only. -/
theorem State.jamWindow_settled (old : State) (ho : s.operating = true) (hc : s.agenda.calm = true) (hb : s.beltRests) :
    (State.finish old s.jamWindow.settle).alarmOpen .transferJam = true
      ∧ (State.finish old s.jamWindow.settle).window = { s.window with
        offerTimer := none, arrivalTimer := none, exitTimer := none } := by
  have hr : Raises [.transferJam] s.jamWindow s.timersStopped := State.raise_raises _ (List.mem_singleton.mpr rfl)
  have hopen : s.jamWindow.alarmOpen .transferJam = true := State.raise_open s.timersStopped .transferJam ho
  have hcalm : s.jamWindow.agenda.calm = true := by
    rw [hr.agenda]
    exact hc
  have hkept : WindowKept (State.finish old s.jamWindow) s.timersStopped :=
    (State.finish_windowKept old _).trans (State.raise_windowKept _ _)
  rw [State.settle_calm hcalm]
  refine ⟨?_, (hkept hb).1⟩
  rw [State.alarmOpen, (State.finish_change old _).alarms]
  exact hopen

/-- The window EMPTY again, its beacon not yet placed. -/
def State.emptied (s : State) : State :=
  ({ s with
    window.state := .empty
    window.inbound := none
    window.inboundSerial := none
    window.arrivalTimer := none } : State).askFeed

theorem State.emptyWindow_eq (s : State) : s.emptyWindow = s.emptied.queueBeacon := rfl

/-- The window given back at the end of its event: a feed may begin in it, which leaves it EMPTY (R105, R119). -/
theorem State.emptyWindow_settled (old : State) (hc : s.agenda = Agenda.none) :
    Onward (State.finish old s.emptyWindow.settle) s.emptied
      ∧ News (State.finish old s.emptyWindow.settle) s.emptied := by
  rw [State.emptyWindow_eq]
  have hp := s.emptied.queueBeacon_posts
  generalize s.emptied.queueBeacon = x at hp
  have hag : x.agenda = { Agenda.none with feed := true, beacon := x.agenda.beacon } := by
    rw [hp.agenda, ← hc]
    rfl
  have hfull : x.agenda.full = false := by rw [hag]; rfl
  have hpoint : x.settlePoint = x := by
    unfold State.settlePoint
    rw [hag]
    rfl
  have hsettle : News x.settle x := State.settle_news hpoint (by rw [hag]; rfl) (by rw [hag]; rfl) hfull
  exact ⟨(State.finish_settle_onward old x hfull).trans hp.onward,
    (State.finish_news old _).trans (hsettle.trans hp.news)⟩

/-- A window that work has gone on from EMPTY is EMPTY. -/
theorem Onward.empty (h : Onward u s) (hw : s.window.state = .empty) : u.window.state = .empty := by
  rcases h.window with e | ⟨hc, -⟩
  · exact e.trans hw
  · exact nomatch hw.symm.trans hc

/-- What a withdrawal changes of the line: no TAKE waits, and the withdrawal is counted (R105). -/
def State.takeWithdrawn (s : State) : State :=
  { s.withdraw Owner.isTake with line.withdrawn := bump16 s.line.withdrawn }

theorem State.arrivalExpired_withdraws (h : s.window.inbound = none) :
    s.arrivalExpired = s.takeWithdrawn.emptyWindow := by
  rw [State.arrivalExpired, h]
  rfl

theorem State.arrivalExpired_jams {r : StripRecord} (h : s.window.inbound = some r) :
    s.arrivalExpired = s.jamWindow := by
  rw [State.arrivalExpired, h]

theorem exec_arrivalTimerExpiry (ho : s.operating = true) (hw : s.window.state = .inbound)
    (ht : s.window.arrivalTimer.isSome = true) :
    exec (.arrivalTimerExpiry p) s = .next (State.finish s (s.begin_ p).arrivalExpired.settle) :=
  (event_operates _ ho).trans (by rw [if_pos]; exact ⟨ht, hw⟩)

theorem exec_exitTimerExpiry (ho : s.operating = true) (hw : s.window.state = .outbound)
    (ht : s.window.exitTimer.isSome = true) :
    exec (.exitTimerExpiry p) s = .next (State.finish s (s.begin_ p).jamWindow.settle) :=
  (event_operates _ ho).trans (by rw [if_pos]; exact ⟨ht, hw⟩)

theorem exec_beltFault {rest : List Due} (ho : s.operating = true) (hw : s.window.state = .outbound)
    (hd : takeAnswer (.axis .b) (fun u => u == .belt) s.due = some (⟨.axis .b, .belt, true⟩, rest))
    (he : s.isEnd = false ∨ s.outMag.unloader = .unloading) :
    exec (.beltFault p) s = .next (State.finish s (s.answered p rest).jamWindow.settle) := by
  have hx : exec (.beltFault p) s = _ := event_answered (p := p) (f := fun _ t => t.beltFaulted) ho hd rfl
  have hjam : (s.answered p rest).beltFaulted = (s.answered p rest).jamWindow := if_pos ⟨hw, he⟩
  rw [hx, hjam]

/-- A jam makes no request of the belt while no STRIP RECORD waits. -/
theorem State.jamWindow_due (old : State) (hc : s.agenda.calm = true) (hb : s.noRecordWaits) :
    (State.finish old s.jamWindow.settle).due = s.due := by
  have hr : Raises [.transferJam] s.jamWindow s.timersStopped := State.raise_raises _ (List.mem_singleton.mpr rfl)
  have hcalm : s.jamWindow.agenda.calm = true := by
    rw [hr.agenda]
    exact hc
  rw [State.settle_calm hcalm]
  exact (((State.finish_dueKept old _).trans (State.raise_dueKept s.timersStopped .transferJam)) hb).1

end

/-- Settles O41: a withdrawal gives the window back, and every other expiry or fault jams it as it stands. -/
theorem transferTimersExpire : Obligations.TransferTimersExpire := by
  intro p s ho
  refine ⟨fun hw ht => ⟨fun hin hlt => ?withdrawn, fun r hin => ?arrival⟩, fun hw hwait => ⟨fun ht => ?exit,
    fun rest hd he => ?fault⟩⟩
  case withdrawn =>
    obtain ⟨hon, hnews⟩ := State.emptyWindow_settled (s := (s.begin_ p).takeWithdrawn) s rfl
    refine ⟨_, exec_arrivalTimerExpiry ho hw ht, ?_⟩
    rw [State.arrivalExpired_withdraws (s := s.begin_ p) hin]
    exact ⟨hon.empty rfl, congrArg StripView.inboundSerial hon.strip, congrArg StripView.arrivalTimer hon.strip,
      (congrArg Ledger.withdrawn hnews.1).trans (if_pos hlt)⟩
  case arrival =>
    refine ⟨_, exec_arrivalTimerExpiry ho hw ht, ?_⟩
    rw [State.arrivalExpired_jams (s := s.begin_ p) hin]
    exact State.jamWindow_settled s ho rfl (.inl (by rw [State.begin_window, hw]; decide))
  case exit =>
    exact ⟨_, exec_exitTimerExpiry ho hw ht, State.jamWindow_settled (s := s.begin_ p) s ho rfl
      (.inr (State.noRecordWaits_nil hwait))⟩
  case fault =>
    have hrest : (s.answered p rest).noRecordWaits := State.noRecordWaits_nil hwait
    obtain ⟨hopen, hwin⟩ := State.jamWindow_settled (s := s.answered p rest) s ho rfl (.inr hrest)
    exact ⟨_, exec_beltFault ho hw hd he, hopen, State.jamWindow_due s rfl hrest, hwin⟩

end Sys2Proof.Machine

/-! ## What the start of a unit or of a cycle leaves of the window

The head's test at the end of an event may hold the head for WIRE OUT, whose ALARM and beacon are placed on the line; it
asks the record port for nothing (R38, R39, R87). -/

namespace Sys2Proof.Machine

/-- No test is due but, perhaps, the head's, the waiting strip's and a beacon. -/
def Agenda.ofStrip (a : Agenda) : Bool := !a.point && !a.feed && !a.place && !a.full && !a.port

/-- With the belt at rest the window stays, and the record port is asked for nothing more. -/
structure WindowStays (t s : State) : Prop where
  window : WindowKept t s
  port : t.agenda.port = s.agenda.port

section
variable {u t s : State}

theorem WindowStays.trans (h : WindowStays u t) (k : WindowStays t s) : WindowStays u s :=
  ⟨h.window.trans k.window, h.port.trans k.port⟩

/-- An update of other parts than the window, the line and the agenda. -/
theorem WindowStays.of_eq (hw : t.window = s.window) (hl : t.line = s.line) (ha : t.agenda.port = s.agenda.port) :
    WindowStays t s :=
  ⟨.of_window hw (congrArg Line.waiting hl), ha⟩

theorem State.holdFor_stays (s : State) (k : AlarmKind) (n : NextWork) : WindowStays (s.holdFor k n) s := by
  have hd : WindowKept s.disableReq s := by
    unfold State.disableReq
    split <;> exact .of_window rfl rfl
  have hr : WindowKept (s.disableReq.raise k) s := (State.raise_windowKept _ k).trans hd
  exact ⟨WindowKept.trans (.of_window rfl rfl) hr, (congrArg Agenda.port (s.holdFor_agenda k n) :)⟩

theorem State.startWire_stays (s : State) : WindowStays s.startWire s := by
  unfold State.startWire State.wireStep State.wireGate
  dsimp only
  split
  · exact .of_eq rfl rfl rfl
  · split
    · exact .of_eq rfl rfl rfl
    · split
      · exact (State.holdFor_stays _ _ _).trans (.of_eq rfl rfl rfl)
      · exact .of_eq rfl rfl rfl

theorem State.selectUnit_stays (s : State) : WindowStays s.selectUnit s := by
  unfold State.selectUnit
  split
  · split <;> exact .of_eq rfl rfl rfl
  · exact .of_eq rfl rfl rfl

theorem State.settleHead_stays (s : State) : WindowStays s.settleHead s := by
  unfold State.settleHead
  split
  · split
    · exact (State.startWire_stays _).trans s.selectUnit_stays
    · split <;> exact .of_eq rfl rfl rfl
  · exact .of_eq rfl rfl rfl

/-- No feed is tested with a strip in the window (R119). -/
theorem State.settleFeed_of_strip (h : s.window.state ≠ .empty) : s.settleFeed = s := by
  have hb : (s.window.state == .empty) = false := beq_eq_false_iff_ne.mpr h
  have hno : s.feedAllowed = false := by simp [State.feedAllowed, hb]
  unfold State.settleFeed State.testFeed
  rw [hno]
  split <;> rfl

/-- A strip that waits for a fresh beacon is not offered (R98, R101). -/
theorem State.settleStrip_of_freshWait (hw : s.window.freshWait = true) (he : s.isEnd = false) : s.settleStrip = s := by
  have hoff : s.offerable = false := by simp [State.offerable, hw]
  unfold State.settleStrip
  rw [State.evaluateStrip_stays (.inr ⟨hoff, he⟩)]
  exact ite_self _

/-- A strip CLAMPED that waits for a fresh beacon stays so at the end of an event that asks for the head's and the
waiting strip's tests only. -/
theorem State.finish_settle_clamped (old : State) (ha : s.agenda.ofStrip = true) (hs : s.window.state = .clamped)
    (hw : s.window.freshWait = true) (he : s.isEnd = false) : (State.finish old s.settle).window = s.window := by
  obtain ⟨⟨⟨⟨hpoint, -⟩, hplace⟩, hfull⟩, hport⟩ : (((s.agenda.point = false ∧ s.agenda.feed = false)
      ∧ s.agenda.place = false) ∧ s.agenda.full = false) ∧ s.agenda.port = false := by
    simpa [Agenda.ofStrip] using ha
  have hnopoint : s.settlePoint = s := by simp [State.settlePoint, hpoint]
  obtain ⟨hwin, hrest⟩ := s.settleHead_stays.window (.inl (by rw [hs]; decide))
  have hport' : s.settleHead.agenda.port = false := s.settleHead_stays.port.trans hport
  have hend : s.settleHead.isEnd = false := by
    rw [State.isEnd, s.settleHead_stands.toWalks.straps]
    exact he
  unfold State.settle
  split
  · rw [State.settlePlace_of_calm hplace hfull, hnopoint,
      State.settleStrip_of_freshWait (by rw [hwin]; exact hw) hend,
      State.settleFeed_of_strip (by rw [hwin, hs]; decide), State.settlePort, if_neg (by rw [hport']; decide)]
    exact (State.finish_windowKept old _ hrest).1.trans hwin
  · exact (State.finish_windowKept old s (.inl (by rw [hs]; decide))).1

end

end Sys2Proof.Machine

/-! ## O10: the end of an offer (R100, R101) -/

namespace Sys2Proof.Machine

section
variable {s : State} {h : Hdr} {serial : Nat}

/-- The window whose offer has ended without a TAKE (R101). -/
def Window.unoffered (w : Window) : Window := { w with state := .clamped, freshWait := true, offerTimer := none }

/-- The offer withdrawn and the head's test due, the beacon not yet placed (R101). -/
def State.offerEnded (s : State) : State :=
  (({ s with window := s.window.unoffered } : State).withdraw (fun o => o == .offer)).askHead

theorem State.endOffer_eq (s : State) : s.endOffer = s.offerEnded.queueBeacon := rfl

/-- The offer ended at the end of its event: the strip is not offered again yet. -/
theorem State.endOffer_settled (old : State) (ha : s.agenda.ofStrip = true) (he : s.isEnd = false) :
    (State.finish old s.endOffer.settle).window = s.window.unoffered := by
  have hp := s.offerEnded.queueBeacon_posts
  obtain ⟨hwin, -⟩ := State.queueBeacon_windowKept s.offerEnded (.inl WindowState.noConfusion)
  rw [← State.endOffer_eq] at hp hwin
  have hend : s.endOffer.isEnd = false := by
    rw [State.isEnd, hp.change.alarm.straps]
    exact he
  have hag : s.endOffer.agenda.ofStrip = true := by
    rw [hp.agenda]
    exact ha
  rw [State.finish_settle_clamped old hag (by rw [hwin]; rfl) (by rw [hwin]; rfl) hend, hwin]
  rfl

/-- What the placing of its STRIP RECORD `f` does for a strip: the clamp is opened and the belt runs (R100). -/
def State.sentOff (s : State) (f : Frame) : State :=
  (({ s with line.txQueue := s.placed f, window.recordQueued := true } : State).stripClampReq false).beltOut

theorem State.submit_stripRecord (f : Frame) (hfree : s.lineFree 1 = true) (hw : s.window.state = .outbound)
    (hq : s.window.recordQueued = false) : s.submit .stripRecord f = s.sentOff f := by
  rw [State.submit_free (Nat.le_refl 1) hfree]
  exact if_pos ⟨hw, hq⟩

/-- The window OUTBOUND, its STRIP RECORD not yet placed and no OFFER waiting (R100). -/
def State.leaving (s : State) : State :=
  ({ s with
    window.state := .outbound
    window.offerTimer := none
    window.exitTimer := some Config.exitMs
    window.recordQueued := false } : State).withdraw (fun o => o == .offer)

theorem State.acceptTake_eq (s : State) (r : StripRecord) : s.acceptTake r =
    s.leaving.queueBeacon.submit .stripRecord ⟨s.stn + 1, .stripRecord, encodeRecord r⟩ := rfl

/-- The strip handed over, its record placed and its belt running (R100). -/
def State.handedOver (s : State) : State :=
  { s with
    due := s.due ++ [⟨.stripClamp, .clampStrip, true⟩, ⟨.axis .b, .belt, true⟩]
    window.state := .outbound, window.offerTimer := none, window.exitTimer := some 2000
    window.recordQueued := true }

/-- A TAKE accepted with room in the queue: the STRIP RECORD is placed and the strip is on its way. -/
theorem State.acceptTake_sends (r : StripRecord) (hfree : s.lineFree 2 = true) :
    ∃ v, s.acceptTake r = State.sentOff v ⟨s.stn + 1, .stripRecord, encodeRecord r⟩ ∧ v.line.waiting = []
      ∧ SameButNews v { s.leaving with agenda := { s.agenda with beacon := true } } := by
  obtain ⟨hlen, hwait, ho, hl⟩ := State.lineFree_iff.mp hfree
  have hleft : s.leaving.line.waiting = [] := by
    rw [State.leaving, State.withdraw]
    simp [hwait]
  have hroom : s.leaving.queueBeacon.roomBeside :=
    State.queueBeacon_roomBeside (.inl (State.lineFree_iff.mpr ⟨hlen, hleft, ho, hl⟩))
  have hnews := State.queueBeacon_newsOnly hleft
  have hag : s.leaving.queueBeacon.agenda = { s.agenda with beacon := true } :=
    congrArg (fun a : Agenda => { a with beacon := true }) s.leaving.placeBeacon_posts.agenda
  have hwin : s.leaving.queueBeacon.window = s.leaving.window := (congrArg State.window hnews :)
  rw [hag] at hnews
  refine ⟨s.leaving.queueBeacon, ?_, (State.lineFree_iff.mp hroom.free).2.1, hnews⟩
  rw [State.acceptTake_eq]
  exact State.submit_stripRecord _ hroom.free (by rw [hwin]; rfl) (by rw [hwin]; rfl)

/-- A strip that is leaving does not wait for its pass evaluation (R96). -/
theorem State.settle_leaving (hw : s.window.state ≠ .clamped) (ha : s.agenda = { Agenda.none with
    strip := s.agenda.strip, beacon := s.agenda.beacon }) : s.settle = s := by
  have hb : (s.window.state == .clamped) = false := beq_eq_false_iff_ne.mpr hw
  have hstrip : s.settleStrip = s := by simp [State.settleStrip, State.stripWaits, hb]
  have hpoint : s.settlePoint = s := by rw [State.settlePoint, ha]; rfl
  have hhead : s.settleHead = s := by rw [State.settleHead, ha]; rfl
  have hfeed : s.settleFeed = s := by rw [State.settleFeed, ha]; rfl
  have hport : s.settlePort = s := by rw [State.settlePort, ha]; rfl
  unfold State.settle
  rw [State.settlePlace_of_calm (by rw [ha]; rfl) (by rw [ha]; rfl), hpoint, hhead, hstrip, hfeed, hport]
  exact ite_self _

section
variable {v : State} {f : Frame}

theorem State.sentOff_queued : ⟨f, 0⟩ ∈ (v.sentOff f).line.txQueue :=
  List.mem_append_right _ (List.mem_singleton.mpr rfl)

theorem State.sentOff_requests : .stripClamp false ∈ (v.sentOff f).out ∧ .beltOut ∈ (v.sentOff f).out := by
  simp [State.sentOff, State.stripClampReq, State.beltOut, State.request]

/-- The strip of a window that is leaving, sent off, is handed over. -/
theorem State.sentOff_news {a : Agenda} (h : SameButNews v { s.leaving with agenda := a }) :
    SameButNews (v.sentOff f) { s.handedOver with agenda := a } := by
  have hdue : (s.due ++ [⟨.stripClamp, .clampStrip, true⟩]) ++ [⟨.axis .b, .belt, true⟩]
      = s.due ++ [⟨.stripClamp, .clampStrip, true⟩, ⟨.axis .b, .belt, true⟩] := List.append_assoc ..
  unfold SameButNews at h ⊢
  rw [h, State.handedOver, ← hdue]
  rfl

end

/-- A TAKE of station `n` accepted at the end of its event (R100). -/
theorem State.acceptTake_settled {n : Nat} (old : State) (r : StripRecord) (hn : n = s.stn + 1)
    (hfree : s.lineFree 2 = true) (ha : s.agenda = { Agenda.none with strip := s.agenda.strip }) :
    let t := State.finish old (s.acceptTake r).settle
    ⟨⟨n, .stripRecord, encodeRecord r⟩, 0⟩ ∈ t.line.txQueue ∧ .stripClamp false ∈ t.out ∧ .beltOut ∈ t.out
      ∧ SameButNews t { s.handedOver with agenda := Agenda.none } := by
  obtain ⟨v, hv, hwait, hnews⟩ := s.acceptTake_sends r hfree
  rw [← hn] at hv
  have hframe := State.sentOff_queued (v := v) (f := ⟨n, .stripRecord, encodeRecord r⟩)
  obtain ⟨hclamp, hbelt⟩ := State.sentOff_requests (v := v) (f := ⟨n, .stripRecord, encodeRecord r⟩)
  have hover := State.sentOff_news (f := ⟨n, .stripRecord, encodeRecord r⟩) hnews
  have hnone : (v.sentOff ⟨n, .stripRecord, encodeRecord r⟩).line.waiting = [] := hwait
  rw [hv]
  generalize v.sentOff ⟨n, .stripRecord, encodeRecord r⟩ = u at hframe hclamp hbelt hover hnone
  have hag : u.agenda = { Agenda.none with strip := s.agenda.strip, beacon := true } := by
    rw [show u.agenda = { s.agenda with beacon := true } from (congrArg State.agenda hover :), ha]
  have hwin : u.window.state = .outbound := (congrArg (fun x : State => x.window.state) hover :)
  have hsettle : u.settle = u := State.settle_leaving (by rw [hwin]; decide) (by rw [hag])
  have hon := State.finish_onward old u (by rw [hag]; rfl)
  have hend : SameButNews (State.finish old u) { u with agenda := Agenda.none } :=
    ((State.keepLine_news_only _).trans (u.beaconAfter_newsKept old (by rw [hnone]; exact List.forall_mem_nil _)).1
      ).with_agenda Agenda.none
  rw [hsettle]
  exact ⟨hon.frames _ hframe FrameKind.noConfusion, hon.out hclamp, hon.out hbelt,
    hend.trans (hover.with_agenda Agenda.none)⟩

/-- A frame of the downstream station is heard and acted on; it may be the first frame of it (R92, R96). -/
theorem receive_downstream (hh : s.hears h = true) (hdown : h.sender = s.stn + 1) (p : Pins) (f : State → State) :
    ∃ b, receive s h p (fun t => fromDownstream t h f)
      = .next (State.finish s (f (s.heardAsking p h.sender b)).settle) := by
  obtain ⟨b, hx⟩ := receive_heard hh p fun t => fromDownstream t h f
  have hfrom : h.sender = (s.heardAsking p h.sender b).stn + 1 := hdown
  rw [fromDownstream, if_pos hfrom] at hx
  exact ⟨b, hx⟩

/-- The frame of sender `n` does not answer the offer of this strip (R100, R101). -/
def State.unmatched (s : State) (n serial : Nat) : Prop :=
  n ≠ s.stn + 1 ∨ s.window.state ≠ .offered ∨ serial ≠ s.windowSerial

theorem State.takeTake_unmatched (hu : s.unmatched h.sender serial) :
    fromDownstream s h (fun u => u.takeTake serial) = s := by
  unfold fromDownstream State.takeTake
  split
  · next hdown =>
    dsimp only
    split
    · next r hr =>
      refine if_neg fun ⟨hw, hs⟩ => ?_
      have hser : s.windowSerial = r.serial := by rw [State.windowSerial, hr]
      rcases hu with hu | hu | hu
      · exact hu hdown
      · exact hu hw
      · exact hu (hs.trans hser.symm)
    · rfl
  · rfl

theorem State.takeDecline_unmatched (hu : s.unmatched h.sender serial) :
    fromDownstream s h (fun u => u.takeDecline serial) = s := by
  unfold fromDownstream State.takeDecline
  split
  · next hdown =>
    refine if_neg fun ⟨hw, hs⟩ => ?_
    rcases hu with hu | hu | hu
    · exact hu hdown
    · exact hu hw
    · exact hu hs
  · rfl

end

/-- Settles O10: a TAKE that matches hands the strip over, a DECLINE or the timer ends the offer, and a frame that does
not match is heard only. -/
theorem offerEndsInTakeOrDecline : Obligations.OfferEndsInTakeOrDecline := by
  refine ⟨fun h p s r hh hdown hfree hw hr => ?take, fun h serial reason p s he => ⟨fun hh hdown hw hs => ?decline,
    fun ho hw ht => ?timer, fun ha hu => ⟨?otherDecline, ?otherTake⟩⟩⟩
  case take =>
    obtain ⟨b, hx⟩ := receive_downstream hh hdown p fun u => u.takeTake r.serial
    have htake : (s.heardAsking p h.sender b).takeTake r.serial = (s.heardAsking p h.sender b).acceptTake r := by
      have hr' : (s.heardAsking p h.sender b).window.record = some r := hr
      rw [State.takeTake, hr']
      exact if_pos ⟨hw, rfl⟩
    rw [htake] at hx
    obtain ⟨hq, hc, hb, hn⟩ := State.acceptTake_settled (s := s.heardAsking p h.sender b) s r hdown hfree rfl
    exact ⟨_, hx, hq, hc, hb, hn⟩
  case decline =>
    obtain ⟨b, hx⟩ := receive_downstream hh hdown p fun u => u.takeDecline serial
    have hend : (s.heardAsking p h.sender b).takeDecline serial = (s.heardAsking p h.sender b).endOffer :=
      if_pos ⟨hw, hs⟩
    rw [hend] at hx
    exact ⟨_, hx, State.endOffer_settled (s := s.heardAsking p h.sender b) s rfl he⟩
  case timer =>
    have hx : exec (.offerTimerExpiry p) s = .next (State.finish s (s.begin_ p).endOffer.settle) :=
      (event_operates _ ho).trans (by rw [if_pos]; exact ⟨ht, hw⟩)
    exact ⟨_, hx, State.endOffer_settled (s := s.begin_ p) s rfl he⟩
  case otherDecline =>
    have hx : exec (.decline h serial reason p) s = _ :=
      receive_again ha p fun t => fromDownstream t h (fun u => u.takeDecline serial)
    rw [State.takeDecline_unmatched (s := s.heardFrom p h.sender) hu] at hx
    rw [State.afterHearing_again ha]
    exact ⟨_, hx, s.finish_heardFrom p h.sender⟩
  case otherTake =>
    have hx : exec (.take h serial p) s = _ :=
      receive_again ha p fun t => fromDownstream t h (fun u => u.takeTake serial)
    rw [State.takeTake_unmatched (s := s.heardFrom p h.sender) hu] at hx
    rw [State.afterHearing_again ha]
    exact ⟨_, hx, s.finish_heardFrom p h.sender⟩

end Sys2Proof.Machine

/-! ## Skip ranges merged (R126)

`slotRange` and `rangesLawful_cons` say what a lawful list of ranges is; a merge absorbs what its range touches, covers
the same slots, and stands apart from what is left. -/

namespace Sys2Proof.Machine

/-- A range of slots 1..20. -/
def slotRange (r : Nat × Nat) : Prop := 1 ≤ r.1 ∧ r.1 ≤ r.2 ∧ r.2 ≤ Config.slots

theorem rangesLawful_cons (a : Nat × Nat) (rs : List (Nat × Nat)) : rangesLawful (a :: rs) = true ↔
    slotRange a ∧ (∀ x ∈ rs, a.2 + 1 < x.1) ∧ rangesLawful rs = true := by
  induction rs generalizing a with
  | nil => simp [rangesLawful, slotRange, and_assoc]
  | cons b rest ih =>
    have hdef : rangesLawful (a :: b :: rest) = true ↔
        (1 ≤ a.1 ∧ a.1 ≤ a.2 ∧ a.2 + 1 < b.1) ∧ rangesLawful (b :: rest) = true := by
      simp [rangesLawful, and_assoc]
    rw [hdef]
    refine ⟨fun ⟨⟨h1, h2, h3⟩, hb⟩ => ?_, fun ⟨⟨h1, h2, _⟩, hx, hb⟩ =>
      ⟨⟨h1, h2, hx b List.mem_cons_self⟩, hb⟩⟩
    obtain ⟨⟨-, hle, htop⟩, hrest, -⟩ := (ih b).mp hb
    refine ⟨⟨h1, h2, by omega⟩, fun x hx => ?_, hb⟩
    rcases List.mem_cons.mp hx with rfl | hx
    · exact h3
    · have := hrest x hx
      omega

theorem rangesLawful_mem {rs : List (Nat × Nat)} (h : rangesLawful rs = true) : ∀ r ∈ rs, slotRange r := by
  induction rs with
  | nil => exact fun r hr => absurd hr List.not_mem_nil
  | cons a rs ih =>
    obtain ⟨ha, -, hrs⟩ := (rangesLawful_cons a rs).mp h
    exact List.forall_mem_cons.mpr ⟨ha, ih hrs⟩

theorem rangesLawful_sublist {ps rs : List (Nat × Nat)} (hs : ps.Sublist rs) (h : rangesLawful rs = true) :
    rangesLawful ps = true := by
  induction hs with
  | slnil => rfl
  | cons a _ ih => exact ih ((rangesLawful_cons a _).mp h).2.2
  | cons_cons a hsub ih =>
    obtain ⟨ha, hall, hrs⟩ := (rangesLawful_cons a _).mp h
    exact (rangesLawful_cons a _).mpr ⟨ha, fun x hx => hall x (hsub.subset hx), ih hrs⟩

theorem touches_iff (a b : Nat × Nat) : touches a b = true ↔ a.1 ≤ b.2 + 1 ∧ b.1 ≤ a.2 + 1 := by
  simp [touches]

theorem covered_iff (rs : List (Nat × Nat)) (n : Nat) : covered rs n = true ↔ ∃ r ∈ rs, r.1 ≤ n ∧ n ≤ r.2 := by
  simp [covered]

/-! ### A range at its place -/

theorem mem_insertRange {r x : Nat × Nat} {l : List (Nat × Nat)} : x ∈ insertRange r l ↔ x = r ∨ x ∈ l := by
  induction l with
  | nil => simp [insertRange]
  | cons y ys ih =>
    unfold insertRange
    split
    · simp
    · rw [List.mem_cons, ih, List.mem_cons, or_left_comm]

theorem length_insertRange (r : Nat × Nat) (l : List (Nat × Nat)) : (insertRange r l).length = l.length + 1 := by
  induction l with
  | nil => rfl
  | cons y ys ih =>
    unfold insertRange
    split
    · rfl
    · rw [List.length_cons, ih, List.length_cons]

theorem covered_insertRange (r : Nat × Nat) (l : List (Nat × Nat)) (n : Nat) :
    covered (insertRange r l) n = covered (r :: l) n := by
  rw [Bool.eq_iff_iff, covered_iff, covered_iff]
  simp only [mem_insertRange, List.mem_cons]

/-- A range that touches no other takes its place among lawful ones. -/
theorem insertRange_lawful {r : Nat × Nat} {l : List (Nat × Nat)} (hr : slotRange r) (hl : rangesLawful l = true)
    (ht : ∀ x ∈ l, touches r x = false) : rangesLawful (insertRange r l) = true := by
  induction l with
  | nil => exact (rangesLawful_cons r []).mpr ⟨hr, fun x hx => absurd hx List.not_mem_nil, rfl⟩
  | cons x xs ih =>
    obtain ⟨hx, hxs, hlaw⟩ := (rangesLawful_cons x xs).mp hl
    have hapart : ¬ (r.1 ≤ x.2 + 1 ∧ x.1 ≤ r.2 + 1) := by
      rw [← touches_iff, ht x List.mem_cons_self]
      exact Bool.false_ne_true
    obtain ⟨-, hr12, -⟩ := id hr
    obtain ⟨-, hx12, -⟩ := id hx
    unfold insertRange
    split
    · next hlt =>
      refine (rangesLawful_cons r _).mpr ⟨hr, fun y hy => ?_, hl⟩
      rcases List.mem_cons.mp hy with rfl | hy
      · omega
      · have := hxs y hy
        omega
    · next hge =>
      refine (rangesLawful_cons x _).mpr ⟨hx, fun y hy => ?_, ih hlaw fun y hy => ht y (List.mem_cons_of_mem _ hy)⟩
      rcases mem_insertRange.mp hy with rfl | hy
      · omega
      · exact hxs y hy

/-! ### The merge -/

/-- What the merge of `r` into the ranges `held` leaves: a range `q` that contains `r`, apart from the ranges `rest`. -/
structure Merges (r : Nat × Nat) (held : List (Nat × Nat)) (q : Nat × Nat) (rest : List (Nat × Nat)) : Prop where
  sub : rest.Sublist held
  apart : ∀ x ∈ rest, touches q x = false
  range : slotRange q
  inside : q.1 ≤ r.1 ∧ r.2 ≤ q.2
  covers : ∀ n, covered (q :: rest) n = covered (r :: held) n
  fewer : held.any (touches r) = true → rest.length < held.length
  same : held.any (touches r) = false → rest = held

/-- Two ranges that touch, taken together, cover what each of them covers. -/
theorem covers_absorbed {r t : Nat × Nat} {held : List (Nat × Nat)} (hr : slotRange r) (hm : t ∈ held)
    (hs : slotRange t) (ht : touches r t = true) (n : Nat) :
    covered ((min r.1 t.1, max r.2 t.2) :: held.filter (fun x => !touches r x || x != t)) n
      = covered (r :: held) n := by
  obtain ⟨-, hr2, -⟩ := hr
  obtain ⟨-, hs2, -⟩ := hs
  rw [touches_iff] at ht
  rw [Bool.eq_iff_iff, covered_iff, covered_iff]
  constructor
  · rintro ⟨x, hx, hn⟩
    rcases List.mem_cons.mp hx with rfl | hx
    · by_cases hin : r.1 ≤ n ∧ n ≤ r.2
      · exact ⟨r, List.mem_cons_self, hin⟩
      · exact ⟨t, List.mem_cons_of_mem _ hm, by dsimp only at hn; omega⟩
    · exact ⟨x, List.mem_cons_of_mem _ (List.mem_of_mem_filter hx), hn⟩
  · rintro ⟨x, hx, hn⟩
    by_cases hxt : x = r ∨ x = t
    · refine ⟨_, List.mem_cons_self, ?_⟩
      rcases hxt with rfl | rfl <;> dsimp only <;> omega
    · rw [not_or] at hxt
      have hmem : x ∈ held := (List.mem_cons.mp hx).resolve_left hxt.1
      exact ⟨x, List.mem_cons_of_mem _ (List.mem_filter.mpr ⟨hmem, by simp [hxt.2]⟩), hn⟩

/-- With as many rounds as ranges held, a merge absorbs all it comes to touch. -/
theorem mergeRange_merges (fuel : Nat) {r : Nat × Nat} {held : List (Nat × Nat)} (hr : slotRange r)
    (hh : ∀ x ∈ held, slotRange x) (hf : held.length ≤ fuel) :
    Merges r held (mergeRange fuel r held).1 (mergeRange fuel r held).2 := by
  induction fuel generalizing r held with
  | zero =>
    obtain rfl : held = [] := List.eq_nil_of_length_eq_zero (by omega)
    exact ⟨.refl _, fun _ hx => absurd hx List.not_mem_nil, hr, ⟨le_rfl, le_rfl⟩, fun _ => rfl, nofun, fun _ => rfl⟩
  | succ fuel ih =>
    unfold mergeRange
    split
    case h_1 t hfind =>
      have hm : t ∈ held := List.mem_of_find?_eq_some hfind
      have ht : touches r t = true := List.find?_some hfind
      have hs := hh t hm
      have hlt : (held.filter (fun x => !touches r x || x != t)).length < held.length :=
        List.length_filter_lt_length_iff_exists.mpr ⟨t, hm, by simp [ht]⟩
      have hq : slotRange (min r.1 t.1, max r.2 t.2) := by
        obtain ⟨hr1, hr2, hr3⟩ := hr
        obtain ⟨hs1, hs2, hs3⟩ := hs
        refine ⟨?_, ?_, ?_⟩ <;> dsimp only <;> omega
      obtain ⟨hsub, hapart, hrange, ⟨hlo, hhi⟩, hcov, -, -⟩ :=
        ih hq (fun x hx => hh x (List.mem_of_mem_filter hx)) (Nat.le_of_lt_succ (hlt.trans_le hf))
      refine ⟨hsub.trans List.filter_sublist, hapart, hrange,
        ⟨by dsimp only at hlo; omega, by dsimp only at hhi; omega⟩,
        fun n => (hcov n).trans (covers_absorbed hr hm hs ht n), fun _ => hsub.length_le.trans_lt hlt, fun hno => ?_⟩
      rw [List.any_eq_false] at hno
      exact absurd ht (hno t hm)
    case h_2 hfind =>
      rw [List.find?_eq_none] at hfind
      refine ⟨.refl _, fun x hx => by simpa using hfind x hx, hr, ⟨le_rfl, le_rfl⟩, fun _ => rfl,
        fun hany => ?_, fun _ => rfl⟩
      obtain ⟨x, hx, hxt⟩ := List.any_eq_true.mp hany
      exact absurd hxt (hfind x hx)

theorem InMag.rangesOk_iff (m : InMag) :
    m.rangesOk = true ↔ m.ranges.length ≤ 4 ∧ rangesLawful m.ranges = true := by
  unfold InMag.rangesOk
  rw [Bool.and_eq_true, decide_eq_true_eq]
  rfl

/-- The merge of a range into the ranges that a magazine holds. -/
theorem InMag.merges {m : InMag} {r : Nat × Nat} (hm : m.rangesOk = true) (hr : slotRange r) :
    Merges r m.ranges (mergeRange Config.rangePlaces r m.ranges).1 (mergeRange Config.rangePlaces r m.ranges).2 := by
  obtain ⟨hlen, hlaw⟩ := m.rangesOk_iff.mp hm
  exact mergeRange_merges _ hr (rangesLawful_mem hlaw) hlen

/-- SKIP SLOTS accepted: the merged range takes its place, and its slots are skipped. -/
theorem InMag.skip_some {m m' : InMag} {r : Nat × Nat} (hm : m.rangesOk = true) (hr : slotRange r)
    (hs : m.skip r = some m') : ∃ q rest, Merges r m.ranges q rest ∧ rest.length < 4
      ∧ m' = { m with ranges := insertRange q rest, slots := skipSlotsOf q m.slots } := by
  unfold InMag.skip at hs
  dsimp only at hs
  split at hs
  · cases hs
  · next hlen => exact ⟨_, _, InMag.merges hm hr, by simpa [Config.rangePlaces] using hlen, (Option.some.inj hs).symm⟩

theorem InMag.skip_rangesOk {m m' : InMag} {r : Nat × Nat} (hm : m.rangesOk = true) (hr : slotRange r)
    (hs : m.skip r = some m') : m'.rangesOk = true := by
  obtain ⟨q, rest, k, hlen, rfl⟩ := InMag.skip_some hm hr hs
  refine (InMag.rangesOk_iff _).mpr ⟨?_, insertRange_lawful k.range
    (rangesLawful_sublist k.sub (m.rangesOk_iff.mp hm).2) k.apart⟩
  rw [length_insertRange]
  exact hlen

end Sys2Proof.Machine

/-! ## O53: the laws of the skip ranges, the panel and the counters

`State.books` picks the parts of a state that these laws speak of; an update of any other part leaves them, by
computation. `KeepsLaws o s` says that each law which holds in `o` holds in `s`: one lemma for each operation of the
model that branches or that changes the books (R117, R126, R175, R177, R180, R196, R197). -/

namespace Sys2Proof.Machine

/-- The parts of a state that the laws of O53 speak of. -/
structure Books where
  ranges : List (Nat × Nat)
  stack : List Screen
  list : List PanelEntry
  counters : List Counter
  snap : List Counter

def State.books (s : State) : Books where
  ranges := s.inMag.ranges
  stack := s.panel.stack
  list := s.panel.list
  counters := s.tally.counters
  snap := s.tally.snapCounters

/-- At most four ranges, lawful ones (R117, R126). -/
def rangesFit (rs : List (Nat × Nat)) : Prop := rs.length ≤ 4 ∧ rangesLawful rs = true

/-- A screen stack with HOME at its bottom, at most 6 deep (R175, R177). -/
def stackFits (x : List Screen) : Prop := x.head? = some .home ∧ x.length ≤ 6

/-- The id of an entry of the panel alarm list (R175). -/
def PanelEntry.id (e : PanelEntry) : Nat × Nat := (e.station, e.seq)

/-- At most 16 entries, of distinct ids (R175, R180). -/
def listFits (l : List PanelEntry) : Prop := l.length ≤ 16 ∧ (l.map PanelEntry.id).Nodup

theorem Panel.shapeOk_iff (q : Panel) : q.shapeOk = true ↔ stackFits q.stack ∧ listFits q.list := by
  have hid : (fun e : PanelEntry => (e.station, e.seq)) = PanelEntry.id := rfl
  simp only [Panel.shapeOk, stackFits, listFits, hid, Bool.and_eq_true, beq_iff_eq, decide_eq_true_eq, and_assoc]
  rfl

/-- Each law that holds on the books `a` holds on `b`. -/
structure Books.Keeps (a b : Books) : Prop where
  ranges : rangesFit a.ranges → rangesFit b.ranges
  stack : stackFits a.stack → stackFits b.stack
  list : listFits a.list → listFits b.list
  counters : countersOk a.counters = true → countersOk b.counters = true
  snap : countersOk a.counters = true → countersOk a.snap = true → countersOk b.snap = true

/-- Each law of O53 that holds in `o` holds in `s`. -/
def KeepsLaws (o s : State) : Prop := o.books.Keeps s.books

/-! ### The counters (R196, R197) -/

theorem Counter.bump_le {c : Counter} (h : c.value ≤ Config.max32) : c.bump.value ≤ Config.max32 := by
  unfold Counter.bump
  split
  · next hlt => exact hlt
  · exact h

theorem countersOk_iff (cs : List Counter) :
    countersOk cs = true ↔ cs.length = 19 ∧ ∀ c ∈ cs, c.value ≤ Config.max32 := by
  simp [countersOk]

theorem countersOk_bump {cs : List Counter} (i : Nat) (h : countersOk cs = true) :
    countersOk (cs.modify i Counter.bump) = true := by
  obtain ⟨hlen, hall⟩ := (countersOk_iff cs).mp h
  refine (countersOk_iff _).mpr ⟨(List.length_modify ..).trans hlen, fun c hc => ?_⟩
  obtain ⟨j, hj, rfl⟩ := List.mem_iff_getElem.mp hc
  rw [List.getElem_modify]
  have hle := hall _ (List.getElem_mem (l := cs) (by simpa using hj))
  split
  · exact Counter.bump_le hle
  · exact hle

theorem countersOk_zero : countersOk (List.replicate 19 ⟨0, false⟩) = true := by decide

section
variable {o s t : State}

theorem KeepsLaws.refl (s : State) : KeepsLaws s s := ⟨id, id, id, id, fun _ h => h⟩

theorem KeepsLaws.ite {q : Prop} [Decidable q] (ht : KeepsLaws o t) (hu : KeepsLaws o s) :
    KeepsLaws o (if q then t else s) := by
  split
  · exact ht
  · exact hu

theorem KeepsLaws.askHead (h : KeepsLaws o s) : KeepsLaws o s.askHead := h
theorem KeepsLaws.askStrip (h : KeepsLaws o s) : KeepsLaws o s.askStrip := h
theorem KeepsLaws.askFeed (h : KeepsLaws o s) : KeepsLaws o s.askFeed := h
theorem KeepsLaws.askFull (h : KeepsLaws o s) : KeepsLaws o s.askFull := h
theorem KeepsLaws.askPort (h : KeepsLaws o s) : KeepsLaws o s.askPort := h
theorem KeepsLaws.issue {r : Request} (h : KeepsLaws o s) : KeepsLaws o (s.issue r) := h
theorem KeepsLaws.move {a : Axis} {z : Int} {x : Use} {g : MoveArg} (h : KeepsLaws o s) :
    KeepsLaws o (s.move a z x g) := h

theorem KeepsLaws.count {x : Tally} (h : KeepsLaws o s) : KeepsLaws o (s.count x) :=
  { h with counters := fun k => countersOk_bump _ (h.counters k) }

theorem KeepsLaws.countIf {b : Bool} {x : Tally} (h : KeepsLaws o s) : KeepsLaws o (s.countIf b x) := .ite h.count h

theorem KeepsLaws.snapshot {b : Bool} (h : KeepsLaws o s) : KeepsLaws o (s.snapshot b) := by
  refine { h with counters := fun k => ?_, snap := fun k _ => h.counters k }
  cases b
  · exact h.counters k
  · exact countersOk_zero

/-! ### The panel's list (R180, R181) -/

/-- A change of the panel that keeps its stack and its list lawful. -/
theorem KeepsLaws.panel (h : KeepsLaws o s) (q : Panel) (hs : stackFits s.panel.stack → stackFits q.stack)
    (hl : listFits s.panel.list → listFits q.list) : KeepsLaws o { s with panel := q } :=
  { h with stack := fun k => hs (h.stack k), list := fun k => hl (h.list k) }

/-- A list of the same ids. -/
theorem listFits_map {l : List PanelEntry} {f : PanelEntry → PanelEntry} (hf : ∀ e, (f e).id = e.id) (h : listFits l) :
    listFits (l.map f) := by
  obtain ⟨hlen, hids⟩ := h
  have hsame : (l.map f).map PanelEntry.id = l.map PanelEntry.id := by
    rw [List.map_map]
    exact List.map_congr_left fun e _ => hf e
  exact ⟨by rwa [List.length_map], by rwa [hsame]⟩

theorem listFits_filter {l : List PanelEntry} (f : PanelEntry → Bool) (h : listFits l) : listFits (l.filter f) :=
  ⟨(List.length_filter_le _ _).trans h.1, h.2.sublist (List.filter_sublist.map _)⟩

theorem PanelEntry.isId_iff (e : PanelEntry) (n q : Nat) : e.isId n q = true ↔ e.id = (n, q) := by
  simp [PanelEntry.isId, PanelEntry.id]

/-- An entry of an id that is not listed joins a list with room. -/
theorem listFits_append {l : List PanelEntry} {e : PanelEntry} (hlen : l.length < 16)
    (hno : l.any (fun x => x.isId e.station e.seq) = false) (h : listFits l) : listFits (l ++ [e]) := by
  refine ⟨by simpa using hlen, ?_⟩
  rw [List.map_append, List.map_singleton, ← List.concat_eq_append, List.nodup_concat]
  refine ⟨fun hm => ?_, h.2⟩
  obtain ⟨x, hx, hid⟩ := List.mem_map.mp hm
  exact List.any_eq_false.mp hno x hx ((x.isId_iff _ _).mpr hid)

theorem KeepsLaws.standbyTest (h : KeepsLaws o s) : KeepsLaws o s.standbyTest := .ite h h

theorem KeepsLaws.panelChange {q : Panel} (h : KeepsLaws o s) (hs : stackFits s.panel.stack → stackFits q.stack)
    (hl : listFits s.panel.list → listFits q.list) : KeepsLaws o (s.panelChange q) := by
  have k : KeepsLaws o { s with panel := q.refresh } :=
    h.panel _ (by rwa [Panel.refresh_stack]) (by rwa [Panel.refresh_list])
  exact .ite k.standbyTest k

theorem KeepsLaws.panelAppend {e : PanelEntry} (h : KeepsLaws o s)
    (hno : s.panel.list.any (fun x => x.isId e.station e.seq) = false) : KeepsLaws o (s.panelAppend e) := by
  unfold State.panelAppend
  split
  · next hlen => exact h.panelChange (fun k => k) (listFits_append hlen hno)
  · exact h

/-- A change of the entry of one id. -/
theorem KeepsLaws.markList {q : Panel} {f : PanelEntry → PanelEntry} (h : KeepsLaws o s) (hs : q.stack = s.panel.stack)
    (hl : q.list = s.panel.list.map f) (hf : ∀ e, (f e).id = e.id) : KeepsLaws o { s with panel := q } :=
  h.panel q (fun k => hs ▸ k) fun k => hl ▸ listFits_map hf k

theorem ite_id {f : PanelEntry → PanelEntry} {p : PanelEntry → Prop} [DecidablePred p] (hf : ∀ e, (f e).id = e.id)
    (e : PanelEntry) : (if p e then f e else e).id = e.id := by
  split
  · exact hf e
  · rfl

theorem KeepsLaws.panelAlarm {n q : Nat} {k : AlarmKind} {c : Context} (h : KeepsLaws o s) :
    KeepsLaws o (s.panelAlarm n q k c) := by
  unfold State.panelAlarm
  split
  · exact h
  · split
    · exact h.markList rfl rfl (ite_id fun _ => rfl)
    · next hno => exact h.panelAppend (by simpa using hno)

theorem KeepsLaws.panelSettled {n q : Nat} (h : KeepsLaws o s) : KeepsLaws o (s.panelSettled n q) :=
  .ite (h.panelChange (fun k => k) (listFits_filter _)) h

theorem KeepsLaws.panelAbsent {n : Nat} (h : KeepsLaws o s) : KeepsLaws o (s.panelAbsent n) :=
  .ite (h.panelChange (fun k => k) (listFits_filter _)) h

theorem KeepsLaws.panelCarried {n : Nat} {a : Nat × Nat} (h : KeepsLaws o s) : KeepsLaws o (s.panelCarried n a) := by
  unfold State.panelCarried
  split
  · exact h.markList rfl rfl (ite_id fun _ => rfl)
  · next hno =>
    split
    · exact h.panelAppend (by simpa using hno)
    · exact h

theorem KeepsLaws.carriedFold {n : Nat} {l : List (Nat × Nat)} (h : KeepsLaws o s) :
    KeepsLaws o (l.foldl (State.panelCarried n) s) := by
  induction l generalizing s with
  | nil => exact h
  | cons a l ih => exact ih h.panelCarried

theorem KeepsLaws.panelBeacon {n : Nat} {l : List (Nat × Nat)} (h : KeepsLaws o s) : KeepsLaws o (s.panelBeacon n l) :=
  .ite h (KeepsLaws.panelChange h.carriedFold (fun k => k) (listFits_filter _))

/-! ### The transmit queue and the alarm queue (R164, R191, R193) -/

theorem KeepsLaws.onPlaced {w : Owner} (h : KeepsLaws o s) : KeepsLaws o (s.onPlaced w) := by
  unfold State.onPlaced
  split
  · exact .ite h h
  · exact h
  · exact h

theorem KeepsLaws.placeItem {w : Waiting} (h : KeepsLaws o s) : KeepsLaws o (s.placeItem w) := by
  cases w with
  | beaconDue => exact KeepsLaws.panelBeacon h
  | frame w f => exact KeepsLaws.onPlaced h

theorem KeepsLaws.drain {ws : List Waiting} (h : KeepsLaws o s) : KeepsLaws o (State.drain ws s) := by
  induction ws generalizing s with
  | nil => exact h
  | cons w ws ih => exact .ite (ih h.placeItem) h

theorem KeepsLaws.submit {w : Owner} {f : Frame} (h : KeepsLaws o s) : KeepsLaws o (s.submit w f) :=
  .ite (KeepsLaws.drain h) h

theorem KeepsLaws.placeBeacon (h : KeepsLaws o s) : KeepsLaws o s.placeBeacon :=
  .ite h (.ite h (.ite h (KeepsLaws.drain h)))

theorem KeepsLaws.queueBeacon (h : KeepsLaws o s) : KeepsLaws o s.queueBeacon := h.placeBeacon

theorem KeepsLaws.refuse {d : Hdr} {k : FrameKind} {c x : Nat} (h : KeepsLaws o s) : KeepsLaws o (s.refuse d k c x) :=
  .ite h (KeepsLaws.submit (.ite h h))

theorem KeepsLaws.submitReplies {k : FrameKind} {fs : List Frame} (h : KeepsLaws o s) :
    KeepsLaws o (State.submitReplies k s fs) := by
  induction fs generalizing s with
  | nil => exact h
  | cons f fs ih =>
    cases fs with
    | nil => exact h.submit
    | cons g gs => exact ih h.submit

theorem KeepsLaws.reply {k : FrameKind} {fs : List Frame} (h : KeepsLaws o s) : KeepsLaws o (s.reply k fs) :=
  KeepsLaws.submitReplies h

theorem KeepsLaws.raise {k : AlarmKind} (h : KeepsLaws o s) : KeepsLaws o (s.raise k) :=
  .ite h (.queueBeacon (.panelAlarm (.submit h)))

theorem KeepsLaws.askSettled {k : AlarmKind} (h : KeepsLaws o s) : KeepsLaws o (s.askSettled k) := .ite h (.ite h h)

theorem KeepsLaws.removeAlarm {e : AlarmEntry} {c : Choice} {n : Nat} (h : KeepsLaws o s) :
    KeepsLaws o (s.removeAlarm e c n) :=
  .askSettled (.queueBeacon (.panelSettled (.submit h)))

theorem KeepsLaws.clearAlarm {k : AlarmKind} (h : KeepsLaws o s) : KeepsLaws o (s.clearAlarm k) := by
  unfold State.clearAlarm
  split
  · exact .ite h.removeAlarm h
  · exact h

end
end Sys2Proof.Machine

namespace Sys2Proof.Machine

section
variable {o s t : State}

/-! ### The strip record and the window (chapters 1 and 6) -/

theorem KeepsLaws.giveUpRecord (h : KeepsLaws o s) : KeepsLaws o s.giveUpRecord :=
  .queueBeacon (.askFeed (.askHead h))

theorem KeepsLaws.emptyWindow (h : KeepsLaws o s) : KeepsLaws o s.emptyWindow := .queueBeacon (.askFeed h)

theorem KeepsLaws.testStale (h : KeepsLaws o s) : KeepsLaws o s.testStale := by
  unfold State.testStale
  split
  · exact .ite h.raise h
  · exact h

theorem KeepsLaws.clampStrip {r : StripRecord} {b : Bool} (h : KeepsLaws o s) : KeepsLaws o (s.clampStrip r b) := by
  have k : KeepsLaws o ({ s.dropStripData.stripClampReq true with
      window.state := .clamped
      window.record := some r
      window.inbound := none
      window.inboundSerial := none
      window.arrivalTimer := none } : State) := h
  exact .testStale (.ite (.raise (.queueBeacon k.count)) (.queueBeacon k.count))

theorem KeepsLaws.clampUnknown (h : KeepsLaws o s) : KeepsLaws o s.clampUnknown := h.clampStrip

theorem KeepsLaws.clampInbound (h : KeepsLaws o s) : KeepsLaws o s.clampInbound := by
  unfold State.clampInbound
  split
  · exact h.clampStrip
  · exact h.clampUnknown

theorem KeepsLaws.reclamp (h : KeepsLaws o s) : KeepsLaws o s.reclamp := .queueBeacon h

theorem KeepsLaws.interrupt (h : KeepsLaws o s) : KeepsLaws o s.interrupt := by
  unfold State.interrupt
  split
  · exact .countIf (s := s.onRecord _) h
  · exact h

theorem KeepsLaws.rejectUnit (h : KeepsLaws o s) : KeepsLaws o s.rejectUnit := by
  unfold State.rejectUnit
  split
  · exact .count (s := s.onRecord _) h
  · exact h

theorem KeepsLaws.completeUnit (h : KeepsLaws o s) : KeepsLaws o s.completeUnit := by
  unfold State.completeUnit
  split
  · exact .count (s := s.onRecord _) h
  · exact h

theorem KeepsLaws.selectUnit (h : KeepsLaws o s) : KeepsLaws o s.selectUnit := by
  unfold State.selectUnit
  split
  · split <;> exact h
  · exact h

/-! ### The recipe store (chapter 2) -/

theorem KeepsLaws.acceptSegment {x : List Byte} (h : KeepsLaws o s) : KeepsLaws o (s.acceptSegment x) := .ite h h

theorem KeepsLaws.applyActivation (h : KeepsLaws o s) : KeepsLaws o s.applyActivation := by
  unfold State.applyActivation
  split
  · exact .askFeed (.askHead (.queueBeacon (.standbyTest h)))
  · exact h

theorem KeepsLaws.applyDue (h : KeepsLaws o s) : KeepsLaws o s.applyDue := .ite h h.applyActivation

/-! ### The pending-grade list and the log (chapters 8 and 9) -/

theorem KeepsLaws.offerPlacesFuel (n : Nat) (h : KeepsLaws o s) : KeepsLaws o (State.offerPlacesFuel n s) := by
  induction n generalizing s with
  | zero => exact h
  | succ n ih =>
    unfold State.offerPlacesFuel
    split
    · split
      · exact ih h
      · exact h
    · exact h

theorem KeepsLaws.offerPlaces (h : KeepsLaws o s) : KeepsLaws o s.offerPlaces := .ite (h.offerPlacesFuel _) h

theorem KeepsLaws.closeEntry {n : Nat} {m : BreakMode} (h : KeepsLaws o s) : KeepsLaws o (s.closeEntry n m) :=
  .offerPlaces h

theorem KeepsLaws.gradeEntry {n m : Nat} (h : KeepsLaws o s) : KeepsLaws o (s.gradeEntry n m) := .ite h.closeEntry h

theorem KeepsLaws.closeAll (h : KeepsLaws o s) : KeepsLaws o s.closeAll := .offerPlaces h

theorem KeepsLaws.setFull (h : KeepsLaws o s) : KeepsLaws o s.setFull := .askFull (.raise h)

theorem KeepsLaws.needBlock {n : Nat} (h : KeepsLaws o s) : KeepsLaws o (s.needBlock n) := .ite h (.ite h (.setFull h))

theorem KeepsLaws.answerRead {r : ReadSpan} (h : KeepsLaws o s) : KeepsLaws o (s.answerRead r) := by
  unfold State.answerRead
  split
  · exact .reply h
  · exact h

theorem KeepsLaws.arbitrateWrites (h : KeepsLaws o s) : KeepsLaws o s.arbitrateWrites := by
  have hahead : KeepsLaws o (match s.log.aheadDue with | some a => s.startErase a | none => s) := by
    split <;> exact h
  unfold State.arbitrateWrites
  split
  · exact h
  · exact .ite hahead h
  · exact hahead

theorem KeepsLaws.serveRead {r : ReadSpan} {v : ReadService} (h : KeepsLaws o s) : KeepsLaws o (s.serveRead r v) :=
  .ite h.answerRead.arbitrateWrites h

theorem KeepsLaws.arbitrateRead (h : KeepsLaws o s) : KeepsLaws o s.arbitrateRead := by
  unfold State.arbitrateRead
  split
  · split
    · exact h.serveRead
    · exact h.serveRead
    · exact h.arbitrateWrites
  · exact h.arbitrateWrites

theorem KeepsLaws.arbitrate (h : KeepsLaws o s) : KeepsLaws o s.arbitrate := by
  unfold State.arbitrate
  split
  · split
    · exact .ite h h.arbitrateRead
    · exact h.arbitrateRead
  · exact h

/-! ### The energy monitor (chapter 4) -/

theorem KeepsLaws.addDrift {p : OpenParams} {e : Nat} (h : KeepsLaws o s) : KeepsLaws o (s.addDrift p e) :=
  .ite (.raise h) h

theorem KeepsLaws.disableReq (h : KeepsLaws o s) : KeepsLaws o s.disableReq := .ite h h

theorem KeepsLaws.abortBond (h : KeepsLaws o s) : KeepsLaws o s.abortBond := by
  unfold State.abortBond
  split
  · exact h
  · exact .count (.count h)
  · exact .count h

theorem KeepsLaws.untrackedEnd (h : KeepsLaws o s) : KeepsLaws o s.untrackedEnd :=
  .ite (.ite (.raise (.count h)) (.count h)) h

theorem KeepsLaws.enableBond {b : Bool} (h : KeepsLaws o s) : KeepsLaws o (s.enableBond b) := by
  unfold State.enableBond
  split
  · exact h.abortBond
  · exact h

/-! ### The magazines (chapter 7) -/

theorem InMag.feedDone_ranges (m : InMag) : m.feedDone.ranges = m.ranges := m.feedDone_same.1

/-- A change of the input magazine that keeps its ranges. -/
theorem KeepsLaws.inMag {m : InMag} (h : KeepsLaws o s) (hm : m.ranges = s.inMag.ranges) :
    KeepsLaws o { s with inMag := m } :=
  { h with ranges := fun k => show rangesFit m.ranges from hm ▸ h.ranges k }

theorem KeepsLaws.inputEmpty (h : KeepsLaws o s) : KeepsLaws o s.inputEmpty := .ite h h.raise

theorem KeepsLaws.searchFrom {n : Nat} (h : KeepsLaws o s) : KeepsLaws o (s.searchFrom n) := by
  unfold State.searchFrom
  split
  · exact h
  · exact .inputEmpty h

theorem KeepsLaws.testFeed (h : KeepsLaws o s) : KeepsLaws o s.testFeed := .ite (.ite h.searchFrom h.inputEmpty) h

theorem KeepsLaws.startPush (h : KeepsLaws o s) : KeepsLaws o s.startPush := .queueBeacon h

theorem KeepsLaws.jamFeed (h : KeepsLaws o s) : KeepsLaws o s.jamFeed := .raise h

theorem KeepsLaws.jamRetract (h : KeepsLaws o s) : KeepsLaws o s.jamRetract := .raise h

theorem KeepsLaws.giveUpFeed (h : KeepsLaws o s) : KeepsLaws o s.giveUpFeed := .ite (.emptyWindow h) h

theorem KeepsLaws.afterArrival {b : Bool} (h : KeepsLaws o s) : KeepsLaws o (s.afterArrival b) :=
  .ite (.ite h h) (.ite h h)

theorem KeepsLaws.feedArrival {b : Bool} (h : KeepsLaws o s) : KeepsLaws o (s.feedArrival b) := by
  have k : KeepsLaws o (s.onInMag InMag.feedDone) := h.inMag s.inMag.feedDone_ranges
  unfold State.feedArrival
  dsimp only
  split
  · exact .afterArrival (.clampStrip k)
  · exact k.clampUnknown.afterArrival

theorem KeepsLaws.lateArrival (h : KeepsLaws o s) : KeepsLaws o s.lateArrival := .clearAlarm (.feedArrival h)

theorem KeepsLaws.feedRetry (h : KeepsLaws o s) : KeepsLaws o s.feedRetry := by
  refine .ite h (.ite ?_ h.giveUpFeed)
  split
  · exact h
  · exact h.giveUpFeed

theorem KeepsLaws.feedContinue (h : KeepsLaws o s) : KeepsLaws o s.feedContinue := by
  unfold State.feedContinue
  split
  · exact .ite (.giveUpFeed h) h.giveUpFeed
  · exact h.giveUpFeed

theorem KeepsLaws.carryFeedChoice {c : Choice} (h : KeepsLaws o s) : KeepsLaws o (s.carryFeedChoice c) :=
  .ite h.feedRetry h.feedContinue

theorem KeepsLaws.feedChoice {c : Choice} (h : KeepsLaws o s) : KeepsLaws o (s.feedChoice c) :=
  .ite (.ite h h) (.ite h h.carryFeedChoice)

theorem KeepsLaws.releaseFeed (h : KeepsLaws o s) : KeepsLaws o s.releaseFeed := .ite h.feedRetry h

theorem KeepsLaws.endScan (h : KeepsLaws o s) : KeepsLaws o s.endScan :=
  .askStrip (.ite (.clearAlarm h) h)

theorem KeepsLaws.scanSlot {n : Nat} (h : KeepsLaws o s) : KeepsLaws o (s.scanSlot n) := .ite h.endScan h

theorem KeepsLaws.scanOutput (h : KeepsLaws o s) : KeepsLaws o s.scanOutput := .scanSlot h

theorem KeepsLaws.insertOutput (h : KeepsLaws o s) : KeepsLaws o s.insertOutput := .scanOutput h

/-- An inserted magazine holds no skip range (R118). -/
theorem KeepsLaws.insertInput (h : KeepsLaws o s) : KeepsLaws o s.insertInput :=
  .askFeed (.clearAlarm (o := o) { h with ranges := fun _ => ⟨Nat.zero_le _, rfl⟩ })

theorem KeepsLaws.startUnload (h : KeepsLaws o s) : KeepsLaws o s.startUnload := by
  unfold State.startUnload
  split
  · exact .queueBeacon h
  · exact h

theorem KeepsLaws.outputFull (h : KeepsLaws o s) : KeepsLaws o s.outputFull := .ite h h.raise

theorem KeepsLaws.outputAnswer (h : KeepsLaws o s) : KeepsLaws o s.outputAnswer :=
  .ite (.ite h.startUnload (.ite h h.outputFull)) h

theorem KeepsLaws.fillSlot (h : KeepsLaws o s) : KeepsLaws o s.fillSlot := by
  unfold State.fillSlot
  split
  · exact .giveUpRecord (.count h)
  · exact h

theorem KeepsLaws.settleUnload (h : KeepsLaws o s) : KeepsLaws o s.settleUnload := by
  unfold State.settleUnload
  extract_lets m s1 s2
  have h1 : KeepsLaws o s1 := h
  have h2 : KeepsLaws o s2 :=
    .ite (.reclamp h1) (.ite (.ite h1.fillSlot (.giveUpRecord (.count h1))) (.giveUpRecord (.count h1)))
  exact .ite h2.scanOutput h2

/-! ### The handoff (chapter 6) -/

theorem KeepsLaws.makeOffer (h : KeepsLaws o s) : KeepsLaws o s.makeOffer := .submit (.queueBeacon h)

theorem KeepsLaws.evaluateStrip (h : KeepsLaws o s) : KeepsLaws o s.evaluateStrip :=
  .ite (.ite h.outputAnswer (.ite h.makeOffer h)) h

theorem KeepsLaws.endOffer (h : KeepsLaws o s) : KeepsLaws o s.endOffer := .queueBeacon h

theorem KeepsLaws.answerOffer {n : Nat} (h : KeepsLaws o s) : KeepsLaws o (s.answerOffer n) :=
  .ite h.submit (.ite h.submit (.ite h.submit (.ite (.submit (.queueBeacon h)) (.ite (.submit h) h.submit))))

theorem KeepsLaws.holdBegins (h : KeepsLaws o s) : KeepsLaws o s.holdBegins := by
  unfold State.holdBegins
  extract_lets s1 s2
  have h1 : KeepsLaws o s1 := .ite h.endOffer h
  exact .ite (.emptyWindow h1) h1

theorem KeepsLaws.acceptTake {r : StripRecord} (h : KeepsLaws o s) : KeepsLaws o (s.acceptTake r) :=
  .submit (.queueBeacon h)

theorem KeepsLaws.jamWindow (h : KeepsLaws o s) : KeepsLaws o s.jamWindow := .raise h

theorem KeepsLaws.settleJam (h : KeepsLaws o s) : KeepsLaws o s.settleJam := by
  unfold State.settleJam
  split
  · exact .ite h.clampInbound h.emptyWindow
  · exact .ite h.settleUnload.testStale (.ite (.testStale (.reclamp h)) h.count.giveUpRecord)
  · exact h

theorem KeepsLaws.restartWindow (h : KeepsLaws o s) : KeepsLaws o s.restartWindow := by
  unfold State.restartWindow
  split
  · exact .ite h.clampUnknown h
  · exact .ite h.clampInbound h.emptyWindow
  · exact .ite h.settleUnload.testStale (.ite (.ite (.testStale h) h.reclamp.testStale) h.count.giveUpRecord)
  · exact .ite (.testStale (.queueBeacon h)) h.giveUpRecord

end
end Sys2Proof.Machine

namespace Sys2Proof.Machine

section
variable {o s t : State}

/-! ### The head's steps (chapters 3 and 5) -/

theorem KeepsLaws.enter {x : HeadState} {g : Stage} (h : KeepsLaws o s) : KeepsLaws o (s.enter x g) := h

theorem KeepsLaws.withWire {f : Recipe → WireEntry → Nat → State} (h : KeepsLaws o s)
    (hf : ∀ r w n, KeepsLaws o (f r w n)) : KeepsLaws o (s.withWire f) := by
  unfold State.withWire
  split
  · exact hf _ _ _
  · exact h

theorem KeepsLaws.startHoming {n : NextWork} (h : KeepsLaws o s) : KeepsLaws o (s.startHoming n) := h

theorem KeepsLaws.homingTable (h : KeepsLaws o s) : KeepsLaws o s.homingTable := by
  unfold State.homingTable
  extract_lets s1 s2
  have h1 : KeepsLaws o s1 := h
  have h2 : KeepsLaws o s2 := .ite (.move h1) h1
  exact .ite (.move h2) h2

theorem KeepsLaws.startFire (h : KeepsLaws o s) : KeepsLaws o s.startFire := h.withWire fun _ _ _ => h

theorem KeepsLaws.beginStep {x : WireStep} (h : KeepsLaws o s) : KeepsLaws o (s.beginStep x) := by
  have k : KeepsLaws o { s with head.next := .none, head.heldFor := .nothing } := h
  cases x with
  | positioning => exact k
  | touchLearn => exact k.withWire fun _ _ _ => k
  | ballDown => exact k.withWire fun _ _ _ => k
  | firstBond => exact .enableBond (.enter k)
  | looping => exact k
  | stitchDown => exact k.withWire fun _ _ _ => k
  | secondBond => exact .enableBond (.enter k)
  | tail => exact k.withWire fun _ _ _ => k
  | sparking => exact k.startFire

theorem KeepsLaws.enterHeld {x : HeldFor} {n : NextWork} (h : KeepsLaws o s) : KeepsLaws o (s.enterHeld x n) := h

theorem KeepsLaws.holdFor {k : AlarmKind} {n : NextWork} (h : KeepsLaws o s) : KeepsLaws o (s.holdFor k n) :=
  .enterHeld h.disableReq.raise

theorem KeepsLaws.feedAfterParking (h : KeepsLaws o s) : KeepsLaws o s.feedAfterParking := .ite h h

theorem KeepsLaws.enterParked (h : KeepsLaws o s) : KeepsLaws o s.enterParked :=
  .ite (.startHoming h) (.feedAfterParking h)

theorem KeepsLaws.closeSample {b : Bool} (h : KeepsLaws o s) : KeepsLaws o (s.closeSample b) := by
  unfold State.closeSample
  split
  · exact .ite h (.ite h h)
  · exact h

theorem KeepsLaws.giveUpWork (h : KeepsLaws o s) : KeepsLaws o s.giveUpWork := h.closeSample.interrupt

theorem KeepsLaws.parkWork (h : KeepsLaws o s) : KeepsLaws o s.parkWork := h.giveUpWork.enterParked

theorem KeepsLaws.wireGate {x : WireStep} {f : State → State} (h : KeepsLaws o s) (hf : KeepsLaws o (f s)) :
    KeepsLaws o (s.wireGate x f) := .ite (.holdFor h) hf

theorem KeepsLaws.wireStep {x : WireStep} (h : KeepsLaws o s) : KeepsLaws o (s.wireStep x) := h.wireGate h.beginStep

theorem KeepsLaws.startCycle {x : Occasion} (h : KeepsLaws o s) : KeepsLaws o (s.startCycle x) := h

theorem KeepsLaws.gatedCycle {x : Occasion} (h : KeepsLaws o s) : KeepsLaws o (s.gatedCycle x) := .ite h h

theorem KeepsLaws.startWire (h : KeepsLaws o s) : KeepsLaws o s.startWire := .ite h (.ite h (.wireStep h))

/-! ### The unit boundary and the pull sample (R53, R136 to R144) -/

theorem KeepsLaws.boundary6 (h : KeepsLaws o s) : KeepsLaws o s.boundary6 :=
  .ite (.enterParked h) (.ite h (.startWire (.selectUnit h)))

theorem KeepsLaws.boundary5 (h : KeepsLaws o s) : KeepsLaws o s.boundary5 := by
  have k : KeepsLaws o ({ s with head.boundaryStep := 5 } : State).evaluateStrip := .evaluateStrip h
  exact .ite k.boundary6 (.ite k.boundary6 k.enterParked)

theorem KeepsLaws.boundary4 (h : KeepsLaws o s) : KeepsLaws o s.boundary4 := .ite h (.boundary5 h)

theorem KeepsLaws.boundary3 (h : KeepsLaws o s) : KeepsLaws o s.boundary3 := .ite (.gatedCycle h) (.boundary4 h)

theorem KeepsLaws.boundary2 (h : KeepsLaws o s) : KeepsLaws o s.boundary2 := .boundary3 (.applyDue h)

theorem KeepsLaws.endCycle {x : Occasion} (h : KeepsLaws o s) : KeepsLaws o (s.endCycle x) := by
  refine .ite h.parkWork ?_
  cases x with
  | boundary => exact h.boundary4
  | forced => exact h.startWire
  | pullIn => exact h.enterParked

theorem KeepsLaws.creditCycle (h : KeepsLaws o s) : KeepsLaws o s.creditCycle := .queueBeacon (.count h)

theorem KeepsLaws.pullTests (h : KeepsLaws o s) : KeepsLaws o s.pullTests := by
  unfold State.pullTests
  split
  · exact h
  · refine .ite h (.ite h ?_)
    split
    · have k (f : Sample → Sample) (n : Nat) : KeepsLaws o ((s.onSample f).closeEntry n .ungraded) := .closeEntry h
      exact .ite h (.ite (k _ _) (k _ _))
    · exact h

theorem KeepsLaws.boundary1 (h : KeepsLaws o s) : KeepsLaws o s.boundary1 := by
  unfold State.boundary1
  dsimp only
  split
  · exact .boundary2 h
  · exact .ite h (.ite (.boundary2 h) (.pullTests h))

theorem KeepsLaws.runBoundary {n : Nat} (h : KeepsLaws o s) : KeepsLaws o (s.runBoundary n) := by
  unfold State.runBoundary
  split
  · exact h.boundary1
  · exact h.boundary1
  · exact h.boundary2
  · exact h.boundary3
  · exact h.boundary4
  · exact h.boundary5
  · exact h.boundary6

theorem KeepsLaws.afterSample (h : KeepsLaws o s) : KeepsLaws o s.afterSample := .ite h.enterParked h.boundary2

theorem KeepsLaws.nextPlanWire (h : KeepsLaws o s) : KeepsLaws o s.nextPlanWire := by
  unfold State.nextPlanWire
  split
  · exact h
  · exact .ite h.closeSample.afterSample (.ite h.closeSample.enterParked (.pullTests h))

theorem KeepsLaws.resumePull (h : KeepsLaws o s) : KeepsLaws o s.resumePull := by
  unfold State.resumePull
  split
  · exact h.enterParked
  · exact .ite h.nextPlanWire h.pullTests

/-! ### Next work (R35, R37, R55, R59) -/

theorem KeepsLaws.resumeWork {n : NextWork} (h : KeepsLaws o s) : KeepsLaws o (s.resumeWork n) := by
  cases n with
  | none => exact h.enterParked
  | park => exact h.enterParked
  | step w => exact h.wireGate (.ite h.startWire h.beginStep)
  | refire => exact h.startFire
  | wire => exact h.startWire
  | stoppedWire => exact h.startWire
  | boundary k => exact h.runBoundary
  | cycle x => exact h.gatedCycle
  | cycleEnd x => exact h.endCycle
  | pullTests => exact h.pullTests
  | pullResume => exact h.resumePull

theorem KeepsLaws.startScan (h : KeepsLaws o s) : KeepsLaws o s.startScan := h

theorem KeepsLaws.scanAfterHoming (h : KeepsLaws o s) : KeepsLaws o s.scanAfterHoming := .ite h.startScan h

theorem KeepsLaws.endHoming (h : KeepsLaws o s) : KeepsLaws o s.endHoming := by
  have k : KeepsLaws o ({ s with head.homed := true, head.homingParks := false } : State).scanAfterHoming :=
    .scanAfterHoming h
  exact .ite k.parkWork k.resumeWork

theorem KeepsLaws.endClearing (h : KeepsLaws o s) : KeepsLaws o s.endClearing := by
  refine .ite h.parkWork ?_
  split
  · exact .startWire h
  · exact .runBoundary h
  · exact h.enterParked

theorem KeepsLaws.advanceWireCount (h : KeepsLaws o s) : KeepsLaws o s.advanceWireCount := by
  unfold State.advanceWireCount
  split
  · exact .ite (.queueBeacon h) h
  · exact h

theorem KeepsLaws.completeWire (h : KeepsLaws o s) : KeepsLaws o s.completeWire := by
  refine h.withWire fun r _ _ => ?_
  have k : KeepsLaws o (s.count .wiresCompleted).advanceWireCount := h.count.advanceWireCount
  exact .ite (.ite k.completeUnit.enterParked k.completeUnit.runBoundary) (.ite (.parkWork k) (.startWire k))

theorem KeepsLaws.stopPull (h : KeepsLaws o s) : KeepsLaws o s.stopPull := .ite h h

theorem KeepsLaws.takeDriveFault (h : KeepsLaws o s) : KeepsLaws o s.takeDriveFault := by
  have k := h.disableReq.abortBond
  exact .ite k (.ite (.enterParked (.scanAfterHoming k)) (.scanAfterHoming (.holdFor (.stopPull k))))

/-! ### BYPASS and the choices at the head (R52, R54 to R59, R84) -/

theorem KeepsLaws.bypassHead (h : KeepsLaws o s) : KeepsLaws o s.bypassHead := by
  unfold State.bypassHead
  split
  · exact h
  · exact .ite h.parkWork h
  · exact .ite h.parkWork h
  · exact h

theorem KeepsLaws.setBypass (h : KeepsLaws o s) : KeepsLaws o s.setBypass :=
  .ite h (.askStrip (.bypassHead (.queueBeacon h)))

theorem KeepsLaws.clearBypass (h : KeepsLaws o s) : KeepsLaws o s.clearBypass := by
  have k : KeepsLaws o ({ s with alarms.bypass := false } : State).queueBeacon := .queueBeacon h
  exact .ite h (.ite k (.ite k.askHead (.ite k.startHoming k)))

theorem KeepsLaws.homeElse {n : NextWork} {f : State → State} (h : KeepsLaws o s) (hf : KeepsLaws o (f s)) :
    KeepsLaws o (s.homeElse n f) := .ite hf h

theorem KeepsLaws.startClearing {x : Intent} (h : KeepsLaws o s) : KeepsLaws o (s.startClearing x) := h

theorem KeepsLaws.retryWire (h : KeepsLaws o s) : KeepsLaws o s.retryWire := .homeElse h h

theorem KeepsLaws.skipUnit (h : KeepsLaws o s) : KeepsLaws o s.skipUnit := by
  have k : KeepsLaws o s.unitSkipped := h.rejectUnit
  exact k.homeElse k.startClearing

theorem KeepsLaws.resumeWireOut (h : KeepsLaws o s) : KeepsLaws o s.resumeWireOut := .ite h.resumeWork h

theorem KeepsLaws.resumeNoBall (h : KeepsLaws o s) : KeepsLaws o s.resumeNoBall := h.homeElse h.startFire

theorem KeepsLaws.retryCycle (h : KeepsLaws o s) : KeepsLaws o s.retryCycle := h.homeElse h.gatedCycle

theorem KeepsLaws.continueCycle (h : KeepsLaws o s) : KeepsLaws o s.continueCycle :=
  h.creditCycle.homeElse h.creditCycle.endCycle

theorem KeepsLaws.clearAndPark (h : KeepsLaws o s) : KeepsLaws o s.clearAndPark := .homeElse h.giveUpWork h.giveUpWork

theorem KeepsLaws.parkChoice (h : KeepsLaws o s) : KeepsLaws o s.parkChoice :=
  h.giveUpWork.homeElse h.giveUpWork.enterParked

theorem KeepsLaws.driveChoice {c : Choice} {b : Bool} (h : KeepsLaws o s) : KeepsLaws o (s.driveChoice c b) :=
  .ite (.parkWork h) (.ite h (.ite (.giveUpWork (s := s.discardStopped c) h) (.giveUpWork (s := s.discardStopped c) h)))

theorem KeepsLaws.headChoice {k : AlarmKind} {c : Choice} {b : Bool} (h : KeepsLaws o s) :
    KeepsLaws o (s.headChoice k c b) := by
  refine .ite h ?_
  split
  · exact h.driveChoice
  · exact .ite h.parkChoice h.retryCycle
  · exact .ite h.creditCycle.parkChoice h.continueCycle
  · exact .ite h.parkChoice h.resumeNoBall
  · exact .ite h.parkChoice h.resumeWireOut
  · exact .ite h.rejectUnit.clearAndPark h.skipUnit
  · exact .ite (.clearAndPark h) h.retryWire
  · exact h.clearAndPark

theorem KeepsLaws.boundaryContinue (h : KeepsLaws o s) : KeepsLaws o s.boundaryContinue := .ite h.resumeWork h

theorem KeepsLaws.restartHead (h : KeepsLaws o s) : KeepsLaws o s.restartHead := by
  have k := h.disableReq.abortBond
  have h1 : KeepsLaws o ((({ s.disableReq.abortBond with head.untrackedBond := false } : State).ignoreDue
      (fun d => d.use.ofHead)).rejectUnit) := .rejectUnit k
  exact KeepsLaws.closeSample (s := State.clearUnit _) (b := false) h1

theorem KeepsLaws.dupHead (h : KeepsLaws o s) : KeepsLaws o s.dupHead := h.disableReq.abortBond

/-! ### Line hold and the tests of an event (R26, R38, R51, R137, R172) -/

theorem KeepsLaws.holdEnds (h : KeepsLaws o s) : KeepsLaws o s.holdEnds := by
  have k : KeepsLaws o s.askHead.askStrip.askFeed.releaseFeed := .releaseFeed h
  exact .ite k.resumeWork k

theorem KeepsLaws.setHold {x : List Nat} (h : KeepsLaws o s) : KeepsLaws o (s.setHold x) :=
  .ite (.holdBegins h) (.ite (.holdEnds h) h)

theorem KeepsLaws.addHold {n : Nat} (h : KeepsLaws o s) : KeepsLaws o (s.addHold n) := .ite h h.setHold

theorem KeepsLaws.dropHold {n : Nat} (h : KeepsLaws o s) : KeepsLaws o (s.dropHold n) := .ite h.setHold h

theorem KeepsLaws.settlePlace (h : KeepsLaws o s) : KeepsLaws o s.settlePlace :=
  .ite (.ite h.closeSample.afterSample (.ite h.pullTests h)) h

theorem KeepsLaws.settlePoint (h : KeepsLaws o s) : KeepsLaws o s.settlePoint := .ite h.applyDue h

theorem KeepsLaws.settleHead (h : KeepsLaws o s) : KeepsLaws o s.settleHead :=
  .ite (.ite h.selectUnit.startWire (.ite h.startCycle h)) h

theorem KeepsLaws.settleStrip (h : KeepsLaws o s) : KeepsLaws o s.settleStrip := .ite h.evaluateStrip h

theorem KeepsLaws.settleFeed (h : KeepsLaws o s) : KeepsLaws o s.settleFeed := .ite h.testFeed h

theorem KeepsLaws.settlePort (h : KeepsLaws o s) : KeepsLaws o s.settlePort := .ite h.arbitrate h

theorem KeepsLaws.settle (h : KeepsLaws o s) : KeepsLaws o s.settle :=
  .ite h.settlePlace.settlePoint.settleHead.settleStrip.settleFeed.settlePort h

theorem KeepsLaws.beaconAfter (old : State) (h : KeepsLaws o s) : KeepsLaws o (s.beaconAfter old) :=
  .ite h.placeBeacon h

theorem KeepsLaws.keepLine (h : KeepsLaws o s) : KeepsLaws o s.keepLine := .ite h h

theorem KeepsLaws.finish (old : State) (h : KeepsLaws o s) : KeepsLaws o (State.finish old s) :=
  (h.beaconAfter old).keepLine

end
end Sys2Proof.Machine

namespace Sys2Proof.Machine

section
variable {o s t : State}

/-! ### Receiving, and the answers to alarms (R166, R167, R186 to R190) -/

theorem KeepsLaws.declareDup (h : KeepsLaws o s) : KeepsLaws o s.declareDup := by
  have k : KeepsLaws o (if s.dupHead.line.sending.isSome then s.dupHead.issue .lineStop else s.dupHead) :=
    .ite h.dupHead.issue h.dupHead
  exact k

theorem KeepsLaws.heard {n : Nat} (h : KeepsLaws o s) : KeepsLaws o (s.heard n) := .ite h h

theorem KeepsLaws.takeBeacon {n : Nat} {b : BeaconView} (h : KeepsLaws o s) : KeepsLaws o (s.takeBeacon n b) := by
  have k : KeepsLaws o (s.downstreamBeacon n) := .ite h h
  exact .ite k.panelBeacon.addHold k.panelBeacon.dropHold

theorem KeepsLaws.passFlag (h : KeepsLaws o s) : KeepsLaws o s.passFlag := .ite h (.askStrip (.queueBeacon h))

theorem KeepsLaws.markForward (h : KeepsLaws o s) : KeepsLaws o s.markForward := .ite h h

theorem KeepsLaws.choiceEffect {k : AlarmKind} {c : Choice} (h : KeepsLaws o s) : KeepsLaws o (s.choiceEffect k c) := by
  unfold State.choiceEffect
  split
  · exact .ite h.setBypass h.boundaryContinue
  · exact .ite h.setBypass h.boundaryContinue
  · exact h.settleJam
  · exact h.markForward
  · exact h.markForward
  · exact h.feedChoice
  · exact h
  · exact h
  · exact h
  · exact .headChoice (.ite h.passFlag h)

theorem KeepsLaws.respond {n q r : Nat} {c : Choice} (h : KeepsLaws o s) : KeepsLaws o (s.respond n q c r) := by
  refine .ite ?_ h
  split
  · exact .ite h.removeAlarm.choiceEffect h
  · exact h

/-! ### Start-up (R32, R37, R161, R162, R192) -/

theorem KeepsLaws.leaveStarting (h : KeepsLaws o s) : KeepsLaws o s.leaveStarting := by
  have k : KeepsLaws o ({ s with
      phase := .running
      pull.capable := s.straps.pullFitted && s.log.present
      log.scan := .idle } : State).queueBeacon.findStrip := .ite (.clampUnknown (.queueBeacon h)) (.queueBeacon h)
  exact .askPort (.askFeed (.askHead (.ite (.ite k.insertInput (.ite k.insertOutput k)) k)))

theorem KeepsLaws.endScanWith {n : Nat} (h : KeepsLaws o s) : KeepsLaws o (s.endScanWith n) := by
  unfold State.endScanWith
  extract_lets x s1 s2
  have h1 : KeepsLaws o s1 := h
  have h2 : KeepsLaws o s2 := by
    unfold s2
    split
    · exact h1.needBlock
    · exact h1
  exact .leaveStarting (.ite h2.setFull h2)

theorem KeepsLaws.scanDown {b n : Nat} (h : KeepsLaws o s) : KeepsLaws o (s.scanDown b n) := by
  refine .ite h ?_
  split
  · exact h
  · exact h.endScanWith

theorem KeepsLaws.headersRead (h : KeepsLaws o s) : KeepsLaws o s.headersRead := by
  unfold State.headersRead
  dsimp only
  split
  · exact .endScanWith h
  · exact h

theorem KeepsLaws.upwardDone {w n : Nat} {x : WritePos} (h : KeepsLaws o s) : KeepsLaws o (s.upwardDone w n x) :=
  .scanDown h

theorem KeepsLaws.scanUp {n : Nat} {bs : List Byte} (h : KeepsLaws o s) : KeepsLaws o (s.scanUp n bs) := by
  unfold State.scanUp
  split
  · exact h
  · exact .ite h.upwardDone (.ite (.upwardDone h) h)

theorem KeepsLaws.scanSlotDown {b n : Nat} {bs : List Byte} (h : KeepsLaws o s) :
    KeepsLaws o (s.scanSlotDown b n bs) := by
  unfold State.scanSlotDown
  split
  · exact h.endScanWith
  · exact .scanDown (.ite h h)
  · exact .scanDown (.ite h h)
  · exact h.scanDown

theorem KeepsLaws.noStore (h : KeepsLaws o s) : KeepsLaws o s.noStore := .leaveStarting h

theorem KeepsLaws.scanHeader {b : Nat} {bs : List Byte} (h : KeepsLaws o s) : KeepsLaws o (s.scanHeader b bs) :=
  .ite h (.headersRead h)

theorem KeepsLaws.scanAnswer {a : StoreAnswer} (h : KeepsLaws o s) : KeepsLaws o (s.scanAnswer a) := by
  unfold State.scanAnswer
  split
  · exact h
  · exact h.noStore
  · exact h.scanHeader
  · exact h.scanHeader
  · exact h.scanUp
  · exact h.scanUp
  · exact h.scanSlotDown
  · exact h.scanSlotDown

theorem KeepsLaws.startUpHoming (h : KeepsLaws o s) : KeepsLaws o s.startUpHoming := .ite h.startScan h.startHoming

theorem KeepsLaws.endListen (h : KeepsLaws o s) : KeepsLaws o s.endListen :=
  .ite (.startUpHoming (.placeBeacon (.drain h))) h

/-! ### The warm restart (R195) -/

/-- The restart empties the stack to HOME and opens every entry of the list again (R184). -/
theorem KeepsLaws.restartPanel (h : KeepsLaws o s) : KeepsLaws o s.restartPanel := by
  refine .ite (h.panel _ (fun _ => ?_) fun k => ?_) h
  · rw [Panel.refresh_stack]
    exact ⟨rfl, (by decide : 1 ≤ 6)⟩
  · rw [Panel.refresh_list]
    exact listFits_map (fun _ => rfl) k

theorem KeepsLaws.settleRestart {e : AlarmEntry} (h : KeepsLaws o s) : KeepsLaws o (s.settleRestart e) :=
  .ite h.submit.panelSettled h.submit.panelSettled

theorem KeepsLaws.restartFold {es : List AlarmEntry} (h : KeepsLaws o s) :
    KeepsLaws o (es.foldl State.settleRestart s) := by
  induction es generalizing s with
  | nil => exact h
  | cons e es ih => exact ih h.settleRestart

theorem KeepsLaws.restartAlarms (h : KeepsLaws o s) : KeepsLaws o s.restartAlarms := by
  have k : KeepsLaws o s.settling := KeepsLaws.restartFold (s := { s with alarms.queue := [] }) h
  exact .ite k k

theorem KeepsLaws.restartInput (h : KeepsLaws o s) : KeepsLaws o s.restartInput := by
  unfold State.restartInput
  extract_lets fed m retracts s1
  have hm : m.ranges = s.inMag.ranges := by
    unfold m
    split
    · exact s.inMag.feedDone_ranges
    · rfl
  have h1 : KeepsLaws o s1 := h.inMag (m := { m with
    feed := if retracts then .retracting else .idle
    feedSlot := none
    feedTimer := none
    waiting := none
    retrying := false
    retractJam := false
    insertedSinceJam := false }) hm
  exact .ite h1.move h1

theorem KeepsLaws.restartOutput (h : KeepsLaws o s) : KeepsLaws o s.restartOutput := by
  have k : KeepsLaws o (s.ignoreDue (fun d => d.use == .outScan)) := h
  unfold State.restartOutput
  split
  · refine .ite ?_ h
    split
    · exact k.scanSlot
    · exact k.endScan
  · exact h
  · exact h

theorem KeepsLaws.dropBelt (h : KeepsLaws o s) : KeepsLaws o s.dropBelt := .ite h h

theorem KeepsLaws.restartFull (h : KeepsLaws o s) : KeepsLaws o s.restartFull := .ite h.raise h

theorem KeepsLaws.restartLog (h : KeepsLaws o s) : KeepsLaws o s.restartLog := .closeAll h

theorem KeepsLaws.restartLine (h : KeepsLaws o s) : KeepsLaws o s.restartLine := h

theorem KeepsLaws.restartEnergy (h : KeepsLaws o s) : KeepsLaws o s.restartEnergy := h

theorem KeepsLaws.restartMarks (h : KeepsLaws o s) : KeepsLaws o s.restartMarks := h

theorem KeepsLaws.restartHoming (h : KeepsLaws o s) : KeepsLaws o s.restartHoming := h

theorem KeepsLaws.restart (h : KeepsLaws o s) : KeepsLaws o s.restart :=
  .queueBeacon (.restartHoming (.restartFull (.restartLog (.dropBelt (.restartWindow (.restartOutput (.restartInput
    (.restartMarks (.restartEnergy (.restartHead (.restartAlarms (.restartPanel (.restartLine h)))))))))))))

/-! ### Frames and service requests (chapters 6 and 12) -/

theorem KeepsLaws.takeTake {n : Nat} (h : KeepsLaws o s) : KeepsLaws o (s.takeTake n) := by
  unfold State.takeTake
  split
  · exact .ite h.acceptTake h
  · exact h

theorem KeepsLaws.takeDecline {n : Nat} (h : KeepsLaws o s) : KeepsLaws o (s.takeDecline n) := .ite h.endOffer h

theorem KeepsLaws.takeRecord {bs : List Byte} (h : KeepsLaws o s) : KeepsLaws o (s.takeRecord bs) := by
  refine .ite ?_ h
  split <;> exact h

theorem KeepsLaws.activate {d : Hdr} {g n : Nat} (h : KeepsLaws o s) : KeepsLaws o (s.activate d g n) := by
  refine .ite h.refuse (.ite ?_ h.refuse)
  split
  · exact h
  · exact h.refuse
  · exact h.refuse

theorem KeepsLaws.pullRead {d : Hdr} {n m : Nat} (h : KeepsLaws o s) : KeepsLaws o (s.pullRead d n m) := by
  refine .ite h.refuse (.ite h.refuse (.ite h.refuse ?_))
  split
  · exact h.refuse
  · exact h

theorem KeepsLaws.collect {d : Hdr} {n m : Nat} (h : KeepsLaws o s) : KeepsLaws o (s.collect d n m) :=
  .ite h.refuse (.ite h.refuse (.ite h.refuse (.ite h.refuse (.ite h (.ite h.refuse h)))))

/-- An accepted SKIP SLOTS leaves lawful ranges (R126). -/
theorem KeepsLaws.skipSlots {d : Hdr} {n m : Nat} (h : KeepsLaws o s) : KeepsLaws o (s.skipSlots d n m) := by
  unfold State.skipSlots
  refine .ite h.refuse (.ite h.refuse ?_)
  split
  · exact h.refuse
  · next hn =>
    split
    · exact h.refuse
    · next hm =>
      split
      · exact h.refuse
      · next m' hs =>
        have hr : slotRange (n, min m Config.slots) := by
          refine ⟨?_, ?_, ?_⟩ <;> dsimp only <;> omega
        have k : KeepsLaws o { s with inMag := m' } :=
          { h with ranges := fun k =>
              m'.rangesOk_iff.mp (InMag.skip_rangesOk (s.inMag.rangesOk_iff.mpr (h.ranges k)) hr hs) }
        exact .askFeed k.reply

theorem KeepsLaws.readMagazine {d : Hdr} (h : KeepsLaws o s) : KeepsLaws o (s.readMagazine d) :=
  .ite h.reply (.ite h.reply h.refuse)

/-! ### The line's own events (R188, R190) -/

theorem KeepsLaws.startSend (h : KeepsLaws o s) : KeepsLaws o s.startSend := by
  unfold State.startSend
  split <;> exact h

theorem KeepsLaws.dropHead (h : KeepsLaws o s) : KeepsLaws o s.dropHead := .drain h

theorem KeepsLaws.abortHead (h : KeepsLaws o s) : KeepsLaws o s.abortHead := by
  unfold State.abortHead
  split
  · exact h
  · exact .ite (.dropHead h) h

theorem KeepsLaws.mismatch (h : KeepsLaws o s) : KeepsLaws o s.mismatch := by
  unfold State.mismatch
  split
  · exact h
  · exact .ite (.abortHead h) h

theorem KeepsLaws.sent (h : KeepsLaws o s) : KeepsLaws o s.sent := by
  unfold State.sent
  split
  · exact h
  · exact .ite (.dropHead h) h

theorem KeepsLaws.becomeAbsent {n : Nat} (h : KeepsLaws o s) : KeepsLaws o (s.becomeAbsent n) :=
  .ite (.panelAbsent (.dropHold h)) h

/-! ### Answers of the ports (chapters 3 to 5) -/

theorem KeepsLaws.onAnswer {pt : Port} {ok : Use → Bool} {f : Use → State → State} (h : KeepsLaws o s)
    (hf : ∀ u t, KeepsLaws o t → KeepsLaws o (f u t)) : KeepsLaws o (s.onAnswer pt ok f) := by
  unfold State.onAnswer
  split
  · exact h
  · exact .ite (hf _ _ h) h

theorem KeepsLaws.allDone {u : Use} {f : State → State} (h : KeepsLaws o s) (hf : KeepsLaws o (f s)) :
    KeepsLaws o (s.allDone u f) := .ite h hf

theorem KeepsLaws.homingAnswered (h : KeepsLaws o s) : KeepsLaws o s.homingAnswered := by
  unfold State.homingAnswered
  split
  · exact h.homingTable
  · exact h.allDone h.endHoming
  · exact h

theorem KeepsLaws.positioned (h : KeepsLaws o s) : KeepsLaws o s.positioned := by
  unfold State.positioned
  split
  · exact h.withWire fun _ _ _ => h
  · exact h.allDone (h.withWire fun _ _ _ => h)
  · exact .ite h.wireStep h.wireStep
  · exact h

theorem KeepsLaws.looped (h : KeepsLaws o s) : KeepsLaws o s.looped := by
  unfold State.looped
  split
  · exact h.withWire fun _ _ _ => h
  · exact h.withWire fun _ _ _ => h
  · exact h.withWire fun _ _ _ => h
  · exact h.allDone h.wireStep
  · exact h

theorem KeepsLaws.tailMoved (h : KeepsLaws o s) : KeepsLaws o s.tailMoved := by
  unfold State.tailMoved
  split
  · exact h
  · exact h.wireStep
  · exact h

theorem KeepsLaws.clamped {u : Use} (h : KeepsLaws o s) : KeepsLaws o (s.clamped u) := by
  unfold State.clamped
  split
  · exact h
  · exact h.withWire fun _ _ _ => h
  · exact h
  · exact h
  · exact h
  · exact h

theorem KeepsLaws.conditioned (h : KeepsLaws o s) : KeepsLaws o s.conditioned := by
  unfold State.conditioned
  split
  · exact h
  · exact h.allDone h
  · exact h

theorem KeepsLaws.cycleSparked (h : KeepsLaws o s) : KeepsLaws o s.cycleSparked := .ite (.endCycle (.creditCycle h)) h

theorem KeepsLaws.driftIf {b : Bool} {r : BondReport} (h : KeepsLaws o s) : KeepsLaws o (s.driftIf b r) :=
  .ite h.addDrift h

theorem KeepsLaws.endFirstBond {r : BondReport} (h : KeepsLaws o s) : KeepsLaws o (s.endFirstBond r) := by
  have k (x : Tally) := (h.disableReq.count (x := .firstAttempted)).count (x := x)
  exact .ite (k _).untrackedEnd.driftIf.wireStep (k _).untrackedEnd.driftIf.holdFor

theorem KeepsLaws.endSecondBond {r : BondReport} (h : KeepsLaws o s) : KeepsLaws o (s.endSecondBond r) := by
  have k (x : Tally) := (h.disableReq.count (x := .secondAttempted)).count (x := x)
  exact .ite (k _).untrackedEnd.driftIf.wireStep (k _).untrackedEnd.driftIf.holdFor

theorem KeepsLaws.takeSample {v i : Nat} (h : KeepsLaws o s) : KeepsLaws o (s.takeSample v i) := by
  unfold State.takeSample
  split
  · exact h
  · dsimp only
    split
    · exact h
    · exact .ite (.endFirstBond h) (.endSecondBond h)

theorem KeepsLaws.axisFault {a : Axis} (h : KeepsLaws o s) : KeepsLaws o (s.axisFault a) := by
  unfold State.axisFault
  split
  · exact .ite (.takeDriveFault h) h
  · exact h.takeDriveFault

/-! ### The window's and the magazines' events (chapters 6 and 7) -/

theorem KeepsLaws.fedStripIn (h : KeepsLaws o s) : KeepsLaws o s.fedStripIn := by
  unfold State.fedStripIn
  split
  · exact h.feedArrival
  · exact h.lateArrival
  · exact h.clampInbound

theorem KeepsLaws.stripIn (h : KeepsLaws o s) : KeepsLaws o s.stripIn := by
  refine .ite h ?_
  split
  · exact .ite (.clampUnknown h) h.clampUnknown
  · exact .ite h.fedStripIn h.clampInbound
  · exact h

theorem KeepsLaws.stripOutClear (h : KeepsLaws o s) : KeepsLaws o s.stripOutClear :=
  .ite h (.ite (.ite (.ite (.fillSlot h) h) h) h.count.giveUpRecord)

theorem KeepsLaws.arrivalExpired (h : KeepsLaws o s) : KeepsLaws o s.arrivalExpired := by
  unfold State.arrivalExpired
  split
  · exact .emptyWindow h
  · exact h.jamWindow

theorem KeepsLaws.beltFaulted (h : KeepsLaws o s) : KeepsLaws o s.beltFaulted := .ite h.jamWindow h

theorem KeepsLaws.removeInput (h : KeepsLaws o s) : KeepsLaws o s.removeInput := by
  unfold State.removeInput
  dsimp only
  split
  · exact h
  · exact .jamFeed h
  · exact h

theorem KeepsLaws.searched (h : KeepsLaws o s) : KeepsLaws o s.searched := by
  unfold State.searched
  split
  · exact .ite h.searchFrom (.ite (.startPush h) (.searchFrom h))
  · exact h

theorem KeepsLaws.retried (h : KeepsLaws o s) : KeepsLaws o s.retried := by
  unfold State.retried
  split
  · next n _ _ =>
    have k (x : InSlot) : KeepsLaws o (if s.inMag.slot n = .skip then s.onInMag (fun m => { m with retrying := false })
        else (s.onInMag (fun m => { m with retrying := false })).onInMag (fun m => m.setSlot n x)) := .ite h h
    exact .ite (.ite (k _).startPush (k _).giveUpFeed) (k _).giveUpFeed
  · exact h

theorem KeepsLaws.pushAnswered (h : KeepsLaws o s) : KeepsLaws o s.pushAnswered := .ite h h

theorem KeepsLaws.retracted (h : KeepsLaws o s) : KeepsLaws o s.retracted := by
  unfold State.retracted
  split
  · exact h
  · exact h.carryFeedChoice
  · exact h

theorem KeepsLaws.retractFaulted (h : KeepsLaws o s) : KeepsLaws o s.retractFaulted := by
  unfold State.retractFaulted
  split
  · exact h.jamRetract
  · exact h.carryFeedChoice
  · exact h

theorem KeepsLaws.outputInserted (h : KeepsLaws o s) : KeepsLaws o s.outputInserted := .ite h h.insertOutput

theorem KeepsLaws.outputRemoved (h : KeepsLaws o s) : KeepsLaws o s.outputRemoved := .ite (.jamWindow h) h

theorem KeepsLaws.scanned (h : KeepsLaws o s) : KeepsLaws o s.scanned := by
  unfold State.scanned
  split
  · exact .scanSlot h
  · exact h

theorem KeepsLaws.elevated {u : Use} (h : KeepsLaws o s) : KeepsLaws o (s.elevated u) := by
  unfold State.elevated
  split
  · exact h.homingAnswered
  · exact h.searched
  · exact h.retried
  · exact h.scanned
  · exact .ite h h
  · exact h

theorem KeepsLaws.elevatorFaulted {u : Use} (h : KeepsLaws o s) : KeepsLaws o (s.elevatorFaulted u) := by
  unfold State.elevatorFaulted
  split
  · exact h.homingAnswered
  · exact h.jamFeed
  · exact h.jamFeed
  · exact .ite h.endScan h
  · exact .ite h.jamWindow h
  · exact h

/-! ### The pull cycle and the record port (chapters 8 and 9) -/

theorem KeepsLaws.pullPositioned (h : KeepsLaws o s) : KeepsLaws o s.pullPositioned := by
  unfold State.pullPositioned
  split
  · exact h
  · split
    · refine h.allDone ?_
      split <;> exact h
    · exact h.allDone h
    · exact h

theorem KeepsLaws.endRise {m : Sample} {n : Nat} {v : Verdict} (h : KeepsLaws o s) : KeepsLaws o (s.endRise m n v) := by
  have k : KeepsLaws o ((s.count .pullsMade).countIf (v == .low) .pullsLow) := h.count.countIf
  exact .move (.offerPlaces k)

theorem KeepsLaws.takeForce {n : Nat} (h : KeepsLaws o s) : KeepsLaws o (s.takeForce n) := by
  unfold State.takeForce
  split
  · exact h
  · exact .ite (.ite (.endRise h) h) h

theorem KeepsLaws.riseDone (h : KeepsLaws o s) : KeepsLaws o s.riseDone := by
  unfold State.riseDone
  split
  · exact h
  · exact .ite h.endRise h

theorem KeepsLaws.advancePos (h : KeepsLaws o s) : KeepsLaws o s.advancePos := by
  unfold State.advancePos
  split
  · exact .ite h.needBlock h
  · exact h

theorem KeepsLaws.entryWritten {e : LogEntry} (h : KeepsLaws o s) : KeepsLaws o (s.entryWritten e) := by
  unfold State.entryWritten
  extract_lets x s1
  have h1 : KeepsLaws o s1 := .advancePos h
  exact .askPort (.offerPlaces (.ite h1.setFull h1))

theorem KeepsLaws.clearFull (h : KeepsLaws o s) : KeepsLaws o s.clearFull := .ite (.offerPlaces (.clearAlarm h)) h

theorem KeepsLaws.erased {n : Nat} (h : KeepsLaws o s) : KeepsLaws o (s.erased n) := .ite (.clearFull h) h

theorem KeepsLaws.slotRead {b n : Nat} {bs : List Byte} (h : KeepsLaws o s) : KeepsLaws o (s.slotRead b n bs) := by
  unfold State.slotRead
  dsimp only
  split
  · split
    · exact .ite (.ite (.answerRead h) h) h
    · exact h
  · exact h

end
end Sys2Proof.Machine

namespace Sys2Proof.Machine

section
variable {o s t : State}

/-! ### The panel's keys (R171, R176 to R182) -/

/-- A change of the panel that leaves its stack and its list. -/
theorem KeepsLaws.onPanel {f : Panel → Panel} (h : KeepsLaws o s) (hs : (f s.panel).stack = s.panel.stack)
    (hl : (f s.panel).list = s.panel.list) : KeepsLaws o (s.onPanel f) :=
  h.panel _ (fun k => hs ▸ k) fun k => hl ▸ k

theorem KeepsLaws.buzz (h : KeepsLaws o s) : KeepsLaws o s.buzz := h

theorem KeepsLaws.clearBuffer (h : KeepsLaws o s) : KeepsLaws o s.clearBuffer := h

theorem KeepsLaws.sendTo {n : Nat} {done own : State → State} {f : Frame} (h : KeepsLaws o s)
    (hd : ∀ t, KeepsLaws o t → KeepsLaws o (done t)) (ho : ∀ t, KeepsLaws o t → KeepsLaws o (own t)) :
    KeepsLaws o (s.sendTo n done own f) :=
  .ite (ho _ (hd _ h)) (.ite h.buzz (hd _ h).submit)

theorem KeepsLaws.toggleHold (h : KeepsLaws o s) : KeepsLaws o s.toggleHold :=
  .ite (.queueBeacon (.submit h.dropHold)) (.queueBeacon (.submit h.addHold))

theorem KeepsLaws.overlayMove {b : Bool} (h : KeepsLaws o s) : KeepsLaws o (s.overlayMove b) := by
  unfold State.overlayMove
  split
  · split
    · exact h.onPanel rfl rfl
    · exact h.buzz
  · exact h.buzz

theorem KeepsLaws.overlayDigit {d : Nat} (h : KeepsLaws o s) : KeepsLaws o (s.overlayDigit d) := by
  unfold State.overlayDigit
  split
  · exact .ite (h.onPanel rfl rfl) h.buzz
  · exact h.buzz

theorem KeepsLaws.markSent {n q : Nat} (h : KeepsLaws o s) : KeepsLaws o (s.markSent n q) :=
  h.panelChange (fun k => k) (listFits_map (ite_id fun _ => rfl))

theorem KeepsLaws.overlayEnter (h : KeepsLaws o s) : KeepsLaws o s.overlayEnter := by
  unfold State.overlayEnter
  split
  · exact h.sendTo (fun _ k => k.markSent) fun _ k => k.respond
  · exact h.buzz

theorem KeepsLaws.overlayBack (h : KeepsLaws o s) : KeepsLaws o s.overlayBack :=
  h.panelChange (fun k => k) (listFits_map (ite_id fun _ => rfl))

theorem KeepsLaws.overlayKey {k : Key} (h : KeepsLaws o s) : KeepsLaws o (s.overlayKey k) := by
  unfold State.overlayKey
  split
  · exact h.overlayMove
  · exact h.overlayMove
  · exact h.overlayDigit
  · exact h.overlayEnter
  · exact h.overlayBack
  · exact h.buzz

/-- A screen pushed leaves HOME at the bottom of at most 6 (R177). -/
theorem stackFits_push {x : List Screen} {y : Screen} (hlen : x.length < 6) (h : stackFits x) :
    stackFits (x ++ [y]) := by
  obtain ⟨hhome, -⟩ := h
  refine ⟨?_, by simpa using hlen⟩
  rw [List.head?_append, hhome]
  rfl

/-- A screen popped above HOME leaves HOME (R177). -/
theorem stackFits_pop {x : List Screen} (hlen : 1 < x.length) (h : stackFits x) : stackFits x.dropLast := by
  obtain ⟨hhome, hle⟩ := h
  refine ⟨?_, by rw [List.length_dropLast]; omega⟩
  match x, hlen with
  | _ :: _ :: _, _ => exact hhome

theorem KeepsLaws.pushScreen {x : Screen} (h : KeepsLaws o s) : KeepsLaws o (s.pushScreen x) := by
  unfold State.pushScreen
  split
  · next hlen => exact h.panel _ (stackFits_push hlen) fun k => k
  · exact h.buzz

theorem KeepsLaws.popScreen (h : KeepsLaws o s) : KeepsLaws o s.popScreen := by
  refine .ite (h.onPanel rfl rfl) ?_
  split
  · exact h.buzz
  · next hlen => exact h.panel _ (stackFits_pop (Nat.lt_of_not_le hlen)) fun k => k

theorem KeepsLaws.scrollScreen {b : Bool} (h : KeepsLaws o s) : KeepsLaws o (s.scrollScreen b) := h.onPanel rfl rfl

theorem KeepsLaws.menuItem {d : Nat} (h : KeepsLaws o s) : KeepsLaws o (s.menuItem d) := by
  unfold State.menuItem
  split
  · exact h.pushScreen
  · exact .ite (h.onPanel rfl rfl) (.ite (h.onPanel rfl rfl) (.ite (h.onPanel rfl rfl) h.buzz))

theorem KeepsLaws.menuDigit {d : Nat} (h : KeepsLaws o s) : KeepsLaws o (s.menuDigit d) := by
  unfold State.menuDigit
  split
  · exact .ite (h.onPanel rfl rfl) h.buzz
  · exact .ite (h.onPanel rfl rfl) h.buzz
  · exact h.buzz
  · exact h.menuItem

theorem KeepsLaws.menuEnter (h : KeepsLaws o s) : KeepsLaws o s.menuEnter := by
  unfold State.menuEnter
  split
  · exact h.sendTo (fun _ k => k.clearBuffer) fun _ k => k.setBypass
  · exact h.sendTo (fun _ k => k.clearBuffer) fun _ k => k.clearBypass
  · exact h.clearBuffer.snapshot
  · exact h.buzz

theorem KeepsLaws.gradeMove {b : Bool} (h : KeepsLaws o s) : KeepsLaws o (s.gradeMove b) := by
  unfold State.gradeMove
  split
  · split
    · exact h.onPanel rfl rfl
    · exact h.buzz
  · exact h.buzz

theorem KeepsLaws.gradeDigit {d : Nat} (h : KeepsLaws o s) : KeepsLaws o (s.gradeDigit d) := by
  unfold State.gradeDigit
  split
  · exact .ite (h.onPanel rfl rfl) h.buzz
  · exact h.buzz

theorem KeepsLaws.gradeEnter (h : KeepsLaws o s) : KeepsLaws o s.gradeEnter := by
  unfold State.gradeEnter
  split
  · exact .ite (h.sendTo (fun _ k => k.clearBuffer) fun _ k => k.gradeEntry) h.clearBuffer.buzz
  · exact h.buzz

theorem KeepsLaws.screenKey {k : Key} (h : KeepsLaws o s) : KeepsLaws o (s.screenKey k) := by
  unfold State.screenKey
  split
  · exact h.pushScreen
  · exact h.popScreen
  · exact h.menuDigit
  · exact h.menuEnter
  · exact h.gradeDigit
  · exact h.gradeEnter
  · exact h.gradeMove
  · exact h.gradeMove
  · exact h.scrollScreen
  · exact h.scrollScreen
  · exact h.scrollScreen
  · exact h.scrollScreen
  · exact h.scrollScreen
  · exact h.scrollScreen
  · exact h.buzz

theorem KeepsLaws.takeKey {k : Key} (h : KeepsLaws o s) : KeepsLaws o (s.takeKey k) :=
  .ite (h.onPanel rfl rfl) (.ite h (.ite h.toggleHold (.ite h.overlayKey h.screenKey)))

theorem KeepsLaws.acceptKey {k : Key} (h : KeepsLaws o s) : KeepsLaws o (s.acceptKey k) :=
  (h.onPanel (f := fun p => { p with accepted := some k, idleMs := 0 }) rfl rfl).takeKey

theorem KeepsLaws.pressKey {k : Key} (h : KeepsLaws o s) : KeepsLaws o (s.pressKey k) :=
  .ite (h.onPanel (f := fun p => { p with pattern := .one k, runLength := 3 }) rfl rfl).acceptKey h

theorem KeepsLaws.scanKeys {x : Scan} (h : KeepsLaws o s) : KeepsLaws o (s.scanKeys x) := by
  have k : KeepsLaws o (s.onPanel fun p => p.scan x) := h.onPanel rfl rfl
  unfold State.scanKeys
  dsimp only
  split
  · exact .ite k.acceptKey k.standbyTest
  · exact .standbyTest (.ite (k.onPanel rfl rfl) k)
  · exact k.standbyTest

theorem KeepsLaws.reopen {w : PanelEntry → Bool} (h : KeepsLaws o s) : KeepsLaws o (s.reopen w) :=
  .ite (h.panelChange (fun k => k) (listFits_map (ite_id fun _ => rfl))) h

theorem KeepsLaws.whenRunning {f : State → State} (h : KeepsLaws o s) (hf : KeepsLaws o (f s)) :
    KeepsLaws o (s.whenRunning f) := .ite hf h

theorem KeepsLaws.fromUpstream {d : Hdr} {f : State → State} (h : KeepsLaws o s) (hf : KeepsLaws o (f s)) :
    KeepsLaws o (Sys2Proof.Machine.fromUpstream s d f) := .ite hf h

theorem KeepsLaws.fromDownstream {d : Hdr} {f : State → State} (h : KeepsLaws o s) (hf : KeepsLaws o (f s)) :
    KeepsLaws o (Sys2Proof.Machine.fromDownstream s d f) := .ite hf h

end

/-! ### The commands -/

/-- Each law of O53 that holds in `o` holds in the state that the command leaves. -/
def AnswersLaws (o : State) (x : Host.Outcome State Fault Refusal) : Prop := ∀ t, x = .next t → KeepsLaws o t

section
variable {s : State} {f : State → State}

theorem perform_laws (p : Pins) (hf : KeepsLaws s (s.begin_ p) → KeepsLaws s (f (s.begin_ p))) :
    AnswersLaws s (answer (s.perform p f)) := by
  rintro t ⟨⟩
  exact .finish s (hf (.refl s)).settle

theorem event_laws (p : Pins) (hf : ∀ t, KeepsLaws s t → KeepsLaws s (f t)) : AnswersLaws s (event s p f) :=
  perform_laws p fun k => .ite (hf _ k) k

theorem portEvent_laws (p : Pins) (hf : ∀ t, KeepsLaws s t → KeepsLaws s (f t)) : AnswersLaws s (portEvent s p f) :=
  perform_laws p fun k => .ite k (hf _ k)

theorem keyEvent_laws (p : Pins) (hf : ∀ t, KeepsLaws s t → KeepsLaws s (f t)) : AnswersLaws s (keyEvent s p f) :=
  perform_laws p fun k => .ite (hf _ k) k

theorem panelEvent_laws (p : Pins) (hf : ∀ t, KeepsLaws s t → KeepsLaws s (f t)) : AnswersLaws s (panelEvent s p f) :=
  event_laws p fun _ k => .ite (hf _ k) k

theorem receiveWith_laws {view : State → State} (h : Hdr) (p : Pins) (hv : ∀ t, KeepsLaws s t → KeepsLaws s (view t))
    (hf : ∀ t, KeepsLaws s t → KeepsLaws s (f t)) : AnswersLaws s (receiveWith s h p view f) :=
  event_laws p fun t k =>
    have kv : KeepsLaws s (view (t.heard h.sender)) := hv _ k.heard
    have kb : KeepsLaws s t.takeBadFrame := k.count (x := .lineBadFrames)
    .ite kb (.ite k.declareDup (.ite (hf _ kv) kv))

theorem receive_laws (h : Hdr) (p : Pins) (hf : ∀ t, KeepsLaws s t → KeepsLaws s (f t)) :
    AnswersLaws s (receive s h p f) :=
  receiveWith_laws h p (fun _ k => k) hf

theorem request_laws (h : Hdr) (p : Pins) (hf : ∀ t, KeepsLaws s t → KeepsLaws s (f t)) :
    AnswersLaws s (Machine.request s h p f) :=
  receive_laws h p fun _ k => .ite (hf _ k) k

theorem response_laws {n q : Nat} {x : Choice} (h : Hdr) (p : Pins) : AnswersLaws s (response s h n q x p) :=
  receive_laws h p fun _ k => k.respond

/-- An answer that `ok` takes, whatever its use. -/
theorem onAnswer_laws {pt : Port} {ok : Use → Bool} {g : Use → State → State} (p : Pins)
    (hg : ∀ u t, KeepsLaws s t → KeepsLaws s (g u t)) : AnswersLaws s (event s p fun t => t.onAnswer pt ok g) :=
  event_laws p fun _ k => k.onAnswer hg

theorem onAxis_laws {a : Axis} {u : Use} (p : Pins) (hf : ∀ t, KeepsLaws s t → KeepsLaws s (f t)) :
    AnswersLaws s (event s p fun t => t.onAxis a u f) :=
  onAnswer_laws p fun _ => hf

end

theorem exec_beacon_laws (h : Hdr) (bs : List Byte) (p : Pins) (s : State) : AnswersLaws s (execBeacon h bs p s) := by
  unfold execBeacon
  split
  · exact receiveWith_laws h p (fun _ k => k) fun _ k => k.takeBeacon
  · exact receive_laws h p fun _ k => k

/-- The reset values are lawful (R192). -/
theorem afterReset_laws (x : Straps) (p : Pins) (s : State) : KeepsLaws s (State.afterReset x p s.pending) where
  ranges _ := InMag.reset.rangesOk_iff.mp (by decide)
  stack _ := ⟨rfl, (by decide : 1 ≤ 6)⟩
  list _ := ⟨Nat.zero_le _, List.nodup_nil⟩
  counters _ := countersOk_zero
  snap _ _ := countersOk_zero

/-- Every command keeps the laws; a hardware reset establishes them (R192). -/
theorem exec_laws (c : Instr) (s : State) : AnswersLaws s (exec c s) := by
  cases c with
  | hardwareReset x p =>
    intro t ht
    obtain rfl : State.afterReset x p s.pending = t := Host.Outcome.next.inj ht
    exact afterReset_laws x p s
  | listenEnd p =>
    show AnswersLaws s (execListenEnd p s)
    exact event_laws p fun _ k => k.endListen
  | restart h p =>
    show AnswersLaws s (execRestart h p s)
    refine request_laws h p fun t k => ?_
    split
    · exact k.restart
    · exact k.refuse
  | beacon h bs p =>
    show AnswersLaws s (execBeacon h bs p s)
    exact exec_beacon_laws h bs p s
  | offer h n p =>
    show AnswersLaws s (execOffer h n p s)
    exact receive_laws h p fun _ k => .ite k (.fromUpstream k k.answerOffer)
  | take h n p =>
    show AnswersLaws s (execTake h n p s)
    exact receive_laws h p fun _ k => .fromDownstream k k.takeTake
  | decline h n r p =>
    show AnswersLaws s (execDecline h n r p s)
    exact receive_laws h p fun _ k => .fromDownstream k k.takeDecline
  | stripRecord h bs p =>
    show AnswersLaws s (execStripRecord h bs p s)
    exact receive_laws h p fun _ k => .ite (.fromUpstream k k.takeRecord) k
  | alarm h q kd n u w p =>
    show AnswersLaws s (execAlarm h q kd n u w p s)
    refine receive_laws h p fun t k => ?_
    split
    · exact k.panelAlarm
    · exact k
  | settled h q kd ch r p =>
    show AnswersLaws s (execSettled h q kd ch r p s)
    exact receive_laws h p fun _ k => k.panelSettled
  | retry h n q p =>
    show AnswersLaws s (execRetry h n q p s)
    exact response_laws h p
  | skipUnit h n q p =>
    show AnswersLaws s (execSkipUnit h n q p s)
    exact response_laws h p
  | passStrip h n q p =>
    show AnswersLaws s (execPassStrip h n q p s)
    exact response_laws h p
  | resume h n q p =>
    show AnswersLaws s (execResume h n q p s)
    exact response_laws h p
  | continue_ h n q p =>
    show AnswersLaws s (execContinue h n q p s)
    exact response_laws h p
  | forward h n q p =>
    show AnswersLaws s (execForward h n q p s)
    exact response_laws h p
  | grade h n r m p =>
    show AnswersLaws s (execGrade h n r m p s)
    exact receive_laws h p fun _ k => .ite k.gradeEntry k
  | hold h n p =>
    show AnswersLaws s (execHold h n p s)
    exact receive_laws h p fun _ k => .ite k.addHold k
  | release h n p =>
    show AnswersLaws s (execRelease h n p s)
    exact receive_laws h p fun _ k => .ite k.dropHold k
  | bypass h n p =>
    show AnswersLaws s (execBypass h n p s)
    exact receive_laws h p fun _ k => .ite k.setBypass k
  | resumeBonding h n p =>
    show AnswersLaws s (execResumeBonding h n p s)
    exact receive_laws h p fun _ k => .ite k.clearBypass k
  | recipeSegment h bs p =>
    show AnswersLaws s (execRecipeSegment h bs p s)
    refine request_laws h p fun t k => .ite k ?_
    split
    · exact k.refuse
    · exact k.acceptSegment
  | recipeActivate h g r p =>
    show AnswersLaws s (execRecipeActivate h g r p s)
    exact request_laws h p fun _ k => k.activate
  | tallySnapshot h m p =>
    show AnswersLaws s (execTallySnapshot h m p s)
    exact request_laws h p fun _ k => .ite k.snapshot (.ite k.snapshot k.refuse)
  | tallyRead h p =>
    show AnswersLaws s (execTallyRead h p s)
    exact request_laws h p fun _ k => k.reply
  | pullRead h n m p =>
    show AnswersLaws s (execPullRead h n m p s)
    exact request_laws h p fun _ k => k.pullRead
  | collected h n m p =>
    show AnswersLaws s (execCollected h n m p s)
    exact request_laws h p fun _ k => k.collect
  | skipSlots h n m p =>
    show AnswersLaws s (execSkipSlots h n m p s)
    exact request_laws h p fun _ k => k.skipSlots
  | magazineRead h p =>
    show AnswersLaws s (execMagazineRead h p s)
    exact request_laws h p fun _ k => k.readMagazine
  | errorDetail h p =>
    show AnswersLaws s (execErrorDetail h p s)
    exact request_laws h p fun _ k => k.reply
  | discardedFrame h p =>
    show AnswersLaws s (execDiscardedFrame h p s)
    exact receive_laws h p fun _ k => k
  | badFrame p =>
    show AnswersLaws s (execBadFrame p s)
    exact event_laws p fun _ k => k.count (x := .lineBadFrames)
  | quietGapExpiry p =>
    show AnswersLaws s (execQuietGapExpiry p s)
    exact event_laws p fun _ k => k.startSend
  | readbackMismatch p =>
    show AnswersLaws s (execReadbackMismatch p s)
    exact event_laws p fun _ k => k.mismatch
  | frameSent p =>
    show AnswersLaws s (execFrameSent p s)
    exact event_laws p fun _ k => k.sent
  | presenceTimeout n p =>
    show AnswersLaws s (execPresenceTimeout n p s)
    exact event_laws p fun _ k => .ite k.becomeAbsent k
  | beaconTimerExpiry p =>
    show AnswersLaws s (execBeaconTimerExpiry p s)
    exact event_laws p fun _ k => .ite k.placeBeacon k
  | homingMoveDone a p =>
    show AnswersLaws s (execHomingMoveDone a p s)
    exact onAxis_laws p fun _ k => k.homingAnswered
  | positioningMoveDone a p =>
    show AnswersLaws s (execPositioningMoveDone a p s)
    exact onAxis_laws p fun _ k => k.positioned
  | contact n p =>
    show AnswersLaws s (execContact n p s)
    exact onAxis_laws p fun t k => KeepsLaws.wireStep (s := { t with head.surface := some n }) k
  | searchLimitReached p =>
    show AnswersLaws s (execSearchLimitReached p s)
    exact onAxis_laws p fun _ k => k.holdFor
  | ballDownDone p =>
    show AnswersLaws s (execBallDownDone p s)
    exact onAxis_laws p fun _ k => k.wireStep
  | loopingMoveDone a p =>
    show AnswersLaws s (execLoopingMoveDone a p s)
    exact onAxis_laws p fun _ k => k.looped
  | stitchDownDone p =>
    show AnswersLaws s (execStitchDownDone p s)
    exact onAxis_laws p fun _ k => k.wireStep
  | tailMoveDone p =>
    show AnswersLaws s (execTailMoveDone p s)
    exact onAnswer_laws p fun _ _ k => .ite k.endClearing k.tailMoved
  | wireClampDone p =>
    show AnswersLaws s (execWireClampDone p s)
    exact onAnswer_laws p fun _ _ k => k.clamped
  | stripClampDone p =>
    show AnswersLaws s (execStripClampDone p s)
    exact onAnswer_laws p fun _ _ k => k
  | conditioningMoveDone a p =>
    show AnswersLaws s (execConditioningMoveDone a p s)
    exact onAxis_laws p fun _ k => k.conditioned
  | driveFault a p =>
    show AnswersLaws s (execDriveFault a p s)
    exact event_laws p fun _ k => .ite k.axisFault k
  | transducerSample v i p =>
    show AnswersLaws s (execTransducerSample v i p s)
    exact event_laws p fun _ k => k.takeSample
  | lock p =>
    show AnswersLaws s (execLock p s)
    exact event_laws p fun _ k => k
  | unlock p =>
    show AnswersLaws s (execUnlock p s)
    exact event_laws p fun _ k => k
  | sparkOk p =>
    show AnswersLaws s (execSparkOk p s)
    exact onAnswer_laws p fun _ _ k => .ite k.cycleSparked k.completeWire
  | sparkOpen p =>
    show AnswersLaws s (execSparkOpen p s)
    exact onAnswer_laws p fun _ _ k => .ite k.holdFor k.holdFor
  | wirePresentFalls p =>
    show AnswersLaws s (execWirePresentFalls p s)
    exact event_laws p fun _ k => k
  | stripInRises p =>
    show AnswersLaws s (execStripInRises p s)
    exact event_laws p fun _ k => .whenRunning k k.stripIn
  | stripOutClears p =>
    show AnswersLaws s (execStripOutClears p s)
    exact event_laws p fun _ k => .whenRunning k k.stripOutClear
  | offerTimerExpiry p =>
    show AnswersLaws s (execOfferTimerExpiry p s)
    exact event_laws p fun _ k => .ite k.endOffer k
  | arrivalTimerExpiry p =>
    show AnswersLaws s (execArrivalTimerExpiry p s)
    exact event_laws p fun _ k => .ite k.arrivalExpired k
  | exitTimerExpiry p =>
    show AnswersLaws s (execExitTimerExpiry p s)
    exact event_laws p fun _ k => .ite k.jamWindow k
  | beltDone p =>
    show AnswersLaws s (execBeltDone p s)
    exact onAxis_laws p fun _ k => k
  | beltFault p =>
    show AnswersLaws s (execBeltFault p s)
    exact onAxis_laws p fun _ k => k.beltFaulted
  | inputMagInserted p =>
    show AnswersLaws s (execInputMagInserted p s)
    exact event_laws p fun _ k => .ite (.whenRunning k k.insertInput) k
  | inputMagRemoved p =>
    show AnswersLaws s (execInputMagRemoved p s)
    exact event_laws p fun _ k => .ite (.whenRunning k k.removeInput) k
  | outputMagInserted p =>
    show AnswersLaws s (execOutputMagInserted p s)
    exact event_laws p fun _ k => .ite (.whenRunning k k.outputInserted) k
  | outputMagRemoved p =>
    show AnswersLaws s (execOutputMagRemoved p s)
    exact event_laws p fun _ k => .ite (.whenRunning k k.outputRemoved) k
  | elevatorDone p =>
    show AnswersLaws s (execElevatorDone p s)
    exact onAnswer_laws p fun _ _ k => k.elevated
  | elevatorFault p =>
    show AnswersLaws s (execElevatorFault p s)
    exact onAnswer_laws p fun _ _ k => k.elevatorFaulted
  | pusherDone p =>
    show AnswersLaws s (execPusherDone p s)
    exact onAnswer_laws p fun _ _ k => .ite k.pushAnswered k.retracted
  | pusherFault p =>
    show AnswersLaws s (execPusherFault p s)
    exact onAnswer_laws p fun _ _ k => .ite (.ite k.jamFeed k.pushAnswered) k.retractFaulted
  | feedTimerExpiry p =>
    show AnswersLaws s (execFeedTimerExpiry p s)
    exact event_laws p fun _ k => .ite k.jamFeed k
  | slotSenseRises p =>
    show AnswersLaws s (execSlotSenseRises p s)
    exact event_laws p fun _ k => .ite k.fillSlot k
  | unloadTimerExpiry p =>
    show AnswersLaws s (execUnloadTimerExpiry p s)
    exact event_laws p fun _ k => .ite k.jamWindow k
  | pullPositioningDone a p =>
    show AnswersLaws s (execPullPositioningDone a p s)
    exact onAxis_laws p fun _ k => k.pullPositioned
  | forceSample f p =>
    show AnswersLaws s (execForceSample f p s)
    exact event_laws p fun _ k => k.takeForce
  | hookRiseDone p =>
    show AnswersLaws s (execHookRiseDone p s)
    exact onAxis_laws p fun _ k => k.riseDone
  | hookReturnDone p =>
    show AnswersLaws s (execHookReturnDone p s)
    exact onAxis_laws p fun _ k => k.nextPlanWire
  | entryWriteDone p =>
    show AnswersLaws s (execEntryWriteDone p s)
    refine portEvent_laws p fun t k => ?_
    split
    · exact k.entryWritten
    · exact k
  | headerWriteDone p =>
    show AnswersLaws s (execHeaderWriteDone p s)
    refine portEvent_laws p fun t k => ?_
    split <;> exact k
  | eraseDone p =>
    show AnswersLaws s (execEraseDone p s)
    refine portEvent_laws p fun t k => ?_
    split
    · exact k.erased
    · exact k
  | pullReadSlotDone bs p =>
    show AnswersLaws s (execPullReadSlotDone bs p s)
    refine portEvent_laws p fun t k => ?_
    split
    · exact .ite k k.slotRead
    · exact k
  | scanReadDone a p =>
    show AnswersLaws s (execScanReadDone a p s)
    exact event_laws p fun _ k => .ite k.scanAnswer k
  | storeAnswerTimeout p =>
    show AnswersLaws s (execStoreAnswerTimeout p s)
    exact event_laws p fun _ k => .ite k.noStore k
  | keyScan x p =>
    show AnswersLaws s (execKeyScan x p s)
    exact keyEvent_laws p fun _ k => k.scanKeys
  | keyRelease p =>
    show AnswersLaws s (execKeyRelease p s)
    exact keyEvent_laws p fun _ k => k
  | holdKey p =>
    show AnswersLaws s (execHoldKey p s)
    exact keyEvent_laws p fun _ k => k.pressKey
  | menuKey p =>
    show AnswersLaws s (execMenuKey p s)
    exact keyEvent_laws p fun _ k => k.pressKey
  | backKey p =>
    show AnswersLaws s (execBackKey p s)
    exact keyEvent_laws p fun _ k => k.pressKey
  | upKey p =>
    show AnswersLaws s (execUpKey p s)
    exact keyEvent_laws p fun _ k => k.pressKey
  | downKey p =>
    show AnswersLaws s (execDownKey p s)
    exact keyEvent_laws p fun _ k => k.pressKey
  | digitKey d p =>
    show AnswersLaws s (execDigitKey d p s)
    exact keyEvent_laws p fun _ k => k.pressKey
  | enterKey p =>
    show AnswersLaws s (execEnterKey p s)
    exact keyEvent_laws p fun _ k => k.pressKey
  | sendTimerExpiry n q p =>
    show AnswersLaws s (execSendTimerExpiry n q p s)
    exact panelEvent_laws p fun _ k => k.reopen
  | deferralTimerExpiry p =>
    show AnswersLaws s (execDeferralTimerExpiry p s)
    exact panelEvent_laws p fun t k => .ite (k.onPanel (f := fun q => { q with deferTimer := none }) rfl rfl).reopen k
  | standby p =>
    show AnswersLaws s (execStandby p s)
    exact panelEvent_laws p fun t k => KeepsLaws.standbyTest (s := t.onPanel _) k

/-- Every step keeps the laws: an empty queue changes nothing. -/
theorem step_laws {s t : State} (ht : step s = .next t) : KeepsLaws s t := by
  unfold step at ht
  split at ht
  · obtain rfl : s = t := Host.Outcome.next.inj ht
    exact .refl s
  · have k : KeepsLaws { s with pending := _ } t := exec_laws _ _ t ht
    exact k

/-- Settles O53: every command keeps each of the laws. -/
theorem rangesPanelAndTalliesStayLawful : Obligations.RangesPanelAndTalliesStayLawful := by
  refine ⟨fun s t h ht => ?_, fun s t h ht => ?_, fun s t h hn ht => ?_⟩
  · exact t.inMag.rangesOk_iff.mpr ((step_laws ht).ranges (s.inMag.rangesOk_iff.mp h))
  · obtain ⟨hs, hl⟩ := s.panel.shapeOk_iff.mp h
    exact t.panel.shapeOk_iff.mpr ⟨(step_laws ht).stack hs, (step_laws ht).list hl⟩
  · exact ⟨(step_laws ht).counters h, (step_laws ht).snap h hn⟩

end Sys2Proof.Machine

/-! ## What the tests at the end of an event leave of the magazines

The tests can begin a search (R119) and an unload (R113, R130): no slot, count or mark of a magazine changes, no push is
requested, and only a CLAMPED strip leaves its window state. `Tends o s` says this of the way from `o` to `s`. -/

namespace Sys2Proof.Machine

/-- The parts of a state that `Tends` speaks of. -/
structure MagView where
  input : InMag
  output : OutMag
  window : WindowState
  pins : Pins
  out : List Request

def State.magView (s : State) : MagView := ⟨s.inMag, s.outMag, s.window.state, s.pins, s.out⟩

/-- The way from the view `a` to the view `b`. -/
structure MagView.Leads (a b : MagView) : Prop where
  input : b.input = { a.input with feed := b.input.feed, feedSlot := b.input.feedSlot }
  feed : b.input.feed = a.input.feed ∨ b.input.feed = .searching ∧ a.pins.magPresent = true
  output : b.output = { a.output with
    unloader := b.output.unloader, target := b.output.target, leftWindow := b.output.leftWindow }
  unloader : b.output = a.output ∨ a.window = .clamped ∧ b.window = .outbound ∧ b.output.unloader = .unloading
  window : b.window = a.window ∨ a.window = .clamped ∧ (b.window = .offered ∨ b.window = .outbound)
  pins : b.pins = a.pins
  push : .pusherPush ∈ b.out → .pusherPush ∈ a.out

def Tends (o s : State) : Prop := o.magView.Leads s.magView

section
variable {o s t : State}

theorem Tends.refl (s : State) : Tends s s := ⟨rfl, .inl rfl, rfl, .inl rfl, .inl rfl, rfl, id⟩

theorem Tends.trans (h : Tends o s) (k : Tends s t) : Tends o t where
  input := by rw [k.input, h.input]
  feed := by
    rcases k.feed with kf | ⟨kf, kp⟩
    · rw [kf]
      exact h.feed
    · exact .inr ⟨kf, h.pins ▸ kp⟩
  output := by rw [k.output, h.output]
  unloader := by
    rcases k.unloader with ko | ⟨kc, kw, ku⟩
    · rcases h.unloader with ho | ⟨hc, hw, hu⟩
      · exact .inl (ko.trans ho)
      · refine .inr ⟨hc, ?_, by rw [ko]; exact hu⟩
        rcases k.window with kw | ⟨kw, -⟩
        · exact kw.trans hw
        · rw [hw] at kw
          cases kw
    · rcases h.window with hw | ⟨-, hw | hw⟩
      · exact .inr ⟨hw ▸ kc, kw, ku⟩
      · rw [hw] at kc
        cases kc
      · rw [hw] at kc
        cases kc
  window := by
    rcases k.window with kw | ⟨kc, kw⟩
    · rw [kw]
      exact h.window
    · rcases h.window with hw | ⟨hc, -⟩
      · exact .inr ⟨hw ▸ kc, kw⟩
      · exact .inr ⟨hc, kw⟩
  pins := k.pins.trans h.pins
  push m := h.push (k.push m)

theorem Tends.ite {q : Prop} [Decidable q] (ht : Tends o t) (hs : Tends o s) : Tends o (if q then t else s) := by
  split
  · exact ht
  · exact hs

/-! ### Requests, the panel's list and the station line -/

theorem Tends.issue {r : Request} (hr : r ≠ .pusherPush) (h : Tends o s) : Tends o (s.issue r) :=
  { h with push := fun m => (List.mem_append.mp m).elim h.push fun e => absurd (List.mem_singleton.mp e).symm hr }

theorem Tends.askHead (h : Tends o s) : Tends o s.askHead := h
theorem Tends.askFeed (h : Tends o s) : Tends o s.askFeed := h

theorem Tends.request {r : Request} {p : Port} {u : Use} (hr : r ≠ .pusherPush) (h : Tends o s) :
    Tends o (s.request r p u) := h.issue hr

theorem Tends.move {a : Axis} {z : Int} {u : Use} {x : MoveArg} (h : Tends o s) : Tends o (s.move a z u x) :=
  h.request nofun

theorem Tends.standbyTest (h : Tends o s) : Tends o s.standbyTest := .ite h h

theorem Tends.panelChange {q : Panel} (h : Tends o s) : Tends o (s.panelChange q) := .ite (.standbyTest h) h

theorem Tends.panelAppend {e : PanelEntry} (h : Tends o s) : Tends o (s.panelAppend e) :=
  .ite (h.panelChange.issue nofun) h

theorem Tends.panelAlarm {n q : Nat} {k : AlarmKind} {c : Context} (h : Tends o s) : Tends o (s.panelAlarm n q k c) :=
  .ite h (.ite h h.panelAppend)

theorem Tends.panelCarried {n : Nat} {a : Nat × Nat} (h : Tends o s) : Tends o (s.panelCarried n a) := by
  refine .ite h ?_
  split
  · exact h.panelAppend
  · exact h

theorem Tends.carriedFold {n : Nat} {l : List (Nat × Nat)} (h : Tends o s) :
    Tends o (l.foldl (State.panelCarried n) s) := by
  induction l generalizing s with
  | nil => exact h
  | cons a l ih => exact ih h.panelCarried

theorem Tends.panelBeacon {n : Nat} {l : List (Nat × Nat)} (h : Tends o s) : Tends o (s.panelBeacon n l) :=
  .ite h h.carriedFold.panelChange

theorem Tends.onPlaced {w : Owner} (h : Tends o s) : Tends o (s.onPlaced w) := by
  unfold State.onPlaced
  split
  · exact .ite (.request nofun (.request (s := { s with window.recordQueued := true }) nofun h)) h
  · exact h
  · exact h

theorem Tends.placeItem {w : Waiting} (h : Tends o s) : Tends o (s.placeItem w) := by
  cases w with
  | beaconDue => exact Tends.panelBeacon h
  | frame w f => exact Tends.onPlaced h

theorem Tends.drain {ws : List Waiting} (h : Tends o s) : Tends o (State.drain ws s) := by
  induction ws generalizing s with
  | nil => exact h
  | cons w ws ih => exact .ite (ih h.placeItem) h

theorem Tends.submit {w : Owner} {f : Frame} (h : Tends o s) : Tends o (s.submit w f) := .ite (Tends.drain h) h

theorem Tends.placeBeacon (h : Tends o s) : Tends o s.placeBeacon := .ite h (.ite h (.ite h (Tends.drain h)))

theorem Tends.queueBeacon (h : Tends o s) : Tends o s.queueBeacon := h.placeBeacon

theorem Tends.raise {k : AlarmKind} (h : Tends o s) : Tends o (s.raise k) :=
  .ite h (.queueBeacon (.panelAlarm (.submit h)))

theorem Tends.finish (old : State) (h : Tends o s) : Tends o (State.finish old s) := by
  have hb : Tends o (s.beaconAfter old) := .ite h.placeBeacon h
  have hk : Tends o (s.beaconAfter old).keepLine := .ite hb hb
  exact hk

/-! ### The tests (R26, R38, R87, R96, R119) -/

theorem Tends.inputEmpty (h : Tends o s) : Tends o s.inputEmpty := .ite h h.raise

/-- The search of a slot by a feed that stands IDLE. -/
theorem State.searchFrom_tends (n : Nat) (hi : s.inMag.feed = .idle) (hp : s.pins.magPresent = true) :
    Tends s (s.searchFrom n) := by
  unfold State.searchFrom
  split
  · next c _ =>
    have k : Tends s { s with inMag.feed := .searching, inMag.feedSlot := some c } :=
      { Tends.refl s with input := rfl, feed := .inr ⟨rfl, hp⟩ }
    exact k.request nofun
  · have k : Tends s { s with inMag.feed := .idle, inMag.feedSlot := none } :=
      { Tends.refl s with input := rfl, feed := .inl hi.symm }
    exact k.inputEmpty

theorem State.feedAllowed_idle (h : s.feedAllowed = true) : s.inMag.feed = .idle := by
  simp only [State.feedAllowed, Bool.and_eq_true, beq_iff_eq] at h
  tauto

theorem State.testFeed_tends (s : State) : Tends s s.testFeed := by
  unfold State.testFeed
  split
  · next h =>
    split
    · next hp => exact State.searchFrom_tends 1 (State.feedAllowed_idle h) hp
    · exact (Tends.refl s).inputEmpty
  · exact .refl s

theorem Tends.applyDue (h : Tends o s) : Tends o s.applyDue := by
  unfold State.applyDue State.applyActivation
  refine .ite h ?_
  split
  · exact .askFeed (.askHead (.queueBeacon (.standbyTest h)))
  · exact h

theorem Tends.startCycle {x : Occasion} (h : Tends o s) : Tends o (s.startCycle x) := Tends.move h

theorem Tends.positioning (h : Tends o s) : Tends o (s.wireStep .positioning) := by
  unfold State.wireStep State.wireGate
  have hd (u : State) (k : Tends o u) : Tends o u.disableReq := .ite (k.issue nofun) k
  refine .ite ?_ ?_
  · exact Tends.raise (hd { s with head.wireOut := false } h)
  · exact Tends.move h

theorem Tends.selectUnit (h : Tends o s) : Tends o s.selectUnit := by
  unfold State.selectUnit
  split
  · split <;> exact h
  · exact h

theorem Tends.startWire (h : Tends o s) : Tends o s.startWire := by
  unfold State.startWire
  dsimp only
  exact .ite h (.ite (Tends.startCycle h) (Tends.positioning h))

end
end Sys2Proof.Machine

namespace Sys2Proof.Machine

section
variable {o s t : State}

/-! ### The waiting strip (R96, R98, R113) -/

theorem State.makeOffer_tends (h : s.offerable = true) : Tends s s.makeOffer := by
  have hc : s.window.state = .clamped := by
    simp only [State.offerable, Bool.and_eq_true, beq_iff_eq] at h
    exact h.1.1.1.1.1.2
  have k : Tends s { s with window.state := .offered, window.offerTimer := some Config.offerMs } :=
    { Tends.refl s with unloader := .inl rfl, window := .inr ⟨hc, .inl rfl⟩ }
  exact Tends.submit (Tends.queueBeacon k)

theorem State.startUnload_tends (hc : s.window.state = .clamped) : Tends s s.startUnload := by
  unfold State.startUnload
  split
  · next n _ =>
    have k : Tends s { s with
        window.state := .outbound
        outMag.unloader := .unloading
        outMag.target := some n
        outMag.leftWindow := false } :=
      { Tends.refl s with output := rfl, unloader := .inr ⟨hc, rfl, rfl⟩, window := .inr ⟨hc, .inr rfl⟩ }
    exact Tends.queueBeacon (k.request nofun)
  · exact .refl s

theorem State.outputAnswer_tends (s : State) : Tends s s.outputAnswer := by
  have hf : Tends s s.outputFull := .ite (.refl s) (Tends.refl s).raise
  unfold State.outputAnswer
  split
  · next h => exact .ite (State.startUnload_tends h.1) (.ite (.refl s) hf)
  · exact .refl s

theorem State.evaluateStrip_tends (s : State) : Tends s s.evaluateStrip := by
  unfold State.evaluateStrip
  refine .ite (.ite s.outputAnswer_tends ?_) (.refl s)
  split
  · next h => exact State.makeOffer_tends h
  · exact .refl s

/-! ### The record port (R153, R159) -/

theorem Tends.submitReplies {k : FrameKind} {fs : List Frame} (h : Tends o s) :
    Tends o (State.submitReplies k s fs) := by
  induction fs generalizing s with
  | nil => exact h
  | cons f fs ih =>
    cases fs with
    | nil => exact h.submit
    | cons g gs => exact ih h.submit

theorem Tends.reply {k : FrameKind} {fs : List Frame} (h : Tends o s) : Tends o (s.reply k fs) :=
  Tends.submitReplies h

theorem Tends.answerRead {r : ReadSpan} (h : Tends o s) : Tends o (s.answerRead r) := by
  unfold State.answerRead
  split
  · exact Tends.reply h
  · exact h

theorem Tends.startErase {b : Nat} (h : Tends o s) : Tends o (s.startErase b) :=
  Tends.issue (s := { s with log.op := .erase b }) nofun h

theorem Tends.arbitrateWrites (h : Tends o s) : Tends o s.arbitrateWrites := by
  have hahead : Tends o (match s.log.aheadDue with | some a => s.startErase a | none => s) := by
    split
    · exact h.startErase
    · exact h
  unfold State.arbitrateWrites
  split
  · next b _ => exact Tends.issue (s := { s with log.op := .headerWrite b }) nofun h
  · next e _ _ _ => exact .ite hahead (Tends.issue (s := { s with log.op := .entryWrite e }) nofun h)
  · exact hahead

theorem Tends.serveRead {r : ReadSpan} {v : ReadService} (h : Tends o s) : Tends o (s.serveRead r v) := by
  refine .ite h.answerRead.arbitrateWrites ?_
  exact Tends.issue (s := { s with log.op := _, log.service := _ }) nofun h

theorem Tends.arbitrateRead (h : Tends o s) : Tends o s.arbitrateRead := by
  unfold State.arbitrateRead
  split
  · split
    · exact h.serveRead
    · exact h.serveRead
    · exact h.arbitrateWrites
  · exact h.arbitrateWrites

theorem Tends.arbitrate (h : Tends o s) : Tends o s.arbitrate := by
  unfold State.arbitrate
  refine .ite ?_ h
  split
  · exact .ite h.startErase h.arbitrateRead
  · exact h.arbitrateRead

/-! ### The tests of an event, and its end -/

theorem Tends.settlePoint (h : Tends o s) : Tends o s.settlePoint := .ite h.applyDue h

theorem Tends.settleHead (h : Tends o s) : Tends o s.settleHead :=
  .ite (.ite h.selectUnit.startWire (.ite h.startCycle h)) h

theorem Tends.settleStrip (h : Tends o s) : Tends o s.settleStrip := .ite (h.trans s.evaluateStrip_tends) h

theorem Tends.settleFeed (h : Tends o s) : Tends o s.settleFeed := .ite (h.trans s.testFeed_tends) h

theorem Tends.settlePort (h : Tends o s) : Tends o s.settlePort := .ite h.arbitrate h

/-- No sample waits for a place, and FULL has not just been set. -/
def Agenda.settled (a : Agenda) : Prop := a.place = false ∧ a.full = false

theorem State.settlePlace_none (h : s.agenda.settled) : s.settlePlace = s := by
  obtain ⟨hp, hf⟩ := h
  simp [State.settlePlace, hp, hf]

/-- What follows an event's effect. -/
theorem State.ends_tends (old : State) (h : s.agenda.settled) : Tends s (State.finish old s.settle) := by
  refine Tends.finish old ?_
  unfold State.settle
  rw [State.settlePlace_none h]
  have k := Tends.settleHead (Tends.settlePoint (.refl s))
  exact .ite k.settleStrip.settleFeed.settlePort (.refl s)

/-! ### What `Tends` says of the parts -/

theorem Tends.slots (h : Tends s t) : t.inMag.slots = s.inMag.slots := (congrArg InMag.slots h.input :)
theorem Tends.ranges (h : Tends s t) : t.inMag.ranges = s.inMag.ranges := (congrArg InMag.ranges h.input :)
theorem Tends.current (h : Tends s t) : t.inMag.current = s.inMag.current := (congrArg InMag.current h.input :)
theorem Tends.retrying (h : Tends s t) : t.inMag.retrying = s.inMag.retrying := (congrArg InMag.retrying h.input :)
theorem Tends.outSlots (h : Tends s t) : t.outMag.slots = s.outMag.slots := (congrArg OutMag.slots h.output :)
theorem Tends.outMag (h : Tends s t) (hw : s.window.state ≠ .clamped) : t.outMag = s.outMag :=
  h.unloader.resolve_right fun k => hw k.1
theorem Tends.winState (h : Tends s t) (hw : s.window.state ≠ .clamped) : t.window.state = s.window.state :=
  h.window.resolve_right fun k => hw k.1

end
end Sys2Proof.Machine

/-! ## Replies and refusals that find room in the transmit queue (R191, R193) -/

namespace Sys2Proof.Machine

section
variable {s : State} {h : Hdr}

/-- The placing of a reply other than PULL DATA does nothing more. -/
theorem State.onPlaced_reply {k : FrameKind} (hk : k ≠ .pullRead) (b : Bool) (u : State) :
    u.onPlaced (.reply k b) = u := by
  unfold State.onPlaced
  split
  · next e => cases e
  · next e =>
    cases e
    exact absurd rfl hk
  · rfl

theorem State.submitReplies_eq {k : FrameKind} (hk : k ≠ .pullRead) (fs : List Frame)
    (hl : s.lineFree fs.length = true) : State.submitReplies k s fs = { s with line.txQueue := s.line.txQueue ++ fs.map (fun f => ⟨f, 0⟩) } := by
  induction fs generalizing s with
  | nil => rw [List.map_nil, List.append_nil]; rfl
  | cons f fs ih =>
    obtain ⟨hroom, hwait, hop, hlisten⟩ := State.lineFree_iff.mp hl
    rw [List.length_cons] at hroom
    have h1 : s.lineFree 1 = true := State.lineFree_iff.mpr ⟨by omega, hwait, hop, hlisten⟩
    cases fs with
    | nil => exact (State.submit_free le_rfl h1 _ f).trans (State.onPlaced_reply hk true _)
    | cons g gs =>
      have hrest : ({ s with line.txQueue := s.placed f } : State).lineFree (g :: gs).length = true :=
        State.lineFree_iff.mpr ⟨by simp only [State.placed, List.length_append, List.length_singleton]; omega,
          hwait, hop, hlisten⟩
      rw [State.submitReplies, State.submit_free le_rfl h1, State.onPlaced_reply hk, ih hrest, State.placed,
        List.append_assoc]
      · rfl
      · exact nofun

/-- A data reply with room for all its frames. -/
theorem State.reply_eq {k : FrameKind} (hk : k ≠ .pullRead) (fs : List Frame) (hl : s.lineFree fs.length = true) :
    s.reply k fs = { s with line.txQueue := s.line.txQueue ++ fs.map (fun f => ⟨f, 0⟩) } := by
  have e : s.withdraw (fun o => o.isReplyTo k) = s := by
    rw [State.withdraw, (State.lineFree_iff.mp hl).2.1, List.filter_nil, ← (State.lineFree_iff.mp hl).2.1]
  rw [State.reply, e, State.submitReplies_eq hk fs hl]

/-- A refusal to one station is answered REFUSED. -/
theorem State.refuse_eq (k : FrameKind) (c d : Nat) (ht : h.target ≠ 0) (hl : s.lineFree 1 = true) :
    s.refuse h k c d = { s with
      line.lastRefusal := some ⟨k, c, d⟩
      line.txQueue := s.placed ⟨h.sender, .refused, refusedBytes k c d⟩ } := by
  have hnone : ({ s with line.lastRefusal := some ⟨k, c, d⟩ } : State).waitingOf Owner.isRefused
      < Config.refusedPlaces := by
    rw [State.waitingOf, (State.lineFree_iff.mp hl).2.1]
    decide
  rw [State.refuse, if_neg ht, if_pos hnone]
  exact State.submit_free (s := { s with line.lastRefusal := some ⟨k, c, d⟩ }) le_rfl hl .refused _

/-- A broadcast request is refused without an answer. -/
theorem State.refuse_broadcast (k : FrameKind) (c d : Nat) (ht : h.target = 0) :
    s.refuse h k c d = { s with line.lastRefusal := some ⟨k, c, d⟩ } := by
  rw [State.refuse, if_pos ht]

end

end Sys2Proof.Machine

/-! ## O26: SKIP SLOTS (R125, R126) -/

namespace Sys2Proof.Machine

/-! ### An event that asks for the strip's evaluation only -/

/-- No test is due but, perhaps, the waiting strip's and a beacon. -/
def Agenda.stripAtMost (a : Agenda) : Prop := Agenda.calm { a with strip := false } = true

theorem Agenda.stripAtMost_iff (a : Agenda) : a.stripAtMost ↔ a.point = false ∧ a.head = false ∧ a.feed = false
    ∧ a.place = false ∧ a.full = false ∧ a.port = false := by
  simp [Agenda.stripAtMost, Agenda.calm, and_assoc]

section
variable {s : State}

/-- Only a CLAMPED strip is evaluated (R96). -/
theorem State.settle_unclamped (h : s.agenda.stripAtMost) (hw : s.window.state ≠ .clamped) : s.settle = s := by
  obtain ⟨hpoint, hhead, hfeed, hplace, hfull, hport⟩ := s.agenda.stripAtMost_iff.mp h
  have e := s.settlePlace_none ⟨hplace, hfull⟩
  have hwaits : s.stripWaits = false := by simp [State.stripWaits, hw]
  simp [State.settle, e, State.settlePoint, State.settleHead, State.settleStrip, State.settleFeed, State.settlePort,
    hpoint, hhead, hfeed, hport, hwaits]

/-- The evaluation of a strip leaves the input magazine. -/
theorem State.ends_inMag (old : State) (h : s.agenda.stripAtMost) : (State.finish old s.settle).inMag = s.inMag := by
  by_cases hw : s.window.state = .clamped
  · have k := State.finish_settle_onward old s (s.agenda.stripAtMost_iff.mp h).2.2.2.2.1
    exact k.inMag fun e => by
      have e' : s.window.state = .empty := e
      rw [hw] at e'
      cases e'
  · rw [State.settle_unclamped h hw]
    exact (State.finish_change old s).alarm.inMag

end

section
variable {s : State} {h : Hdr} {f : State → State} {p : Pins}

/-- A refused request leaves the input magazine. -/
theorem request_refused_inMag {k : FrameKind} {c d : Nat} (hs : s.serves h = true) (p : Pins)
    (hf : ∀ b, f (s.heardAsking p h.sender b) = (s.heardAsking p h.sender b).refuse h k c d) :
    ∃ t, request s h p f = .next t ∧ t.inMag = s.inMag ∧ t.line.lastRefusal = some ⟨k, c, d⟩ := by
  obtain ⟨b, hb⟩ := request_served hs p f
  obtain ⟨t, ht, -, hlast⟩ := request_refused hs p hf
  obtain rfl : State.finish s (f (s.heardAsking p h.sender b)).settle = t := Host.Outcome.next.inj (hb.symm.trans ht)
  refine ⟨_, hb, ?_, hlast⟩
  have hp := (s.heardAsking p h.sender b).refuse_posts h k c d
  rw [hf b]
  have hagenda : ((s.heardAsking p h.sender b).refuse h k c d).agenda.stripAtMost := by
    rw [hp.agenda]
    rfl
  exact (State.ends_inMag s hagenda).trans hp.change.alarm.inMag

end

/-! ### What the merge does to the slots -/

section
variable {m m' : InMag} {r : Nat × Nat} {n : Nat} {x : InSlot}

theorem skipSlotsOf_getElem? (r : Nat × Nat) (l : List InSlot) (h1 : 1 ≤ n) (hx : l[n - 1]? = some x) :
    (skipSlotsOf r l)[n - 1]? = some (if r.1 ≤ n ∧ n ≤ r.2 ∧ x ≠ .fed then .skip else x) := by
  have e : n - 1 + 1 = n := by omega
  simp only [skipSlotsOf, List.getElem?_mapIdx, hx, Option.map_some, e]

/-- The ranges held after are the ranges held before and the new one. -/
theorem InMag.skip_covered (hm : m.rangesOk = true) (hr : slotRange r) (hs : m.skip r = some m') (n : Nat) :
    covered m'.ranges n = (covered m.ranges n || (decide (r.1 ≤ n) && decide (n ≤ r.2))) := by
  obtain ⟨q, rest, k, -, rfl⟩ := InMag.skip_some hm hr hs
  rw [covered_insertRange, k.covers]
  simp [covered, Bool.or_comm]

/-- Each slot of the range that is not FED is SKIP; a FED slot, and one outside every range, is as before. -/
theorem InMag.skip_slots (hm : m.rangesOk = true) (hr : slotRange r) (hs : m.skip r = some m') (h1 : 1 ≤ n)
    (hx : m.slots[n - 1]? = some x) :
    (r.1 ≤ n → n ≤ r.2 → x ≠ .fed → m'.slots[n - 1]? = some .skip)
      ∧ (x = .fed ∨ covered m'.ranges n = false → m'.slots[n - 1]? = some x) := by
  obtain ⟨q, rest, k, -, rfl⟩ := InMag.skip_some hm hr hs
  obtain ⟨hlo, hhi⟩ := k.inside
  dsimp only
  rw [skipSlotsOf_getElem? q m.slots h1 hx]
  refine ⟨fun h2 h3 hf => by rw [if_pos ⟨hlo.trans h2, h3.trans hhi, hf⟩], fun hc => ?_⟩
  rw [if_neg]
  rintro ⟨h2, h3, hf⟩
  rcases hc with hc | hc
  · exact hf hc
  · have hin : covered (insertRange q rest) n = true :=
      (covered_iff _ _).mpr ⟨q, mem_insertRange.mpr (.inl rfl), h2, h3⟩
    rw [hc] at hin
    cases hin

theorem InMag.skip_length (hm : m.rangesOk = true) (hr : slotRange r) (hs : m.skip r = some m') :
    m'.slots.length = m.slots.length := by
  obtain ⟨q, rest, -, -, rfl⟩ := InMag.skip_some hm hr hs
  simp [skipSlotsOf]

/-- With fewer than four ranges held, or one that the new range touches, there is room. -/
theorem InMag.skip_room (hm : m.rangesOk = true) (hr : slotRange r)
    (hroom : m.ranges.length < 4 ∨ m.ranges.any (fun x => touches r x) = true) : ∃ m', m.skip r = some m' := by
  have k := InMag.merges hm hr
  have hlen : (mergeRange Config.rangePlaces r m.ranges).2.length < Config.rangePlaces := by
    rcases hroom with hroom | hroom
    · exact k.sub.length_le.trans_lt hroom
    · exact (k.fewer hroom).trans_le (m.rangesOk_iff.mp hm).1
  unfold InMag.skip
  dsimp only
  rw [if_neg (Nat.not_le.mpr hlen)]
  exact ⟨_, rfl⟩

/-- Four ranges that the new one does not touch leave no room. -/
theorem InMag.skip_full (hm : m.rangesOk = true) (hr : slotRange r) (hlen : m.ranges.length = 4)
    (hno : m.ranges.any (touches r) = false) : m.skip r = none := by
  have k := InMag.merges hm hr
  unfold InMag.skip
  dsimp only
  rw [if_pos (by rw [k.same hno, hlen]; decide)]

end

/-! ### The request -/

section
variable {s : State} {h : Hdr} {first last n : Nat} {p : Pins}

/-- SKIP SLOTS taken: the ranges are merged, SKIP DATA answers, and the feed conditions are tested. -/
theorem State.skipSlots_taken {m : InMag} (hf : s.isFirst = true) (hrun : s.running = true) (h1 : 1 ≤ first)
    (h20 : first ≤ 20) (hle : first ≤ last) (hm : s.inMag.skip (first, min last 20) = some m) :
    s.skipSlots h first last = (({ s with inMag := m } : State).reply .skipSlots
      [⟨h.sender, .skipData, rangeBytes m.ranges⟩]).askFeed := by
  have hlow : ¬ (first = 0 ∨ Config.slots < first) := by
    have hc : Config.slots = 20 := rfl
    omega
  have hm' : s.inMag.skip (first, min last Config.slots) = some m := hm
  simp only [State.skipSlots, hf, hrun, Bool.not_true, Bool.false_eq_true, if_false, if_neg hlow,
    if_neg (Nat.not_lt.mpr hle), hm']

/-- Why SKIP SLOTS is refused, with the refusal's code and detail (R126). -/
def State.refusesSkip (s : State) (first last code detail : Nat) : Prop :=
  s.isFirst = false ∧ code = 8 ∧ detail = s.stn
    ∨ s.isFirst = true ∧ s.running = false ∧ code = 9 ∧ detail = 0
    ∨ s.isFirst = true ∧ s.running = true ∧ (first = 0 ∨ 20 < first) ∧ code = 3 ∧ detail = first
    ∨ s.isFirst = true ∧ s.running = true ∧ 1 ≤ first ∧ first ≤ 20 ∧ last < first ∧ code = 3 ∧ detail = last
    ∨ s.isFirst = true ∧ s.running = true ∧ 1 ≤ first ∧ first ≤ 20 ∧ first ≤ last ∧ s.inMag.ranges.length = 4
      ∧ s.inMag.ranges.all (fun r => !touches (first, min last 20) r) ∧ code = 5 ∧ detail = 4

theorem slotRange_clamped (h1 : 1 ≤ first) (h20 : first ≤ 20) (hle : first ≤ last) :
    slotRange (first, min last 20) := by
  have hc : Config.slots = 20 := rfl
  refine ⟨?_, ?_, ?_⟩ <;> dsimp only <;> omega

theorem State.skipSlots_refused {code detail : Nat} (hm : s.inMag.rangesOk = true)
    (hw : s.refusesSkip first last code detail) : s.skipSlots h first last = s.refuse h .skipSlots code detail := by
  have hc : Config.slots = 20 := rfl
  unfold State.skipSlots
  rcases hw with ⟨hf, rfl, rfl⟩ | ⟨hf, hrun, rfl, rfl⟩ | ⟨hf, hrun, hlow, rfl, rfl⟩ | ⟨hf, hrun, h1, h20, hlt, rfl, rfl⟩
    | ⟨hf, hrun, h1, h20, hle, hlen, hall, rfl, rfl⟩
  · simp [hf]
  · simp [hf, hrun]
  · simp [hf, hrun, hc, hlow]
  · have hlow : ¬ (first = 0 ∨ Config.slots < first) := by omega
    simp only [hf, hrun, Bool.not_true, Bool.false_eq_true, if_false, if_neg hlow, if_pos hlt]
  · have hlow : ¬ (first = 0 ∨ Config.slots < first) := by omega
    have hno : s.inMag.ranges.any (touches (first, min last 20)) = false := by
      rw [List.any_eq_false]
      intro x hx
      simpa using List.all_eq_true.mp hall x hx
    have hfull : s.inMag.skip (first, min last Config.slots) = none :=
      InMag.skip_full hm (slotRange_clamped h1 h20 hle) hlen hno
    simp only [hf, hrun, Bool.not_true, Bool.false_eq_true, if_false, if_neg hlow, if_neg (Nat.not_lt.mpr hle), hfull]

theorem exec_skipSlots : exec (.skipSlots h first last p) s = request s h p fun t => t.skipSlots h first last := rfl

/-- SKIP SLOTS taken, at the end of its event: the ranges and slots are the merge's, and SKIP DATA is queued. -/
theorem skipSlots_ends {m : InMag} (hs : s.serves h = true) (hf : s.isFirst = true) (hrun : s.running = true)
    (h1 : 1 ≤ first) (h20 : first ≤ 20) (hle : first ≤ last) (hm : s.inMag.skip (first, min last 20) = some m) :
    ∃ t, exec (.skipSlots h first last p) s = .next t ∧ t.inMag.ranges = m.ranges ∧ t.inMag.slots = m.slots
      ∧ (s.lineFree 1 = true → ⟨⟨h.sender, .skipData, rangeBytes m.ranges⟩, 0⟩ ∈ t.line.txQueue) := by
  obtain ⟨b, hb⟩ := request_served hs p fun t => t.skipSlots h first last
  rw [State.skipSlots_taken (s := s.heardAsking p h.sender b) hf hrun h1 h20 hle hm] at hb
  have hp := State.reply_posts { s.heardAsking p h.sender b with inMag := m } .skipSlots
    [⟨h.sender, .skipData, rangeBytes m.ranges⟩]
  have hplaced : s.lineFree 1 = true → ⟨⟨h.sender, .skipData, rangeBytes m.ranges⟩, 0⟩
      ∈ (State.reply { s.heardAsking p h.sender b with inMag := m } .skipSlots
        [⟨h.sender, .skipData, rangeBytes m.ranges⟩]).line.txQueue := fun hl => by
    rw [State.reply_eq (nofun : FrameKind.skipSlots ≠ .pullRead) _ hl]
    exact List.mem_append_right _ (List.mem_singleton.mpr rfl)
  generalize State.reply _ _ _ = v at hb hp hplaced
  have hfull : v.askFeed.agenda.full = false := (congrArg Agenda.full hp.agenda :)
  have hplace : v.askFeed.agenda.place = false := (congrArg Agenda.place hp.agenda :)
  have hv : v.inMag = m := hp.change.alarm.inMag
  have k := State.ends_tends (s := v.askFeed) s ⟨hplace, hfull⟩
  have hon := State.finish_settle_onward s v.askFeed hfull
  exact ⟨_, hb, k.ranges.trans (congrArg InMag.ranges hv), k.slots.trans (congrArg InMag.slots hv),
    fun hl => hon.frames _ (hplaced hl) (nofun : FrameKind.skipData ≠ .beacon)⟩

end

/-- Settles O26: the merge of the range, by the lemmas about `InMag.skip`; the tests of the event's end leave the ranges
and the slots. -/
theorem skipSlotsMergesRanges : Obligations.SkipSlotsMergesRanges := by
  intro h first last p s hs hm
  refine ⟨fun hf hrun h1 h20 hle hroom => ?_, fun code detail hw => ?_⟩
  · have hr := slotRange_clamped h1 h20 hle
    obtain ⟨m, hskip⟩ := InMag.skip_room hm hr hroom
    obtain ⟨t, ht, hranges, hslots, hframe⟩ := skipSlots_ends (p := p) hs hf hrun h1 h20 hle hskip
    have hok := m.rangesOk_iff.mp (InMag.skip_rangesOk hm hr hskip)
    refine ⟨t, ht, t.inMag.rangesOk_iff.mpr (hranges ▸ hok), fun n => ?_, ?_, fun n x hn hx => ?_, fun hl => ?_⟩
    · rw [hranges]
      exact InMag.skip_covered hm hr hskip n
    · rw [hslots]
      exact InMag.skip_length hm hr hskip
    · rw [hslots, hranges]
      exact InMag.skip_slots hm hr hskip hn hx
    · rw [hranges]
      exact hframe hl
  · rw [exec_skipSlots]
    exact request_refused_inMag hs p fun b =>
      State.skipSlots_refused (s := s.heardAsking p h.sender b) hm hw

end Sys2Proof.Machine

/-! ## Magazine events that raise an alarm, or only ask for the feed conditions (R119, R121, R131) -/

namespace Sys2Proof.Machine

section
variable {s : State}

theorem Agenda.settled_of_calm {a : Agenda} (h : a.calm = true) : a.settled := by
  simp only [Agenda.calm, Bool.and_eq_true, Bool.not_eq_true'] at h
  exact ⟨h.1.1.2, h.1.2⟩

/-- An event that makes no test due ends with its effect, a beacon apart. -/
theorem State.calm_ends (old : State) (h : s.agenda.calm = true) :
    LineChange (State.finish old s.settle) s ∧ s.out ⊆ (State.finish old s.settle).out := by
  rw [State.settle_calm h]
  exact ⟨State.finish_change old s, (State.finish_news old s).2.2.2.subset⟩

theorem State.raise_calm (k : AlarmKind) (h : s.agenda.calm = true) : (s.raise k).agenda.calm = true := by
  rw [(State.raise_raises s (List.mem_singleton.mpr rfl)).agenda]
  exact h

/-- `t` comes from `s` by an alarm of the kind `k`, which is open in `t`. -/
structure RaisedTo (k : AlarmKind) (t s : State) : Prop where
  change : AlarmChange t s
  opened : t.alarmOpen k = true
  out : s.out ⊆ t.out

/-- An event whose effect ends in an alarm raised. -/
theorem State.raise_ends (old : State) (k : AlarmKind) (ho : s.operating = true) (hc : s.agenda.calm = true) :
    RaisedTo k (State.finish old (s.raise k).settle) s := by
  have hr := State.raise_raises s (List.mem_singleton.mpr (rfl : k = k))
  obtain ⟨hline, hout⟩ := State.calm_ends old (State.raise_calm k hc)
  refine ⟨hline.alarm.trans hr.change, ?_, List.Subset.trans hr.out hout⟩
  rw [State.alarmOpen, hline.alarms]
  exact s.raise_open k ho

/-! ### FEED JAM and TRANSFER JAM (R121, R131) -/

/-- The input magazine controller JAMMED, its feed slot kept. -/
def InMag.jammed (m : InMag) : InMag :=
  { m with
    feed := .jammed
    feedTimer := none
    insertedSinceJam := false
    waiting := none
    retrying := false
    retractJam := false }

/-- The feed JAMMED and the pusher retracted, FEED JAM not yet raised. -/
def State.feedJammed (s : State) : State := ({ s with inMag := s.inMag.jammed } : State).retract

theorem State.jamFeed_eq (s : State) : s.jamFeed = s.feedJammed.raise .feedJam := rfl

/-- A jammed feed at the end of its event. -/
structure FeedJams (t s : State) : Prop where
  inMag : t.inMag = s.inMag.jammed
  opened : t.alarmOpen .feedJam = true
  retracts : .move .p 0 .plain ∈ t.out

theorem State.jamFeed_ends (old : State) (ho : s.operating = true) (hc : s.agenda.calm = true) :
    FeedJams (State.finish old s.jamFeed.settle) s := by
  rw [State.jamFeed_eq]
  obtain ⟨hchange, hopen, hout⟩ := State.raise_ends (s := s.feedJammed) old .feedJam ho hc
  exact ⟨hchange.inMag, hopen, hout (List.mem_append_right _ (List.mem_singleton.mpr rfl))⟩

/-- A jammed window at the end of its event: the unload timer is stopped, the rest of the unloader and the strip
stay. -/
theorem State.jamWindow_ends (old : State) (ho : s.operating = true) (hc : s.agenda.calm = true) :
    (State.finish old s.jamWindow.settle).alarmOpen .transferJam = true
      ∧ (State.finish old s.jamWindow.settle).outMag = { s.outMag with unloadTimer := none }
      ∧ (State.finish old s.jamWindow.settle).window.record = s.window.record
      ∧ (State.finish old s.jamWindow.settle).window.state = s.window.state := by
  rw [State.jamWindow_eq]
  obtain ⟨hchange, hopen, -⟩ := State.raise_ends (s := s.timersStopped) old .transferJam ho hc
  exact ⟨hopen, hchange.outMag, hchange.record, hchange.winState⟩

/-! ### The feed IDLE again (R119) -/

/-- A feed that stands still in a window that is not EMPTY: the tests of the event's end leave the input magazine. -/
theorem State.ends_inMag_of_strip (old : State) (h : s.agenda.settled) (hw : s.window.state ≠ .empty) :
    (State.finish old s.settle).inMag = s.inMag :=
  (State.finish_settle_onward old s h.2).inMag hw

end
end Sys2Proof.Machine

/-! ## O44: the pusher's answers, the timers and the slot sensor (R120, R121, R130, R131) -/

namespace Sys2Proof.Machine

section
variable {s : State} {p : Pins} {rest : List Due} {n : Nat} {r : StripRecord} {u : Use}

/-! ### The pusher (R120, R121) -/

theorem State.retracted_retracting (h : s.inMag.feed = .retracting) : s.retracted = s.feedIdle := by
  simp only [State.retracted, h]

theorem State.retractFaulted_retracting (h : s.inMag.feed = .retracting) : s.retractFaulted = s.jamRetract := by
  simp only [State.retractFaulted, h]

theorem State.pushAnswered_pushing (h : s.inMag.feed = .pushing) : s.pushAnswered = s := by
  simp [State.pushAnswered, h]

theorem State.pushFaulted_pushing (h : s.inMag.feed = .pushing) : s.pushFaulted = s.jamFeed := by
  simp [State.pushFaulted, h]

/-- The pusher's answer is due. -/
theorem exec_pusherDone (ho : s.operating = true)
    (hd : takeAnswer (.axis .p) (fun _ => true) s.due = some (⟨.axis .p, u, true⟩, rest)) :
    exec (.pusherDone p) s = .next (State.finish s
      (if u = .push then (s.answered p rest).pushAnswered else (s.answered p rest).retracted).settle) := by
  show execPusherDone p s = _
  rw [execPusherDone, event_answered ho hd rfl]

theorem exec_pusherFault (ho : s.operating = true)
    (hd : takeAnswer (.axis .p) (fun _ => true) s.due = some (⟨.axis .p, u, true⟩, rest)) :
    exec (.pusherFault p) s = .next (State.finish s
      (if u = .push then (s.answered p rest).pushFaulted else (s.answered p rest).retractFaulted).settle) := by
  show execPusherFault p s = _
  rw [execPusherFault, event_answered ho hd rfl]

/-- The retract answered DONE leaves the feed IDLE. -/
theorem retract_done (ho : s.operating = true)
    (hd : takeAnswer (.axis .p) (fun _ => true) s.due = some (⟨.axis .p, .retract, true⟩, rest))
    (hf : s.inMag.feed = .retracting) (hw : s.window.state ≠ .empty) :
    ∃ t, exec (.pusherDone p) s = .next t ∧ t.inMag.feed = .idle ∧ t.inMag.feedSlot = none
      ∧ t.inMag.slots = s.inMag.slots := by
  refine ⟨_, exec_pusherDone ho hd, ?_⟩
  rw [if_neg nofun, State.retracted_retracting (s := s.answered p rest) hf,
    State.ends_inMag_of_strip (s := (s.answered p rest).feedIdle) s ⟨rfl, rfl⟩ hw]
  exact ⟨rfl, rfl, rfl⟩

/-- The retract answered by a FAULT raises FEED JAM, with the feed RETRACTING. -/
theorem retract_fault (ho : s.operating = true)
    (hd : takeAnswer (.axis .p) (fun _ => true) s.due = some (⟨.axis .p, .retract, true⟩, rest))
    (hf : s.inMag.feed = .retracting) :
    ∃ t, exec (.pusherFault p) s = .next t ∧ t.inMag.feed = .retracting ∧ t.alarmOpen .feedJam = true
      ∧ t.inMag.slots = s.inMag.slots := by
  refine ⟨_, exec_pusherFault ho hd, ?_⟩
  rw [if_neg nofun, State.retractFaulted_retracting (s := s.answered p rest) hf]
  obtain ⟨hchange, hopen, -⟩ := State.raise_ends (s := { s.answered p rest with
    inMag.feedSlot := none
    inMag.insertedSinceJam := false
    inMag.waiting := none
    inMag.retrying := false
    inMag.retractJam := true }) s .feedJam ho rfl
  exact ⟨(congrArg InMag.feed hchange.inMag).trans hf, hopen, (congrArg InMag.slots hchange.inMag :)⟩

/-- What O44 asks of a jammed feed. -/
theorem FeedJams.ofPush {t : State} (k : FeedJams t s) : t.inMag.feed = .jammed ∧ t.alarmOpen .feedJam = true
    ∧ t.inMag.feedTimer = none ∧ t.inMag.feedSlot = s.inMag.feedSlot ∧ .move .p 0 .plain ∈ t.out :=
  ⟨congrArg InMag.feed k.inMag, k.opened, congrArg InMag.feedTimer k.inMag, (congrArg InMag.feedSlot k.inMag :),
    k.retracts⟩

/-- The push answered DONE is noted only. -/
theorem push_done (ho : s.operating = true)
    (hd : takeAnswer (.axis .p) (fun _ => true) s.due = some (⟨.axis .p, .push, true⟩, rest))
    (hf : s.inMag.feed = .pushing) :
    ∃ t, exec (.pusherDone p) s = .next t ∧ SameButLine t { s.begin_ p with due := rest } := by
  refine ⟨_, exec_pusherDone ho hd, ?_⟩
  rw [if_pos rfl, State.pushAnswered_pushing (s := s.answered p rest) hf]
  exact State.finish_settle_quiet rfl rfl

theorem push_fault (ho : s.operating = true)
    (hd : takeAnswer (.axis .p) (fun _ => true) s.due = some (⟨.axis .p, .push, true⟩, rest))
    (hf : s.inMag.feed = .pushing) : ∃ t, exec (.pusherFault p) s = .next t ∧ FeedJams t (s.answered p rest) := by
  refine ⟨_, exec_pusherFault ho hd, ?_⟩
  rw [if_pos rfl, State.pushFaulted_pushing (s := s.answered p rest) hf]
  exact State.jamFeed_ends (s := s.answered p rest) s ho rfl

/-! ### The timers (R121, R131) -/

theorem exec_feedTimerExpiry (ho : s.operating = true) (ht : s.inMag.feedTimer.isSome = true)
    (hf : s.inMag.feed = .pushing) :
    exec (.feedTimerExpiry p) s = .next (State.finish s (s.begin_ p).jamFeed.settle) :=
  (event_operates _ ho).trans (by rw [if_pos]; exact ⟨ht, hf⟩)

theorem exec_unloadTimerExpiry (ho : s.operating = true) (ht : s.outMag.unloadTimer.isSome = true)
    (hu : s.outMag.unloader = .unloading) :
    exec (.unloadTimerExpiry p) s = .next (State.finish s (s.begin_ p).jamWindow.settle) :=
  (event_operates _ ho).trans (by rw [if_pos]; exact ⟨ht, hu⟩)

/-! ### The slot sensor (R130) -/

theorem exec_slotSenseRises (ho : s.operating = true) (he : s.isEnd = true) (hu : s.outMag.unloader = .unloading)
    (hl : s.outMag.leftWindow = true) (hj : s.alarmOpen .transferJam = false) :
    exec (.slotSenseRises p) s = .next (State.finish s (s.begin_ p).fillSlot.settle) :=
  (event_operates _ ho).trans (by rw [if_pos]; exact ⟨he, hu, hl, hj⟩)

/-- The output magazine with its target slot filled, the unloader READY. -/
def OutMag.filledWith (m : OutMag) (n : Nat) (r : StripRecord) : OutMag :=
  ({ m.setSlot n (.filled r.serial r.summary) with filled := m.filled + 1 } : OutMag).becomeReady

/-- The strip filed and the window EMPTY, its beacon not yet placed. -/
def State.filed (s : State) (n : Nat) (r : StripRecord) : State :=
  (({ (({ s with outMag := s.outMag.filledWith n r } : State).count .stripsPassed).dropStripData with
    window.state := .empty
    window.record := none
    window.inbound := none
    window.inboundSerial := none
    window.recordQueued := false
    window.exitTimer := none } : State).askHead.askFeed)

theorem State.fillSlot_eq (hn : s.outMag.target = some n) (hr : s.window.record = some r) :
    s.fillSlot = (s.filed n r).queueBeacon := by
  simp only [State.fillSlot, hn, hr]
  rfl

/-- The strip filed, at the end of the event. -/
theorem State.fillSlot_ends (old : State) (hn : s.outMag.target = some n) (hr : s.window.record = some r)
    (ha : s.agenda.settled) : let t := State.finish old s.fillSlot.settle
    t.outMag = s.outMag.filledWith n r ∧ t.window.state = .empty ∧ t.window.record = none
      ∧ t.tally.counters = s.tally.counters.modify 13 Counter.bump := by
  intro t
  have hp := (s.filed n r).queueBeacon_posts
  have hsettled : (s.filed n r).queueBeacon.agenda.settled := by
    rw [hp.agenda]
    exact ha
  have hempty : (s.filed n r).queueBeacon.window.state = .empty := hp.change.alarm.winState
  have hwin : (s.filed n r).queueBeacon.window.state ≠ .clamped := by
    rw [hempty]
    nofun
  have k : Tends (s.filed n r).queueBeacon t := by
    have e : t = State.finish old (s.filed n r).queueBeacon.settle := by
      rw [← State.fillSlot_eq hn hr]
    rw [e]
    exact State.ends_tends old hsettled
  have hon : Onward t (s.filed n r).queueBeacon := by
    have e : t = State.finish old (s.filed n r).queueBeacon.settle := by
      rw [← State.fillSlot_eq hn hr]
    rw [e]
    exact State.finish_settle_onward old _ hsettled.2
  exact ⟨(k.outMag hwin).trans hp.change.alarm.outMag, (k.winState hwin).trans hempty,
    (congrArg StripView.record hon.strip).trans hp.change.alarm.record,
    (congrArg StripView.counters hon.strip).trans (congrArg Tallies.counters hp.change.alarm.tally)⟩

end

/-- Settles O44: by the state of the feed, and by what the unloader waits for. -/
theorem feedAndUnloadEnd : Obligations.FeedAndUnloadEnd := by
  intro p s rest u ho
  refine ⟨fun hd => ⟨?retract, ?push⟩, fun ht hf => ?feedTimer, fun n r he hu hl hj hn hr => ?slotSense,
    fun ht hu => ?unloadTimer⟩
  case retract =>
    rintro rfl hf - hw
    exact ⟨retract_done ho hd hf hw, retract_fault ho hd hf⟩
  case push =>
    rintro rfl hf
    obtain ⟨t, ht, k⟩ := push_fault (p := p) ho hd hf
    exact ⟨push_done ho hd hf, t, ht, k.ofPush⟩
  case feedTimer => exact ⟨_, exec_feedTimerExpiry ho ht hf, (State.jamFeed_ends (s := s.begin_ p) s ho rfl).ofPush⟩
  case slotSense =>
    obtain ⟨hmag, hwin, hrec, hcount⟩ := State.fillSlot_ends (s := s.begin_ p) s hn hr ⟨rfl, rfl⟩
    refine ⟨_, exec_slotSenseRises ho he hu hl hj, ?_, ?_, ?_, ?_, ?_, hwin, hrec, hcount⟩ <;> rw [hmag] <;> rfl
  case unloadTimer =>
    exact ⟨_, exec_unloadTimerExpiry ho ht hu, State.jamWindow_ends (s := s.begin_ p) s ho rfl⟩

end Sys2Proof.Machine

/-! ## O42: magazines inserted and removed (R118, R119, R121, R128, R131) -/

namespace Sys2Proof.Machine

section
variable {s : State} {p : Pins}

/-- A settled alarm makes neither the sample's nor the full log's test due. -/
theorem State.clearAlarm_settled (k : AlarmKind) (h : s.agenda.settled) : (s.clearAlarm k).agenda.settled := by
  refine ⟨?_, (s.clearAlarm_full k).trans h.2⟩
  unfold State.clearAlarm
  split
  · next e _ =>
    split
    · obtain ⟨u, hu, hp⟩ := s.removeAlarm_asks e .cleared 0
      have hplace : u.agenda.place = false := (congrArg Agenda.place hp.agenda).trans h.1
      rw [hu]
      unfold State.askSettled
      split
      · exact hplace
      · split <;> exact hplace
    · exact h.1
  · exact h.1

/-! ### The input magazine -/

/-- An event of the input magazine's sensor, acted on at station 1. -/
theorem event_first (f : State → State) (ho : s.operating = true) (hrun : s.running = true) (hf : s.isFirst = true) :
    event s p (fun t => if t.isFirst then t.whenRunning f else t) = .next (State.finish s (f (s.begin_ p)).settle) := by
  have hf' : (s.begin_ p).isFirst = true := hf
  have hgo : ((s.begin_ p).operating && (s.begin_ p).running) = true := Bool.and_eq_true_iff.mpr ⟨ho, hrun⟩
  rw [event_operates _ ho, if_pos hf', State.whenRunning, if_pos hgo]

/-- The map of an input magazine inserted (R118). -/
def InMag.fresh (m : InMag) (jam : Bool) : InMag :=
  { m with
    slots := List.replicate Config.slots .unknown
    current := true
    ranges := []
    fed := 0
    inserted := wrap16 m.inserted
    insertedSinceJam := m.insertedSinceJam || jam
    emptyAnswered := false }

theorem State.insertInput_eq (s : State) : s.insertInput
    = (({ s with inMag := s.inMag.fresh (s.alarmOpen .feedJam) } : State).clearAlarm .inputEmpty).askFeed := rfl

/-- An input magazine inserted: the tests of the event's end begin where the map is afresh. -/
theorem State.insertInput_ends (old : State) (h : s.agenda.settled) :
    ∃ u, u.inMag = s.inMag.fresh (s.alarmOpen .feedJam) ∧ Tends u (State.finish old s.insertInput.settle) := by
  rw [State.insertInput_eq]
  have hc := State.clearAlarm_settled (s := { s with inMag := s.inMag.fresh (s.alarmOpen .feedJam) }) .inputEmpty h
  exact ⟨_, (State.clearAlarm_change _ .inputEmpty).inMag, State.ends_tends (s := State.askFeed _) old hc⟩

theorem inputMag_inserted (ho : s.operating = true) (hrun : s.running = true) (hf : s.isFirst = true) :
    ∃ t, exec (.inputMagInserted p) s = .next t ∧ t.inMag.slots = List.replicate 20 .unknown
      ∧ t.inMag.ranges = [] ∧ t.inMag.current = true ∧ t.inMag.fed = 0
      ∧ t.inMag.inserted = (if s.inMag.inserted < 65535 then s.inMag.inserted + 1 else 0)
      ∧ t.inMag.serialCounter = s.inMag.serialCounter := by
  obtain ⟨u, hu, k⟩ := State.insertInput_ends (s := s.begin_ p) s ⟨rfl, rfl⟩
  refine ⟨_, event_first State.insertInput ho hrun hf, ?_⟩
  generalize State.finish s _ = t at k
  have hm : t.inMag = { u.inMag with feed := t.inMag.feed, feedSlot := t.inMag.feedSlot } := k.input
  rw [hm, hu]
  exact ⟨rfl, rfl, rfl, rfl, rfl, rfl⟩

/-- The magazine's map is OUT OF DATE (R118). -/
def State.outdated (s : State) : State := { s with inMag.current := false }

theorem State.removeInput_searching (h : s.inMag.feed = .searching) : s.removeInput = s.outdated.giveUpSearch := by
  simp only [State.removeInput, h]
  rfl

theorem State.removeInput_pushing (h : s.inMag.feed = .pushing) : s.removeInput = s.outdated.jamFeed := by
  simp only [State.removeInput, h]
  rfl

theorem State.removeInput_other (h1 : s.inMag.feed ≠ .searching) (h2 : s.inMag.feed ≠ .pushing) :
    s.removeInput = s.outdated := by
  unfold State.removeInput
  split
  · next e => exact absurd e h1
  · next e => exact absurd e h2
  · rfl

/-- A search given up: the feed is IDLE, and a new search waits for a magazine. -/
theorem State.giveUpSearch_ends (old : State) (h : s.agenda.settled) : let t := State.finish old s.giveUpSearch.settle
    t.inMag.current = s.inMag.current ∧ t.inMag.slots = s.inMag.slots
      ∧ (s.pins.magPresent = false → t.inMag.feed = .idle) := by
  intro t
  have k : Tends s.giveUpSearch t := State.ends_tends (s := s.giveUpSearch) old h
  refine ⟨k.current, k.slots, fun hp => k.feed.resolve_right fun hs => ?_⟩
  have hpres : s.pins.magPresent = true := hs.2
  rw [hp] at hpres
  cases hpres

/-- The input magazine removed: by the state of the feed. -/
theorem inputMag_removed (ho : s.operating = true) (hrun : s.running = true) (hf : s.isFirst = true) :
    ∃ t, exec (.inputMagRemoved p) s = .next t ∧ t.inMag.current = false ∧ t.inMag.slots = s.inMag.slots
      ∧ (s.inMag.feed = .searching → p.magPresent = false → t.inMag.feed = .idle)
      ∧ (s.inMag.feed = .pushing → t.inMag.feed = .jammed ∧ t.alarmOpen .feedJam = true
          ∧ t.inMag.feedSlot = s.inMag.feedSlot ∧ .move .p 0 .plain ∈ t.out) := by
  refine ⟨_, event_first State.removeInput ho hrun hf, ?_⟩
  by_cases hs : s.inMag.feed = .searching
  · rw [State.removeInput_searching (s := s.begin_ p) hs]
    obtain ⟨hcur, hslots, hidle⟩ := State.giveUpSearch_ends (s := (s.begin_ p).outdated) s ⟨rfl, rfl⟩
    exact ⟨hcur, hslots, fun _ => hidle, fun e => nomatch hs.symm.trans e⟩
  · by_cases hp : s.inMag.feed = .pushing
    · rw [State.removeInput_pushing (s := s.begin_ p) hp]
      have k := State.jamFeed_ends (s := (s.begin_ p).outdated) s ho rfl
      obtain ⟨hjam, hopen, -, hslot, hmove⟩ := k.ofPush
      exact ⟨(congrArg InMag.current k.inMag :), (congrArg InMag.slots k.inMag :), fun e => absurd e hs,
        fun _ => ⟨hjam, hopen, hslot, hmove⟩⟩
    · rw [State.removeInput_other (s := s.begin_ p) hs hp]
      have hmag := (State.calm_ends (s := (s.begin_ p).outdated) s rfl).1.alarm.inMag
      exact ⟨(congrArg InMag.current hmag :), (congrArg InMag.slots hmag :), fun e => absurd e hs,
        fun e => absurd e hp⟩

/-! ### The output magazine -/

/-- An event of the output magazine's sensor, acted on at END. -/
theorem event_end (f : State → State) (ho : s.operating = true) (hrun : s.running = true) (he : s.isEnd = true) :
    event s p (fun t => if t.isEnd then t.whenRunning f else t) = .next (State.finish s (f (s.begin_ p)).settle) := by
  have he' : (s.begin_ p).isEnd = true := he
  have hgo : ((s.begin_ p).operating && (s.begin_ p).running) = true := Bool.and_eq_true_iff.mpr ⟨ho, hrun⟩
  rw [event_operates _ ho, if_pos he', State.whenRunning, if_pos hgo]

theorem State.outputInserted_free (h : s.outMag.unloader ≠ .unloading) : s.outputInserted = s.insertOutput := by
  rw [State.outputInserted, if_neg h]

theorem State.outputInserted_late (h : s.outMag.unloader = .unloading) :
    s.outputInserted = { s.countOutput with outMag.lateInsertion := true } := by
  rw [State.outputInserted, if_pos h]

theorem State.outputRemoved_unloading (h : s.outMag.unloader = .unloading) :
    s.outputRemoved = ({ s with outMag.current := false, outMag.lateInsertion := false } : State).jamWindow := by
  simp only [State.outputRemoved, h, if_true]

theorem State.outputRemoved_free (h : s.outMag.unloader ≠ .unloading) : s.outputRemoved
    = { s.ignoreDue (fun d => d.use == .outScan) with
        outMag := { s.outMag with current := false, lateInsertion := false }.becomeAbsent } := by
  simp only [State.outputRemoved, h, if_false]
  rfl

/-- A magazine inserted at a free unloader is scanned from slot 1. -/
theorem outputMag_scanned (ho : s.operating = true) (hrun : s.running = true) (he : s.isEnd = true)
    (hu : s.outMag.unloader ≠ .unloading) :
    ∃ t, exec (.outputMagInserted p) s = .next t ∧ t.outMag.slots = List.replicate 20 .unknown
      ∧ t.outMag.current = true ∧ t.outMag.filled = 0 ∧ t.outMag.unloader = .scanning ∧ t.outMag.target = some 1
      ∧ t.outMag.inserted = (if s.outMag.inserted < 65535 then s.outMag.inserted + 1 else 0)
      ∧ .elevatorSlot 1 ∈ t.out := by
  refine ⟨_, event_end State.outputInserted ho hrun he, ?_⟩
  rw [State.outputInserted_free (s := s.begin_ p) hu]
  obtain ⟨hline, hout⟩ := State.calm_ends (s := (s.begin_ p).insertOutput) s rfl
  rw [hline.alarm.outMag]
  exact ⟨rfl, rfl, rfl, rfl, rfl, rfl, hout (List.mem_append_right _ (List.mem_singleton.mpr rfl))⟩

/-- A magazine removed from a free unloader leaves it ABSENT. -/
theorem outputMag_absent (ho : s.operating = true) (hrun : s.running = true) (he : s.isEnd = true)
    (hu : s.outMag.unloader ≠ .unloading) :
    ∃ t, exec (.outputMagRemoved p) s = .next t ∧ t.outMag.current = false ∧ t.outMag.unloader = .absent
      ∧ t.outMag.target = none ∧ t.outMag.slots = s.outMag.slots := by
  refine ⟨_, event_end State.outputRemoved ho hrun he, ?_⟩
  rw [State.outputRemoved_free (s := s.begin_ p) hu, (State.calm_ends s rfl).1.alarm.outMag]
  exact ⟨rfl, rfl, rfl, rfl⟩

/-- A magazine inserted during an unload is counted, and its scan waits. -/
theorem outputMag_late (ho : s.operating = true) (hrun : s.running = true) (he : s.isEnd = true)
    (hu : s.outMag.unloader = .unloading) :
    ∃ t, exec (.outputMagInserted p) s = .next t ∧ t.outMag = { s.outMag with
      inserted := if s.outMag.inserted < 65535 then s.outMag.inserted + 1 else 0, lateInsertion := true } := by
  refine ⟨_, event_end State.outputInserted ho hrun he, ?_⟩
  rw [State.outputInserted_late (s := s.begin_ p) hu, (State.calm_ends s rfl).1.alarm.outMag]
  rfl

/-- A magazine removed during an unload jams it. -/
theorem outputMag_jammed (ho : s.operating = true) (hrun : s.running = true) (he : s.isEnd = true)
    (hu : s.outMag.unloader = .unloading) :
    ∃ t, exec (.outputMagRemoved p) s = .next t ∧ t.outMag.current = false ∧ t.outMag.unloader = .unloading
      ∧ t.alarmOpen .transferJam = true ∧ t.window.record = s.window.record := by
  refine ⟨_, event_end State.outputRemoved ho hrun he, ?_⟩
  rw [State.outputRemoved_unloading (s := s.begin_ p) hu]
  obtain ⟨hopen, hmag, hrec, -⟩ := State.jamWindow_ends
    (s := { s.begin_ p with outMag.current := false, outMag.lateInsertion := false }) s ho rfl
  exact ⟨(congrArg OutMag.current hmag :), (congrArg OutMag.unloader hmag).trans hu, hopen, hrec⟩

end

/-- Settles O42: at station 1 and at END, by what the feed or the unloader is doing. -/
theorem magazinesComeAndGo : Obligations.MagazinesComeAndGo := fun _ _ ho hrun =>
  ⟨fun hf => ⟨inputMag_inserted ho hrun hf, inputMag_removed ho hrun hf⟩, fun he =>
    ⟨fun hu => ⟨outputMag_scanned ho hrun he hu, outputMag_absent ho hrun he hu⟩,
      fun hu => ⟨outputMag_late ho hrun he hu, outputMag_jammed ho hrun he hu⟩⟩⟩

end Sys2Proof.Machine

/-! ## O43: the elevator's answers (R119, R123, R124, R128, R130, R131) -/

namespace Sys2Proof.Machine

/-! ### The slots of the input magazine -/

section
variable {m : InMag} {n k : Nat} {x : InSlot}

/-- What the slot sensor shows of a slot is noted, unless the slot is SKIP (R119, R123). -/
def InMag.marked (m : InMag) (n : Nat) (x : InSlot) : InMag := if m.slot n = .skip then m else m.setSlot n x

theorem InMag.slot_setSlot_self (h1 : 1 ≤ n) (h2 : n ≤ m.slots.length) : (m.setSlot n x).slot n = x := by
  have hlt : n - 1 < m.slots.length := by omega
  simp [InMag.slot, InMag.setSlot, slotIndex, hlt]

theorem InMag.slot_setSlot_of_ne (h1 : 1 ≤ n) (hk : 1 ≤ k) (hne : k ≠ n) : (m.setSlot n x).slot k = m.slot k := by
  have hi : n - 1 ≠ k - 1 := by omega
  simp [InMag.slot, InMag.setSlot, slotIndex, hi]

theorem InMag.slot_marked_self (h1 : 1 ≤ n) (h2 : n ≤ m.slots.length) :
    (m.marked n x).slot n = if m.slot n = .skip then .skip else x := by
  unfold InMag.marked
  split
  · next h => exact h
  · exact m.slot_setSlot_self h1 h2

theorem InMag.slot_marked_of_ne (h1 : 1 ≤ n) (hk : 1 ≤ k) (hne : k ≠ n) : (m.marked n x).slot k = m.slot k := by
  unfold InMag.marked
  split
  · rfl
  · exact InMag.slot_setSlot_of_ne h1 hk hne

/-- Marking leaves everything but the slots. -/
theorem InMag.marked_eq (m : InMag) (n : Nat) (x : InSlot) :
    m.marked n x = { m with slots := (m.marked n x).slots } := by
  unfold InMag.marked
  split <;> rfl

theorem InMag.length_marked : (m.marked n x).slots.length = m.slots.length := by
  unfold InMag.marked
  split
  · rfl
  · exact List.length_set

theorem InMag.getElem?_slot (h1 : 1 ≤ n) (h2 : n ≤ m.slots.length) : m.slots[n - 1]? = some (m.slot n) := by
  have hlt : n - 1 < m.slots.length := by omega
  simp [InMag.slot, slotIndex, hlt]

/-! ### The lowest candidate (R119) -/

/-- A slot that a feed may try. -/
def InSlot.triable (x : InSlot) : Bool := x == .unknown || x == .loaded

theorem feedCandidate_some {l : List InSlot} {i : Nat} (hx : l[i]? = some x) (ht : x.triable = true)
    (hno : ∀ j y, j < i → l[j]? = some y → y.triable = false) : feedCandidate k l = some (k + i) := by
  induction l generalizing k i with
  | nil => cases hx
  | cons y ys ih =>
    cases i with
    | zero =>
      obtain rfl : y = x := by simpa using hx
      exact if_pos ht
    | succ i =>
      have hy := hno 0 y (Nat.succ_pos i) rfl
      have hrest := ih (k := k + 1) (i := i) (by simpa using hx)
        fun j z hj hz => hno (j + 1) z (by omega) (by simpa using hz)
      rw [feedCandidate, if_neg (by simpa [InSlot.triable] using hy), hrest]
      congr 1
      omega

theorem feedCandidate_none {l : List InSlot} (hno : ∀ y ∈ l, y.triable = false) : feedCandidate k l = none := by
  induction l generalizing k with
  | nil => rfl
  | cons y ys ih =>
    have hy := hno y List.mem_cons_self
    rw [feedCandidate, if_neg (by simpa [InSlot.triable] using hy)]
    exact ih fun z hz => hno z (List.mem_cons_of_mem _ hz)

/-- The lowest slot above `n` that a feed may try. -/
theorem InMag.candidate_some {j : Nat} (hj : n < j) (hlen : j ≤ m.slots.length) (ht : (m.slot j).triable = true)
    (hno : ∀ i, n < i → i < j → (m.slot i).triable = false) :
    feedCandidate (n + 1) (m.slots.drop (slotIndex (n + 1))) = some j := by
  have e : n + 1 + (j - n - 1) = j := by omega
  have hget (i : Nat) : (m.slots.drop (slotIndex (n + 1)))[i]? = m.slots[n + 1 + i - 1]? := by
    rw [List.getElem?_drop, slotIndex]
    congr 1
    omega
  have hx : (m.slots.drop (slotIndex (n + 1)))[j - n - 1]? = some (m.slot j) := by
    rw [hget, e, InMag.getElem?_slot (by omega) hlen]
  have h := feedCandidate_some (k := n + 1) hx ht fun i y hi hy => by
    rw [hget, InMag.getElem?_slot (by omega) (by omega)] at hy
    obtain rfl := Option.some.inj hy
    exact hno _ (by omega) (by omega)
  rw [h, e]

/-- No slot above `n` that a feed may try. -/
theorem InMag.candidate_none (hno : ∀ i, n < i → i ≤ m.slots.length → (m.slot i).triable = false) :
    feedCandidate (n + 1) (m.slots.drop (slotIndex (n + 1))) = none := by
  refine feedCandidate_none fun y hy => ?_
  obtain ⟨i, hi, rfl⟩ := List.mem_iff_getElem.mp hy
  have hlt : n + 1 + i ≤ m.slots.length := by
    rw [List.length_drop, slotIndex] at hi
    omega
  have h := hno (n + 1 + i) (by omega) hlt
  have hslot := InMag.getElem?_slot (m := m) (n := n + 1 + i) (by omega) hlt
  have hidx : n + 1 + i - 1 = slotIndex (n + 1) + i := by rw [slotIndex]; omega
  rw [hidx, List.getElem?_eq_getElem (by rw [slotIndex]; omega)] at hslot
  rw [List.getElem_drop, Option.some.inj hslot]
  exact h

theorem InSlot.triable_iff (x : InSlot) : x.triable = true ↔ x = .unknown ∨ x = .loaded := by
  simp [InSlot.triable]

theorem InSlot.triable_false (h : x ≠ .unknown ∧ x ≠ .loaded) : x.triable = false := by
  simp [InSlot.triable, h.1, h.2]

end

end Sys2Proof.Machine

namespace Sys2Proof.Machine

section
variable {s : State} {p : Pins} {rest : List Due} {n k : Nat} {x : InSlot} {u : Use}

/-! ### The elevator's answer -/

theorem exec_elevatorDone (ho : s.operating = true)
    (hd : takeAnswer (.axis .e) (fun _ => true) s.due = some (⟨.axis .e, u, true⟩, rest)) :
    exec (.elevatorDone p) s = .next (State.finish s ((s.answered p rest).elevated u).settle) := by
  show execElevatorDone p s = _
  rw [execElevatorDone, event_answered ho hd rfl]

theorem exec_elevatorFault (ho : s.operating = true)
    (hd : takeAnswer (.axis .e) (fun _ => true) s.due = some (⟨.axis .e, u, true⟩, rest)) :
    exec (.elevatorFault p) s = .next (State.finish s ((s.answered p rest).elevatorFaulted u).settle) := by
  show execElevatorFault p s = _
  rw [execElevatorFault, event_answered ho hd rfl]

/-! ### A push, a search that goes on, and a feed given up (R112, R119, R120, R123) -/

/-- The slot is noted as the sensor shows it. -/
def State.marked (s : State) (n : Nat) (x : InSlot) : State := { s with inMag := s.inMag.marked n x }

/-- A push at the end of its event. -/
theorem State.startPush_ends (old : State) (hc : s.agenda.calm = true) : let t := State.finish old s.startPush.settle
    t.inMag = { s.inMag with feed := .pushing, feedTimer := some Config.feedMs } ∧ t.window.state = .inbound
      ∧ .pusherPush ∈ t.out := by
  intro t
  have hp : Posts s.startPush { s.request .pusherPush (.axis .p) .push with
      inMag.feed := .pushing
      inMag.feedTimer := some Config.feedMs
      window.state := .inbound
      window.inbound := none
      window.inboundSerial := none
      window.arrivalTimer := none } := State.queueBeacon_posts _
  obtain ⟨hline, hout⟩ := State.calm_ends (s := s.startPush) old (hp.calm.trans hc)
  have hch := (hline.trans hp.change).alarm
  exact ⟨hch.inMag, hch.winState, hout (hp.out (List.mem_append_right _ (List.mem_singleton.mpr rfl)))⟩

/-- The search stands at the slot `c`. -/
def State.searchingAt (s : State) (c : Nat) : State := { s with inMag.feed := .searching, inMag.feedSlot := some c }

/-- The search has ended without a slot. -/
def State.searchEnded (s : State) : State := { s with inMag.feed := .idle, inMag.feedSlot := none }

theorem State.searchFrom_some {c : Nat} (h : feedCandidate k (s.inMag.slots.drop (slotIndex k)) = some c) :
    s.searchFrom k = (s.searchingAt c).elevatorTo c .feedSearch := by
  simp only [State.searchFrom, h]
  rfl

theorem State.searchFrom_none (h : feedCandidate k (s.inMag.slots.drop (slotIndex k)) = none) :
    s.searchFrom k = s.searchEnded.inputEmpty := by
  simp only [State.searchFrom, h]
  rfl

theorem State.inputEmpty_calm (h : s.agenda.calm = true) : s.inputEmpty.agenda.calm = true := by
  unfold State.inputEmpty
  split
  · exact h
  · exact State.raise_calm _ h

/-- The search that goes on, at the end of the event: the elevator is asked for the next candidate. -/
theorem State.searchFrom_ends_some (old : State) {c : Nat} (hc : s.agenda.calm = true)
    (h : feedCandidate k (s.inMag.slots.drop (slotIndex k)) = some c) :
    let t := State.finish old (s.searchFrom k).settle
    t.inMag = { s.inMag with feed := .searching, feedSlot := some c } ∧ .elevatorSlot c ∈ t.out := by
  rw [State.searchFrom_some h]
  obtain ⟨hline, hout⟩ := State.calm_ends (s := (s.searchingAt c).elevatorTo c .feedSearch) old hc
  exact ⟨hline.alarm.inMag, hout (List.mem_append_right _ (List.mem_singleton.mpr rfl))⟩

/-- The search that finds no slot, at the end of the event: INPUT EMPTY is open unless it has been answered. -/
theorem State.searchFrom_ends_none (old : State) (ho : s.operating = true) (hc : s.agenda.calm = true)
    (h : feedCandidate k (s.inMag.slots.drop (slotIndex k)) = none) :
    let t := State.finish old (s.searchFrom k).settle
    t.inMag = { s.inMag with feed := .idle, feedSlot := none }
      ∧ (s.inMag.emptyAnswered = false → t.alarmOpen .inputEmpty = true) := by
  rw [State.searchFrom_none h, State.inputEmpty]
  by_cases he : s.searchEnded.inMag.emptyAnswered = true
  · rw [if_pos he]
    have hline := (State.calm_ends (s := s.searchEnded) old hc).1
    exact ⟨hline.alarm.inMag, fun hn => nomatch he.symm.trans hn⟩
  · rw [if_neg he]
    obtain ⟨hchange, hopen, -⟩ := State.raise_ends (s := s.searchEnded) old .inputEmpty ho hc
    exact ⟨hchange.inMag, fun _ => hopen⟩

/-- A search requests no push, and changes no slot. -/
theorem State.searchFrom_ends (old : State) (hc : s.agenda.calm = true) :
    let t := State.finish old (s.searchFrom k).settle
    t.inMag.slots = s.inMag.slots ∧ (.pusherPush ∈ t.out → .pusherPush ∈ s.out) := by
  intro t
  have hv : ∃ v, Tends v (s.searchFrom k) ∧ (s.searchFrom k).agenda.calm = true ∧ v.inMag.slots = s.inMag.slots
      ∧ v.out = s.out := by
    cases h : feedCandidate k (s.inMag.slots.drop (slotIndex k)) with
    | some c =>
      rw [State.searchFrom_some h]
      exact ⟨s.searchingAt c, (Tends.refl _).request nofun, hc, rfl, rfl⟩
    | none =>
      rw [State.searchFrom_none h]
      exact ⟨s.searchEnded, (Tends.refl _).inputEmpty, State.inputEmpty_calm hc, rfl, rfl⟩
  obtain ⟨v, hvt, hcalm, hslots, hout⟩ := hv
  have k : Tends v t := hvt.trans (State.ends_tends old (Agenda.settled_of_calm hcalm))
  exact ⟨k.slots.trans hslots, fun m => hout ▸ k.push m⟩

/-- A feed given up leaves its window EMPTY, and the feed conditions are tested. -/
theorem State.giveUpFeed_ends (old : State) (ha : s.agenda.settled)
    (hw : s.window.state = .empty ∨ s.window.state = .inbound) : let t := State.finish old s.giveUpFeed.settle
    t.inMag.slots = s.inMag.slots ∧ t.inMag.retrying = false ∧ t.inMag.feed ≠ .pushing ∧ t.window.state = .empty
      ∧ (.pusherPush ∈ t.out → .pusherPush ∈ s.out) := by
  intro t
  have hv : ∃ v, Tends v s.giveUpFeed ∧ s.giveUpFeed.agenda.settled ∧ v.inMag = s.feedIdle.inMag
      ∧ v.window.state = .empty ∧ v.out = s.out := by
    unfold State.giveUpFeed
    split
    · have hp := s.feedIdle.emptied.queueBeacon_posts
      have hset : s.feedIdle.emptied.queueBeacon.agenda.settled := by
        rw [hp.agenda]
        exact ha
      exact ⟨s.feedIdle.emptied, (Tends.refl _).queueBeacon, hset, rfl, rfl, rfl⟩
    · next hn => exact ⟨s.feedIdle, .refl _, ha, rfl, hw.resolve_right hn, rfl⟩
  obtain ⟨v, hvt, hset, hmag, hwin, hout⟩ := hv
  have k : Tends v t := hvt.trans (State.ends_tends old hset)
  refine ⟨k.slots.trans (congrArg InMag.slots hmag :), k.retrying.trans (congrArg InMag.retrying hmag), ?_,
    (k.winState (by rw [hwin]; nofun)).trans hwin, fun m => hout ▸ k.push m⟩
  have hidle : v.inMag.feed = .idle := congrArg InMag.feed hmag
  rcases k.feed with e | ⟨e, -⟩
  · exact fun hf => nomatch hidle.symm.trans (e.symm.trans hf)
  · exact fun hf => nomatch e.symm.trans hf

end

end Sys2Proof.Machine

namespace Sys2Proof.Machine

section
variable {s : State} {p : Pins} {rest : List Due} {n : Nat} {u : Use}

/-! ### A search (R119, R124) -/

theorem State.searched_loaded (hf : s.inMag.feed = .searching) (hn : s.inMag.feedSlot = some n)
    (hk : s.inMag.slot n ≠ .skip) (hp : s.pins.slotSense = true) : s.searched = (s.marked n .loaded).startPush := by
  simp only [State.searched, hf, hn, if_neg hk, hp, if_true, State.marked, InMag.marked]
  rfl

theorem State.searched_past (hf : s.inMag.feed = .searching) (hn : s.inMag.feedSlot = some n)
    (hk : s.inMag.slot n = .skip ∨ s.pins.slotSense = false) : s.searched = (s.marked n .empty).searchFrom (n + 1) := by
  by_cases h : s.inMag.slot n = .skip
  · simp only [State.searched, hf, hn, h, if_true, State.marked, InMag.marked]
  · have hp := hk.resolve_left h
    simp only [State.searched, hf, hn, h, if_false, hp, Bool.false_eq_true, State.marked, InMag.marked]
    rfl

/-- A slot found LOADED is pushed. -/
theorem search_pushes (ho : s.operating = true)
    (hd : takeAnswer (.axis .e) (fun _ => true) s.due = some (⟨.axis .e, .feedSearch, true⟩, rest))
    (hf : s.inMag.feed = .searching) (hn : s.inMag.feedSlot = some n) (h1 : 1 ≤ n) (h20 : n ≤ 20)
    (hlen : s.inMag.slots.length = 20) (hk : s.inMag.slot n ≠ .skip) (hp : p.slotSense = true) :
    ∃ t, exec (.elevatorDone p) s = .next t ∧ t.inMag.slot n = .loaded ∧ t.inMag.feed = .pushing
      ∧ t.inMag.feedSlot = some n ∧ t.inMag.feedTimer = some 1000 ∧ t.window.state = .inbound
      ∧ .pusherPush ∈ t.out ∧ (∀ m, 1 ≤ m → m ≠ n → t.inMag.slot m = s.inMag.slot m) := by
  refine ⟨_, exec_elevatorDone ho hd, ?_⟩
  rw [State.elevated, State.searched_loaded (s := s.answered p rest) hf hn hk hp]
  obtain ⟨hmag, hwin, hpush⟩ := State.startPush_ends (s := (s.answered p rest).marked n .loaded) s rfl
  have hslot (m : Nat) : (State.finish s ((s.answered p rest).marked n .loaded).startPush.settle).inMag.slot m
      = (s.inMag.marked n .loaded).slot m := (congrArg (fun x : InMag => x.slot m) hmag :)
  refine ⟨(hslot n).trans ?_, congrArg InMag.feed hmag, ?_, congrArg InMag.feedTimer hmag, hwin, hpush,
    fun m hm hne => (hslot m).trans (InMag.slot_marked_of_ne h1 hm hne)⟩
  · rw [InMag.slot_marked_self h1 (by omega), if_neg hk]
  · have hfs : (s.inMag.marked n .loaded).feedSlot = s.inMag.feedSlot := by rw [InMag.marked_eq]
    exact (congrArg InMag.feedSlot hmag).trans (hfs.trans hn)

/-- Past an EMPTY or SKIP slot the search goes on, or ends. -/
theorem search_goes_on (ho : s.operating = true)
    (hd : takeAnswer (.axis .e) (fun _ => true) s.due = some (⟨.axis .e, .feedSearch, true⟩, rest))
    (hf : s.inMag.feed = .searching) (hn : s.inMag.feedSlot = some n) (h1 : 1 ≤ n) (h20 : n ≤ 20)
    (hlen : s.inMag.slots.length = 20) (hk : s.inMag.slot n = .skip ∨ p.slotSense = false) :
    ∃ t, exec (.elevatorDone p) s = .next t
      ∧ t.inMag.slot n = (if s.inMag.slot n = .skip then .skip else .empty)
      ∧ (∀ m, 1 ≤ m → m ≠ n → t.inMag.slot m = s.inMag.slot m) ∧ .pusherPush ∉ t.out
      ∧ (∀ m, n < m → m ≤ 20 → (s.inMag.slot m = .unknown ∨ s.inMag.slot m = .loaded) →
          (∀ k, n < k → k < m → s.inMag.slot k ≠ .unknown ∧ s.inMag.slot k ≠ .loaded) →
          t.inMag.feed = .searching ∧ t.inMag.feedSlot = some m ∧ .elevatorSlot m ∈ t.out)
      ∧ ((∀ k, n < k → k ≤ 20 → s.inMag.slot k ≠ .unknown ∧ s.inMag.slot k ≠ .loaded) →
          t.inMag.feed = .idle ∧ (s.inMag.emptyAnswered = false → t.alarmOpen .inputEmpty = true)) := by
  refine ⟨_, exec_elevatorDone ho hd, ?_⟩
  rw [State.elevated, State.searched_past (s := s.answered p rest) hf hn hk]
  have hmark (m : Nat) (hm : n < m) : (s.inMag.marked n .empty).slot m = s.inMag.slot m :=
    InMag.slot_marked_of_ne h1 (by omega) (by omega)
  have hmlen : (s.inMag.marked n .empty).slots.length = 20 := InMag.length_marked.trans hlen
  have hends := State.searchFrom_ends (s := (s.answered p rest).marked n .empty) (k := n + 1) s rfl
  have hslot (m : Nat) : (State.finish s (((s.answered p rest).marked n .empty).searchFrom (n + 1)).settle).inMag.slot m
      = (s.inMag.marked n .empty).slot m := congrArg (fun x : List InSlot => x.getD (slotIndex m) .unknown) hends.1
  refine ⟨(hslot n).trans (InMag.slot_marked_self h1 (by omega)),
    fun m hm hne => (hslot m).trans (InMag.slot_marked_of_ne h1 hm hne),
    fun m => absurd (hends.2 m) List.not_mem_nil, fun m hm hm20 ht hno => ?_, fun hno => ?_⟩
  · have hcand := InMag.candidate_some (m := s.inMag.marked n .empty) hm (by omega)
      (by rw [hmark m hm]; exact (InSlot.triable_iff _).mpr ht)
      fun i hi him => by rw [hmark i hi]; exact InSlot.triable_false (hno i hi him)
    obtain ⟨hmag, hout⟩ := State.searchFrom_ends_some (s := (s.answered p rest).marked n .empty) s rfl hcand
    exact ⟨congrArg InMag.feed hmag, congrArg InMag.feedSlot hmag, hout⟩
  · have hcand := InMag.candidate_none (m := s.inMag.marked n .empty) (n := n)
      fun i hi hi20 => by rw [hmark i hi]; exact InSlot.triable_false (hno i hi (by omega))
    obtain ⟨hmag, hopen⟩ := State.searchFrom_ends_none (s := (s.answered p rest).marked n .empty) s ho rfl hcand
    have he : (s.inMag.marked n .empty).emptyAnswered = s.inMag.emptyAnswered := by rw [InMag.marked_eq]
    exact ⟨congrArg InMag.feed hmag, fun h => hopen (he.trans h)⟩

/-! ### A retry (R123) -/

/-- RETRY has been carried out. -/
def State.retryOver (s : State) : State := { s with inMag.retrying := false }

theorem State.retried_loaded (hr : s.inMag.retrying = true) (hn : s.inMag.feedSlot = some n)
    (hw : s.window.state = .empty ∨ s.window.state = .inbound) (hp : s.pins.slotSense = true) :
    s.retried = (s.retryOver.marked n .loaded).startPush := by
  have hslot : s.retryOver.inMag.slot n = s.inMag.slot n := rfl
  by_cases h : s.inMag.slot n = .skip
  · simp only [State.retried, hr, hn, hp, if_true, if_pos hw, if_pos h, State.marked, InMag.marked, hslot]
    rfl
  · simp only [State.retried, hr, hn, hp, if_true, if_pos hw, if_neg h, State.marked, InMag.marked, hslot]
    rfl

theorem State.retried_empty (hr : s.inMag.retrying = true) (hn : s.inMag.feedSlot = some n)
    (hp : s.pins.slotSense = false) : s.retried = (s.retryOver.marked n .empty).giveUpFeed := by
  have hslot : s.retryOver.inMag.slot n = s.inMag.slot n := rfl
  by_cases h : s.inMag.slot n = .skip
  · simp only [State.retried, hr, hn, hp, Bool.false_eq_true, if_false, if_pos h, State.marked, InMag.marked, hslot]
    rfl
  · simp only [State.retried, hr, hn, hp, Bool.false_eq_true, if_false, if_neg h, State.marked, InMag.marked, hslot]
    rfl

/-- The slot tried again is pushed, or given up. -/
theorem retry_answered (ho : s.operating = true)
    (hd : takeAnswer (.axis .e) (fun _ => true) s.due = some (⟨.axis .e, .feedRetry, true⟩, rest))
    (hr : s.inMag.retrying = true) (hn : s.inMag.feedSlot = some n) (h1 : 1 ≤ n) (h20 : n ≤ 20)
    (hlen : s.inMag.slots.length = 20) (hw : s.window.state = .empty ∨ s.window.state = .inbound) :
    ∃ t, exec (.elevatorDone p) s = .next t
      ∧ t.inMag.slot n = (if s.inMag.slot n = .skip then .skip else if p.slotSense then .loaded else .empty)
      ∧ (∀ m, 1 ≤ m → m ≠ n → t.inMag.slot m = s.inMag.slot m) ∧ t.inMag.retrying = false
      ∧ (if p.slotSense then t.inMag.feed = .pushing ∧ t.inMag.feedSlot = some n ∧ t.inMag.feedTimer = some 1000
            ∧ t.window.state = .inbound ∧ .pusherPush ∈ t.out
          else t.inMag.feed ≠ .pushing ∧ t.window.state = .empty ∧ .pusherPush ∉ t.out) := by
  refine ⟨_, exec_elevatorDone ho hd, ?_⟩
  have hself (x : InSlot) : (s.retryOver.inMag.marked n x).slot n = if s.inMag.slot n = .skip then .skip else x :=
    InMag.slot_marked_self h1 (by rw [show s.retryOver.inMag.slots = s.inMag.slots from rfl]; omega)
  have hother (x : InSlot) (m : Nat) (hm : 1 ≤ m) (hne : m ≠ n) :
      (s.retryOver.inMag.marked n x).slot m = s.inMag.slot m :=
    InMag.slot_marked_of_ne (m := s.retryOver.inMag) h1 hm hne
  cases hp : p.slotSense with
  | true =>
    rw [State.elevated, State.retried_loaded (s := s.answered p rest) hr hn hw hp]
    obtain ⟨hmag, hwin, hpush⟩ := State.startPush_ends (s := (s.answered p rest).retryOver.marked n .loaded) s rfl
    have hfs : (s.retryOver.inMag.marked n .loaded).feedSlot = s.inMag.feedSlot := by rw [InMag.marked_eq]; rfl
    have hrt : (s.retryOver.inMag.marked n .loaded).retrying = false := by rw [InMag.marked_eq]; rfl
    have hslot (m : Nat) := congrArg (fun x : InMag => x.slot m) hmag
    refine ⟨(hslot n).trans (hself .loaded), fun m hm hne => (hslot m).trans (hother .loaded m hm hne),
      (congrArg InMag.retrying hmag).trans hrt, ?_⟩
    rw [if_pos rfl]
    exact ⟨congrArg InMag.feed hmag, (congrArg InMag.feedSlot hmag).trans (hfs.trans hn), congrArg InMag.feedTimer hmag,
      hwin, hpush⟩
  | false =>
    rw [State.elevated, State.retried_empty (s := s.answered p rest) hr hn hp]
    obtain ⟨hslots, hret, hfeed, hwin, hpush⟩ :=
      State.giveUpFeed_ends (s := (s.answered p rest).retryOver.marked n .empty) s ⟨rfl, rfl⟩ hw
    have hslot (m : Nat) := congrArg (fun x : List InSlot => x.getD (slotIndex m) .unknown) hslots
    refine ⟨(hslot n).trans (hself .empty), fun m hm hne => (hslot m).trans (hother .empty m hm hne), hret, ?_⟩
    rw [if_neg Bool.false_ne_true]
    exact ⟨hfeed, hwin, fun m => absurd (hpush m) List.not_mem_nil⟩

/-! ### The elevator's FAULT in a search or a retry (R119, R123) -/

theorem feed_elevator_fault (ho : s.operating = true)
    (hd : takeAnswer (.axis .e) (fun _ => true) s.due = some (⟨.axis .e, u, true⟩, rest))
    (hu : u = .feedSearch ∨ u = .feedRetry) :
    ∃ t, exec (.elevatorFault p) s = .next t ∧ t.inMag.feed = .jammed ∧ t.alarmOpen .feedJam = true
      ∧ t.inMag.feedSlot = s.inMag.feedSlot ∧ t.inMag.retrying = false ∧ .move .p 0 .plain ∈ t.out
      ∧ t.inMag.slots = s.inMag.slots := by
  have e : (s.answered p rest).elevatorFaulted u = (s.answered p rest).jamFeed := by rcases hu with rfl | rfl <;> rfl
  refine ⟨_, exec_elevatorFault ho hd, ?_⟩
  rw [e]
  have k := State.jamFeed_ends (s := s.answered p rest) s ho rfl
  exact ⟨congrArg InMag.feed k.inMag, k.opened, (congrArg InMag.feedSlot k.inMag :), congrArg InMag.retrying k.inMag,
    k.retracts, (congrArg InMag.slots k.inMag :)⟩

end

end Sys2Proof.Machine

namespace Sys2Proof.Machine

section
variable {s : State} {p : Pins} {rest : List Due} {n : Nat} {k : AlarmKind}

/-! ### A scan (R128) -/

/-- Settling an alarm of the other kinds makes no test due. -/
theorem State.clearAlarm_calm (hk : k.holdsWindow = false ∧ k ≠ .feedJam) (h : s.agenda.calm = true) :
    (s.clearAlarm k).agenda.calm = true := by
  unfold State.clearAlarm
  split
  · next e he =>
    have hek : e.kind = k := by
      have hf : s.alarms.queue.find? (fun x => x.kind == k) = some e := he
      simpa using List.find?_some hf
    split
    · exact (s.removeAlarm_posts e .cleared 0 (hek ▸ hk)).calm.trans h
    · exact h
  · exact h

/-- Clearing a kind closes it where no two alarms share their kind (R164). -/
theorem State.clearAlarm_closed (k : AlarmKind) (ho : s.operating = true) (hids : s.alarms.idsOk = true) :
    (s.clearAlarm k).alarmOpen k = false := by
  have hnodup : (s.alarms.queue.map (·.kind)).Nodup := by
    simp only [Alarms.idsOk, Bool.and_eq_true, decide_eq_true_eq] at hids
    exact hids.1.1.1
  exact State.clearAlarm_closes k ho fun x hx y hy hxk hyk =>
    congrArg AlarmEntry.seq (List.inj_on_of_nodup_map hnodup hx hy (hxk.trans hyk.symm))

/-- The unloader READY, OUTPUT FULL cleared if a slot is EMPTY; the strip's evaluation is not yet asked for. -/
def State.scanOver (s : State) : State :=
  if s.outMag.becomeReady.slots.contains .empty then
    ({ s with outMag := s.outMag.becomeReady } : State).clearAlarm .outputFull
  else { s with outMag := s.outMag.becomeReady }

theorem State.endScan_eq (s : State) : s.endScan = s.scanOver.askStrip := rfl

theorem State.scanOver_change (s : State) : AlarmChange s.scanOver { s with outMag := s.outMag.becomeReady } := by
  unfold State.scanOver
  split
  · exact State.clearAlarm_change _ _
  · exact .refl _

theorem State.scanOver_calm (h : s.agenda.calm = true) : s.scanOver.agenda.calm = true := by
  unfold State.scanOver
  split
  · exact State.clearAlarm_calm (s := { s with outMag := s.outMag.becomeReady }) ⟨rfl, nofun⟩ h
  · exact h

theorem Agenda.stripAtMost_of_calm {a : Agenda} (h : a.calm = true) : Agenda.stripAtMost { a with strip := true } := by
  simp only [Agenda.calm, Bool.and_eq_true, Bool.not_eq_true', and_assoc] at h
  obtain ⟨hpoint, hhead, -, hfeed, hplace, hfull, hport⟩ := h
  exact (Agenda.stripAtMost_iff _).mpr ⟨hpoint, hhead, hfeed, hplace, hfull, hport⟩

/-- A scan's end: the slots stay, and the unloader is READY or, with a strip waiting in the window, UNLOADING. -/
theorem State.endScan_ends (old : State) (ho : s.operating = true) (hc : s.agenda.calm = true) :
    let t := State.finish old s.endScan.settle
    t.outMag.slots = s.outMag.slots ∧ t.outMag.unloader ≠ .scanning
      ∧ (s.window.state ≠ .clamped → t.outMag.unloader = .ready ∧ t.outMag.target = none
        ∧ (s.alarms.idsOk = true → .empty ∈ s.outMag.slots → t.alarmOpen .outputFull = false)) := by
  rw [State.endScan_eq]
  intro t
  have hch := s.scanOver_change
  have hstrip : s.scanOver.askStrip.agenda.stripAtMost :=
    Agenda.stripAtMost_of_calm (State.scanOver_calm hc)
  obtain ⟨-, -, -, hplace, hfull, -⟩ := (Agenda.stripAtMost_iff _).mp hstrip
  have k : Tends s.scanOver.askStrip t := State.ends_tends old ⟨hplace, hfull⟩
  have hmag : s.scanOver.askStrip.outMag = s.outMag.becomeReady := hch.outMag
  refine ⟨k.outSlots.trans (congrArg OutMag.slots hmag :), ?_, fun hw => ?_⟩
  · rcases k.unloader with e | ⟨-, -, e⟩
    · have hr : t.outMag.unloader = .ready := (congrArg OutMag.unloader e).trans (congrArg OutMag.unloader hmag)
      rw [hr]
      nofun
    · have hu : t.outMag.unloader = .unloading := e
      rw [hu]
      nofun
  · have hwin : s.scanOver.askStrip.window.state ≠ .clamped := by
      rw [show s.scanOver.askStrip.window.state = s.window.state from hch.winState]
      exact hw
    have hline : LineChange t s.scanOver.askStrip := by
      have e : t = State.finish old s.scanOver.askStrip :=
        congrArg (State.finish old) (State.settle_unclamped hstrip hwin)
      rw [e]
      exact State.finish_change old _
    have hout : t.outMag = s.outMag.becomeReady := hline.alarm.outMag.trans hmag
    refine ⟨congrArg OutMag.unloader hout, congrArg OutMag.target hout, fun hids hempty => ?_⟩
    have hcleared : s.scanOver = ({ s with outMag := s.outMag.becomeReady } : State).clearAlarm .outputFull :=
      if_pos (List.contains_iff_mem.mpr hempty)
    rw [State.alarmOpen, hline.alarms]
    show s.scanOver.alarmOpen .outputFull = false
    rw [hcleared]
    exact State.clearAlarm_closed (s := { s with outMag := s.outMag.becomeReady }) .outputFull ho hids

/-- The slot scanned is filed as the sensor shows it. -/
def State.scannedAt (s : State) (n : Nat) : State :=
  { s with outMag := s.outMag.setSlot n (if s.pins.slotSense then .sensedFull else .empty) }

theorem State.scanned_at (hu : s.outMag.unloader = .scanning) (hn : s.outMag.target = some n) :
    s.scanned = (s.scannedAt n).scanSlot (n + 1) := by
  simp only [State.scanned, hu, hn]
  rfl

/-- A scan below slot 20 goes on. -/
theorem scan_goes_on (ho : s.operating = true)
    (hd : takeAnswer (.axis .e) (fun _ => true) s.due = some (⟨.axis .e, .outScan, true⟩, rest))
    (hu : s.outMag.unloader = .scanning) (hn : s.outMag.target = some n) (h20 : n < 20) :
    ∃ t, exec (.elevatorDone p) s = .next t
      ∧ t.outMag.slots = s.outMag.slots.set (n - 1) (if p.slotSense then .sensedFull else .empty)
      ∧ t.outMag.unloader = .scanning ∧ t.outMag.target = some (n + 1) ∧ .elevatorSlot (n + 1) ∈ t.out := by
  refine ⟨_, exec_elevatorDone ho hd, ?_⟩
  have hlow : ¬ Config.slots < n + 1 := by
    have hc : Config.slots = 20 := rfl
    omega
  rw [State.elevated, State.scanned_at (s := s.answered p rest) hu hn, State.scanSlot, if_neg hlow]
  obtain ⟨hline, hout⟩ := State.calm_ends (s := ({ (s.answered p rest).scannedAt n with
    outMag.unloader := .scanning, outMag.target := some (n + 1) } : State).elevatorTo (n + 1) .outScan) s rfl
  have hmag := hline.alarm.outMag
  exact ⟨(congrArg OutMag.slots hmag :), congrArg OutMag.unloader hmag, congrArg OutMag.target hmag,
    hout (List.mem_append_right _ (List.mem_singleton.mpr rfl))⟩

/-- After slot 20 the scan ends. -/
theorem scan_ends (ho : s.operating = true)
    (hd : takeAnswer (.axis .e) (fun _ => true) s.due = some (⟨.axis .e, .outScan, true⟩, rest))
    (hu : s.outMag.unloader = .scanning) (hn : s.outMag.target = some 20) :
    let slots := s.outMag.slots.set 19 (if p.slotSense then .sensedFull else .empty)
    ∃ t, exec (.elevatorDone p) s = .next t ∧ t.outMag.slots = slots ∧ t.outMag.unloader ≠ .scanning
      ∧ (s.window.state ≠ .clamped → t.outMag.unloader = .ready ∧ t.outMag.target = none
          ∧ (s.alarms.idsOk = true → .empty ∈ slots → t.alarmOpen .outputFull = false)) := by
  refine ⟨_, exec_elevatorDone ho hd, ?_⟩
  have hlast : Config.slots < 20 + 1 := by decide
  rw [State.elevated, State.scanned_at (s := s.answered p rest) hu hn, State.scanSlot, if_pos hlast]
  exact State.endScan_ends (s := (s.answered p rest).scannedAt 20) s ho rfl

/-- The elevator's FAULT ends a scan. -/
theorem scan_fault (ho : s.operating = true)
    (hd : takeAnswer (.axis .e) (fun _ => true) s.due = some (⟨.axis .e, .outScan, true⟩, rest))
    (hu : s.outMag.unloader = .scanning) :
    ∃ t, exec (.elevatorFault p) s = .next t ∧ t.outMag.slots = s.outMag.slots ∧ t.outMag.unloader ≠ .scanning := by
  refine ⟨_, exec_elevatorFault ho hd, ?_⟩
  have hu' : (s.answered p rest).outMag.unloader = .scanning := hu
  rw [State.elevatorFaulted, if_pos hu']
  obtain ⟨hslots, hne, -⟩ := State.endScan_ends (s := s.answered p rest) s ho rfl
  exact ⟨hslots, hne⟩

/-! ### An unload (R130, R131) -/

theorem unload_done (ho : s.operating = true)
    (hd : takeAnswer (.axis .e) (fun _ => true) s.due = some (⟨.axis .e, .unloadMove, true⟩, rest))
    (hu : s.outMag.unloader = .unloading) (hj : s.alarmOpen .transferJam = false) :
    ∃ t, exec (.elevatorDone p) s = .next t ∧ .stripClamp false ∈ t.out ∧ .beltOut ∈ t.out
      ∧ t.outMag = { s.outMag with unloadTimer := some 2000 } := by
  refine ⟨_, exec_elevatorDone ho hd, ?_⟩
  have hgo : (s.answered p rest).outMag.unloader = .unloading ∧ (s.answered p rest).alarmOpen .transferJam = false :=
    ⟨hu, hj⟩
  rw [State.elevated, State.unloadReady, if_pos hgo]
  obtain ⟨hline, hout⟩ := State.calm_ends (s := { ((s.answered p rest).stripClampReq false).beltOut with
    outMag.unloadTimer := some Config.unloadMs }) s rfl
  exact ⟨hout List.mem_cons_self, hout (List.mem_cons_of_mem _ List.mem_cons_self), hline.alarm.outMag⟩

theorem unload_fault (ho : s.operating = true)
    (hd : takeAnswer (.axis .e) (fun _ => true) s.due = some (⟨.axis .e, .unloadMove, true⟩, rest))
    (hu : s.outMag.unloader = .unloading) :
    ∃ t, exec (.elevatorFault p) s = .next t ∧ t.alarmOpen .transferJam = true
      ∧ t.outMag = { s.outMag with unloadTimer := none } ∧ t.window.record = s.window.record := by
  refine ⟨_, exec_elevatorFault ho hd, ?_⟩
  have hu' : (s.answered p rest).outMag.unloader = .unloading := hu
  rw [State.elevatorFaulted, if_pos hu']
  obtain ⟨hopen, hmag, hrec, -⟩ := State.jamWindow_ends (s := s.answered p rest) s ho rfl
  exact ⟨hopen, hmag, hrec⟩

end

/-- Settles O43: by what the elevator was asked for. -/
theorem elevatorAnswers : Obligations.ElevatorAnswers := by
  intro p s rest n u ho hd
  refine ⟨?search, ?retry, fun hu => feed_elevator_fault ho hd hu, ?scan, ?unload⟩
  case search =>
    rintro rfl hf hn h1 h20 hlen
    exact ⟨search_pushes ho hd hf hn h1 h20 hlen, search_goes_on ho hd hf hn h1 h20 hlen⟩
  case retry =>
    rintro rfl hr hn h1 h20 hlen hw
    exact retry_answered ho hd hr hn h1 h20 hlen hw
  case scan =>
    rintro rfl hu
    exact ⟨scan_goes_on ho hd hu, scan_ends ho hd hu, scan_fault ho hd hu⟩
  case unload =>
    rintro rfl hu
    exact ⟨unload_done ho hd hu, unload_fault ho hd hu⟩

end Sys2Proof.Machine

/-! ## O24: tallies and readouts (R132, R187, R193, R194, R197) -/

namespace Sys2Proof.Machine

section
variable {s : State} {h : Hdr} {p : Pins}

/-! ### A request heard again -/

theorem request_again (hs : s.serves h = true) (ha : s.hearsAgain h = true) (p : Pins) (f : State → State) :
    request s h p f = .next (State.finish s (f (s.heardFrom p h.sender)).settle) := by
  obtain ⟨-, h7, -, -, hl⟩ := State.serves_iff.mp hs
  have hnode : h.sender = 7 ∧ (s.heardFrom p h.sender).phase ≠ .listening := ⟨h7, hl⟩
  rw [request, receive_again ha, if_pos hnode]

/-- The event of a refused request: the refusal is the last one, and the tallies stay. -/
theorem State.refuse_ends (old : State) (k : FrameKind) (c d : Nat) (hc : s.agenda.calm = true) :
    (State.finish old (s.refuse h k c d).settle).tally = s.tally
      ∧ (State.finish old (s.refuse h k c d).settle).line.lastRefusal = some ⟨k, c, d⟩ := by
  have hp := s.refuse_posts h k c d
  rw [State.settle_calm (hp.calm.trans hc)]
  have hn := (State.finish_news old (s.refuse h k c d)).trans hp.news
  exact ⟨((State.finish_change old _).trans hp.change).alarm.tally, congrArg Ledger.lastRefusal hn.1⟩

/-- The event of a reply that finds room: only the transmit queue has changed since the request was heard. -/
theorem reply_ends {k : FrameKind} (hk : k ≠ .pullRead) (fs : List Frame) (hl : s.lineFree fs.length = true) :
    SameButLine (State.finish s ((s.heardFrom p h.sender).reply k fs).settle)
      { s.heardFrom p h.sender with line.txQueue := s.line.txQueue ++ fs.map (fun f => ⟨f, 0⟩) } := by
  rw [State.reply_eq (s := s.heardFrom p h.sender) hk fs hl]
  exact State.finish_settle_quiet rfl rfl

theorem SameButLine.line {t u : State} (k : SameButLine t u) : t.line = u.line := (congrArg State.line k :)

/-! ### Tallies (R197) -/

theorem exec_tallySnapshot (mode : Nat) : exec (.tallySnapshot h mode p) s = request s h p fun t =>
    if mode = 1 then t.snapshot false else if mode = 2 then t.snapshot true else t.refuse h .tallySnapshot 3 mode := rfl

theorem tallySnapshot_taken {mode : Nat} (hs : s.serves h = true) (ha : s.hearsAgain h = true)
    (hm : mode = 1 ∨ mode = 2) :
    ∃ t, exec (.tallySnapshot h mode p) s = .next t ∧ SameButLine t { s.afterHearing p h.sender with
      tally := {
        counters := if mode = 2 then List.replicate 19 ⟨0, false⟩ else s.tally.counters
        snapCounters := s.tally.counters
        snapGen := s.activeGen
        snapPrevGen := s.tally.snapGen
        snapNumber := if s.tally.snapNumber < 65535 then s.tally.snapNumber + 1 else 0 } } := by
  rw [exec_tallySnapshot, request_again hs ha, State.afterHearing_again ha]
  rcases hm with rfl | rfl
  · exact ⟨_, rfl, State.finish_settle_quiet rfl rfl⟩
  · exact ⟨_, rfl, State.finish_settle_quiet rfl rfl⟩

theorem tallySnapshot_refused {mode : Nat} (hs : s.serves h = true) (ha : s.hearsAgain h = true) (h1 : mode ≠ 1)
    (h2 : mode ≠ 2) : ∃ t, exec (.tallySnapshot h mode p) s = .next t ∧ t.tally = s.tally
      ∧ t.line.lastRefusal = some ⟨.tallySnapshot, 3, mode⟩ := by
  rw [exec_tallySnapshot, request_again hs ha, if_neg h1, if_neg h2]
  exact ⟨_, rfl, State.refuse_ends (s := s.heardFrom p h.sender) s _ 3 mode rfl⟩

theorem tallyRead_answered (hs : s.serves h = true) (ha : s.hearsAgain h = true) (hl : s.lineFree 2 = true) :
    ∃ t f g, exec (.tallyRead h p) s = .next t ∧ s.tallyFrames h.sender = [f, g] ∧ t.tally = s.tally
      ∧ t.line.txQueue = s.line.txQueue ++ [⟨f, 0⟩, ⟨g, 0⟩] ∧ f.kind = .tallyData ∧ g.kind = .tallyData
      ∧ f.target = h.sender ∧ f.payload.take 1 = [1] ∧ g.payload.take 1 = [2] := by
  have k := reply_ends (p := p) (h := h) (k := .tallyRead) nofun (s.tallyFrames h.sender) hl
  have ht : exec (.tallyRead h p) s = request s h p fun t => t.reply .tallyRead (t.tallyFrames h.sender) := rfl
  exact ⟨_, _, _, ht.trans (request_again hs ha p _), rfl, (congrArg State.tally k :), congrArg Line.txQueue k.line,
    rfl, rfl, rfl, rfl, rfl⟩

/-! ### MAGAZINE READ (R132) -/

theorem exec_magazineRead : exec (.magazineRead h p) s = request s h p fun t => t.readMagazine h := rfl

theorem magazineRead_input (hs : s.serves h = true) (ha : s.hearsAgain h = true) (hf : s.isFirst = true)
    (hl : s.lineFree 1 = true) :
    ∃ t f, exec (.magazineRead h p) s = .next t ∧ t.line.txQueue = s.placed f ∧ f.target = h.sender
      ∧ f.kind = .magazineData ∧ f = ({ s with pins := p } : State).inputMapFrame h.sender ∧ t.inMag = s.inMag := by
  have k := reply_ends (p := p) (h := h) (k := .magazineRead) nofun
    [({ s with pins := p } : State).inputMapFrame h.sender] hl
  have hr : (s.heardFrom p h.sender).readMagazine h
      = (s.heardFrom p h.sender).reply .magazineRead [({ s with pins := p } : State).inputMapFrame h.sender] :=
    if_pos hf
  rw [exec_magazineRead, request_again hs ha, hr]
  exact ⟨_, _, rfl, congrArg Line.txQueue k.line, rfl, rfl, rfl, (congrArg State.inMag k :)⟩

theorem magazineRead_output (hs : s.serves h = true) (ha : s.hearsAgain h = true) (hf : s.isFirst = false)
    (he : s.isEnd = true) (hl : s.lineFree 4 = true) :
    ∃ t, exec (.magazineRead h p) s = .next t ∧ t.outMag = s.outMag ∧ t.line.txQueue = s.line.txQueue ++
      [0, 1, 2, 3].map (fun i => ⟨({ s with pins := p } : State).outputMapFrame h.sender i, 0⟩) := by
  have k := reply_ends (p := p) (h := h) (k := .magazineRead) nofun
    ([0, 1, 2, 3].map fun i => ({ s with pins := p } : State).outputMapFrame h.sender i) hl
  have hf' : ¬ (s.heardFrom p h.sender).isFirst = true := fun e => nomatch hf.symm.trans e
  have hr : (s.heardFrom p h.sender).readMagazine h = (s.heardFrom p h.sender).reply .magazineRead
      ([0, 1, 2, 3].map fun i => ({ s with pins := p } : State).outputMapFrame h.sender i) :=
    (if_neg hf').trans (if_pos he)
  rw [exec_magazineRead, request_again hs ha, hr]
  exact ⟨_, rfl, (congrArg State.outMag k :), congrArg Line.txQueue k.line⟩

theorem magazineRead_refused (hs : s.serves h = true) (ha : s.hearsAgain h = true) (hf : s.isFirst = false)
    (he : s.isEnd = false) :
    ∃ t, exec (.magazineRead h p) s = .next t ∧ t.line.lastRefusal = some ⟨.magazineRead, 8, s.stn⟩
      ∧ (h.target ≠ 0 → s.lineFree 1 = true →
        t.line.txQueue = s.placed ⟨h.sender, .refused, [21, 8] ++ beBytes 4 s.stn⟩)
      ∧ (h.target = 0 → t.line.txQueue = s.line.txQueue) := by
  have hf' : ¬ (s.heardFrom p h.sender).isFirst = true := fun e => nomatch hf.symm.trans e
  have he' : ¬ (s.heardFrom p h.sender).isEnd = true := fun e => nomatch he.symm.trans e
  have hr : (s.heardFrom p h.sender).readMagazine h = (s.heardFrom p h.sender).refuse h .magazineRead 8 s.stn :=
    (if_neg hf').trans (if_neg he')
  rw [exec_magazineRead, request_again hs ha, hr]
  refine ⟨_, rfl, (State.refuse_ends s _ 8 s.stn rfl).2, fun ht hl => ?_, fun ht => ?_⟩
  · rw [State.refuse_eq (s := s.heardFrom p h.sender) _ 8 s.stn ht hl]
    exact congrArg Line.txQueue (State.finish_settle_quiet (u := { s.heardFrom p h.sender with
      line.lastRefusal := _, line.txQueue := _ }) rfl rfl).line
  · rw [State.refuse_broadcast _ 8 s.stn ht]
    exact (congrArg Line.txQueue (State.finish_settle_quiet (u := { s.heardFrom p h.sender with
      line.lastRefusal := some ⟨.magazineRead, 8, s.stn⟩ }) rfl rfl).line :)

/-! ### ERROR DETAIL (R194) -/

theorem errorDetail_answered (hs : s.serves h = true) (ha : s.hearsAgain h = true) (hl : s.lineFree 1 = true) :
    ∃ t, exec (.errorDetail h p) s = .next t ∧ t.line.txQueue = s.placed (s.detailFrame h.sender)
      ∧ t.line.lastRefusal = s.line.lastRefusal := by
  have k := reply_ends (p := p) (h := h) (k := .errorDetail) nofun [s.detailFrame h.sender] hl
  have ht : exec (.errorDetail h p) s = request s h p fun t => t.reply .errorDetail [t.detailFrame h.sender] := rfl
  exact ⟨_, ht.trans (request_again hs ha p _), congrArg Line.txQueue k.line,
    (congrArg Line.lastRefusal k.line :)⟩

end

/-- Settles O24: each request by its own lemma. -/
theorem talliesAndReadoutsAreAnswered : Obligations.TalliesAndReadoutsAreAnswered := by
  intro h p s hs ha
  refine ⟨fun _ hm => tallySnapshot_taken hs ha hm, fun _ h1 h2 => tallySnapshot_refused hs ha h1 h2,
    fun hl => tallyRead_answered hs ha hl, fun hf hl => magazineRead_input hs ha hf hl,
    fun hf he hl => magazineRead_output hs ha hf he hl, fun hf he => magazineRead_refused hs ha hf he, fun hl => ?_⟩
  obtain ⟨t, ht, hq, hlast⟩ := errorDetail_answered (p := p) hs ha hl
  refine ⟨t, ht, ?_, hlast⟩
  rw [hq, State.detailFrame]
  cases s.line.lastRefusal <;> rfl

end Sys2Proof.Machine
